-- ==== Sys2Proof/Word.lean ====
section
/-! DEFINITION. The words of the machine: bytes, 32-bit memory words and time base values (R178, R186). -/

namespace Sys2Proof

/-- One byte of memory, of a deck bus answer or of a ship link frame. -/
abbrev Byte := BitVec 8

/-- One 32-bit memory word (R186). -/
abbrev Word := BitVec 32

/-- A time base value, in 0.1 s; it wraps (R178). -/
abbrev Time := BitVec 32

end Sys2Proof
end

