-- ==== Sys2Proof/Syntax.lean ====
section
/-! DEFINITION. The commands of the device: one constructor per row of spec/opcode_table.json, with its operands. -/

namespace Sys2Proof

/-- A delivery line, 1 to 3 (spec/00_scope.md section 4.2). -/
inductive Line
  | l1 | l2 | l3
  deriving DecidableEq, Repr

/-- A valve role within a line (spec/00_scope.md section 4.2). -/
inductive Role
  | discharge | manifold | returnValve | strip
  deriving DecidableEq, Repr

/-- Tank T stands as T - 1. -/
abbrev TankNo := Fin 24

/-- Deck bus node N stands as N - 1. -/
abbrev NodeNo := Fin 31

/-- The condition of a shutdown loop (R85). -/
inductive Loop
  | healthy | broken
  deriving DecidableEq, Repr

/-- One upstream word access as the station processor presents it (R150). -/
structure Access where
  /-- 32 address lines. -/
  addr : Word
  /-- The read/write line. -/
  write : Bool
  /-- The four byte enables; bit k enables the byte at address 4 n + k (R186). -/
  enables : BitVec 4
  /-- The write data; not used by a read. -/
  data : Word
  deriving DecidableEq, Repr

/-- What one slot of a frame showed on the wire (R107). -/
structure SlotSeen where
  /-- CHECK_ERROR was driven in the check phase. -/
  checkDriven : Bool
  /-- The bytes of the answer, or none when no answer began within the answer wait. -/
  answer : Option (List Byte)
  deriving DecidableEq, Repr

/-- The commands: one constructor per row of the table of operations and events. The argument byte of a request
is bits 15 to 8 of the request word (R186). -/
inductive Instr
  | powerOnReset (straps : BitVec 8)
  | stationReset
  | shipLoopChange (condition : Loop)
  | upstreamGrant (access : Access)
  | openLine (line : Line) (argument : Byte)
  | hold (line : Line) (argument : Byte)
  | resume (line : Line) (argument : Byte)
  | stop (line : Line) (argument : Byte)
  | loadCharter (argument : Byte)
  | lockLimits (argument : Byte)
  | trip (argument : Byte)
  | tripReset (argument : Byte)
  | silence (argument : Byte)
  | rateDemandWrite (line : Line) (value : Word)
  | valveDemandWrite (line : Line) (role : Role) (value : Word)
  | consumerIndexWrite (value : Word)
  | internalJobGrant
  | resultWrite
  | planReadDone
  | charterReadDone
  | reportEntryDone
  | producerIndexWrite
  | frameStart
  | idleScanExpiry
  | busPull
  | slotResult (seen : SlotSeen)
  | travelExpiry (node : NodeNo)
  | shipStatus (bytes : List Byte)
  | tankReport (bytes : List Byte)
  | frameDiscarded (bytes : List Byte)
  | frameIncomplete (bytes : List Byte)
  | shipSilent
  | shipLost
  | statusExpiry
  | frameSent
  | tankSilenceExpiry (tank : TankNo)
  | tankLostExpiry (tank : TankNo)
  | closeDeadlineExpiry (tank : TankNo)
  | governorStep (line : Line)
  | lineupLimitExpiry (line : Line)
  | primeLimitExpiry (line : Line)
  | holdLimitExpiry (line : Line)
  | pumpStopExpiry (line : Line)
  | stripLimitExpiry (line : Line)
  | esdPumpDeadlineExpiry (line : Line)
  deriving DecidableEq, Repr

end Sys2Proof
end

