-- ==== Sys2Proof/Decode.lean ====
section
/-! DEFINITION. The commands that a word spells by the table of operations and events: the table gives no row bits, so
no word spells a command. -/

namespace Sys2Proof

/-- No row of spec/opcode_table.json gives bits: no command. -/
def decodeTableWord (_nbits _w : Nat) : Option Instr := none

end Sys2Proof
end

