-- ==== Sys2Proof/Config.lean ====
section
/-! DEFINITION. What is fixed for the machine: the contents of memory that nothing has written, the sizes of its
queues and rings, and its fixed times. The manual leaves no instruction result undefined, so there is no free
value here. -/

namespace Sys2Proof.Config

/-- What a byte of memory reads as while nothing has written it.
DESIGN CHOICE, unsafe (log 1): the manual does not say what the static memory holds at power-on. -/
def unwrittenByte : Byte := 0

/-- The downstream memory has 32 address lines (spec/00_scope.md section 5): byte addresses below this. -/
def addressSpace : Nat := 4294967296

/-- The window is 16 KiB (R151). -/
def windowSize : Nat := 16384

/-- The request queue holds up to 8 requests (R164, R165). -/
def requestQueueSize : Nat := 8

/-- The report queue holds up to 16 reports (R172). -/
def reportQueueSize : Nat := 16

/-- The overrun count stays at this value once it has reached it (R172). -/
def overrunMax : Nat := 65535

/-- The report ring has 64 slots, of which 63 may be unconsumed (R173). -/
def ringSlots : Nat := 64

/-- The arbiter's bound on upstream grants between two internal jobs (R157). -/
def waitBound : Nat := 4

/-- A charter read job covers 32 words, and 32 jobs read the charter (R162). -/
def charterJobs : Nat := 32

/-- A miss count of 3 makes a FRESH node STALE (R109). -/
def missLimit : Nat := 3

/-- Three consecutive failed slots in SEND or PROBE end a transaction FAILED (R130). -/
def errorLimit : Nat := 3

/-- A position or speed within 2 of its target has arrived (R128). -/
def arrivalMargin : Nat := 2

/-- The idle scan expiry falls 5 s after the last frame start (R114), in 0.1 s. -/
def idleScanTime : Nat := 50

/-- Frames start at least 250 ms apart (R115), in half steps of the time base (50 ms each; log 2). -/
def frameSpacingHalves : Nat := 5

/-- The fill rate is measured over windows of at least 30 s (R52), in 0.1 s. -/
def fillWindow : Nat := 300

/-- A BARGE_STATUS falls due each second (R148), in 0.1 s. -/
def statusPeriod : Nat := 10

end Sys2Proof.Config
end

