-- ==== Sys2Proof/Machine/State.lean ====
section
/-! DEFINITION. The state of the DV630 as plain data, block by block (spec/00_scope.md section 2.2), the reasons a step
can stop, and the machine right after reset. The rule of spec/ that names a piece of state stands in its docstring. -/

namespace Sys2Proof.Machine

/-- One value for each of lines 1 to 3. -/
structure PerLine (α : Type) where
  l1 : α
  l2 : α
  l3 : α
  deriving DecidableEq, Repr

/-- One value for each valve role of a line. -/
structure PerRole (α : Type) where
  discharge : α
  manifold : α
  returnValve : α
  strip : α
  deriving DecidableEq, Repr

/-! ## Enumerations (spec/12, section 12.10) -/

/-- The device mode (R177). -/
inductive Mode
  | passive | loading | watch
  deriving DecidableEq, Repr

/-- How the last load ended (R177). -/
inductive LoadResult
  | none | ok | crcMismatch | fieldRange | nodeSet
  deriving DecidableEq, Repr

/-- The eleven line states (R1). -/
inductive LineState
  | free | lineup | priming | delivering | topping | held | stopping | stripping | closing | tripping | tripped
  deriving DecidableEq, Repr

/-- The steps of the line states and of the ESD sequence (section 1.3, R91 to R93). -/
inductive Step
  | none | dischargeOpening | manifoldOpening | startWait | returnClosing | prime | hold | ramp | pumpStopping
  | strip | holdOff | manifoldClosing | valvesClosing | esdPumpStop | esdManifold | esdDischarge
  deriving DecidableEq, Repr

/-- The reasons a line waits (R12). -/
inductive HoldCause
  | stationHold | noPath | localValve | staleReading | shipNotReady
  deriving DecidableEq, Repr

/-- The stop causes of R17 and the ESD causes of R88: the values of the stop cause field (R18). -/
inductive Cause
  | stationStop | lineupFailed | primeFailed | holdTooLong | nominationMet | pressureStop | pumpFault | closeOverdue
  | lastTankHigh | tankLost | shipStop | shipLost | stationReset
  | shipLoop | stationTrip | overfill | pressureTrip | hoseLoss | valveFailed
  deriving DecidableEq, Repr

/-- How stripping ended (R1). -/
inductive StripResult
  | none | complete | incomplete | interrupted
  deriving DecidableEq, Repr

/-- The pressure bands (R75). -/
inductive Band
  | low | normal | reduce | stop | trip
  deriving DecidableEq, Repr

/-- The level states of a tank (R54). -/
inductive TankState
  | unknown | idle | filling | near | high | overfill
  deriving DecidableEq, Repr

/-- How recent a tank's last report is (R47). -/
inductive TankFresh
  | fresh | silent | lost
  deriving DecidableEq, Repr

/-- The last reported ship valve state (R47). -/
inductive ShipValve
  | unknown | opened | closed | moving
  deriving DecidableEq, Repr

/-- The last reported ship alarm (R47). -/
inductive ShipAlarm
  | none | high | overfill
  deriving DecidableEq, Repr

/-- The advice given for a tank (R57, R58). -/
inductive Advice
  | none | approaching | closeNow
  deriving DecidableEq, Repr

/-- The kinds of deck bus node (R102). -/
inductive NodeKind
  | none | valve | pump | pressure | flow
  deriving DecidableEq, Repr

/-- The valve state of a VALVE node (R102). -/
inductive ValveState
  | closed | opened | moving | probing | localControl | failed
  deriving DecidableEq, Repr

/-- The target of a MOVE (R118). -/
inductive Target
  | closed | opened
  deriving DecidableEq, Repr

/-- What a claim or a transaction asks of its node: a MOVE to a target or a SPEED in per cent (R118). -/
inductive Act
  | move (target : Target)
  | speed (percent : Nat)
  deriving DecidableEq, Repr

/-- The claimer of a transaction (R118). -/
inductive Origin
  | sequence | station | esd
  deriving DecidableEq, Repr

/-- Where a transaction in flight stands (R118). -/
inductive Phase
  | send | probe | travel
  deriving DecidableEq, Repr

/-- How a transaction ends (R132). -/
inductive TxOutcome
  | done | refused | failed | abandoned
  deriving DecidableEq, Repr

/-- How a claim leaves the slots without having gone in flight (R125). -/
inductive DropCause
  | esdAhead | replaced | withdrawn
  deriving DecidableEq, Repr

/-- The slot result that made a node STALE (R109). -/
inductive StaleCause
  | silent | checkError | fault
  deriving DecidableEq, Repr

/-- The bus mode (R114). -/
inductive BusMode
  | off | steady | rest
  deriving DecidableEq, Repr

/-- The tail of the last frame (R104); none before the first frame since WATCH was entered. -/
inductive Tail
  | none | long | short
  deriving DecidableEq, Repr

/-- The messages of the deck bus (R106). -/
inductive Message
  | poll
  | move (target : Target)
  | speed (percent : Nat)
  | probe
  deriving DecidableEq, Repr

/-- The answer codes of the deck bus (R106). -/
inductive AnswerCode
  | status | taken | busy | ready | refused
  deriving DecidableEq, Repr

/-- The ship link states (R137). -/
inductive LinkState
  | idle | active | silent | lost
  deriving DecidableEq, Repr

/-- The permits of a SHIP_STATUS (R137). -/
inductive Permit
  | go | reduce | stop | notReady
  deriving DecidableEq, Repr

/-- A maximum rate of a SHIP_STATUS: a rate, or NONE (R137). -/
inductive MaxRate
  | rate (value : Nat)
  | unlimited
  deriving DecidableEq, Repr

/-- The results a request word can show (section 10.4), and BAD_VALUE (R170). -/
inductive Result
  | pending | done | queueFull | unknownKind | notLoaded | notFitted | wrongState | esdLatched | shipEsd | shipLink
  | planInvalid | tankInUse | valvesBusy | readingStale | linesActive | nodesBusy | loopBroken
  | crcMismatch | fieldRange | nodeSet | badValue
  deriving DecidableEq, Repr

/-- The report kinds (section 12.7). -/
inductive ReportKind
  | loaded | loadFailed | lineState | rateLow | rateOk | tankState | tankAdviceSent | valveDone | claimDropped | badWrite
  | nodeStale | nodeFresh | shipSilent | shipLost | shipBack | esd | tripCleared | lineSummary | demandRefused | overrun
  deriving DecidableEq, Repr

/-- The cause field of a report: the code set of its kind (section 12.10). -/
inductive ReportCause
  | none
  | line (cause : Cause)
  | hold (cause : HoldCause)
  | tank (state : TankState)
  | freshness (value : TankFresh)
  | link (left : LinkState)
  | advice (value : Advice)
  | load (result : LoadResult)
  | refusal (result : Result)
  | outcome (value : TxOutcome)
  | dropped (value : DropCause)
  | stale (value : StaleCause)
  deriving DecidableEq, Repr

/-! ## Memory port (R150 to R163) -/

/-- The treatments of an upstream access (R152). -/
inductive Treatment
  | pass | rewrite | suppress
  deriving DecidableEq, Repr

/-- What the upstream port showed at its last ready: the treatment and, for a read, the data memory returned (R152). -/
structure UpstreamReply where
  treatment : Treatment
  data : Word
  deriving DecidableEq, Repr

/-- A read job of the internal master (R162); a plan read whose OPEN a station reset dropped is discarded (R165). -/
inductive ReadJob
  | charter (index : Nat)
  | plan (line : Line) (discarded : Bool)
  deriving DecidableEq, Repr

/-- An internal burst that holds the downstream port until its end is commanded (R158). -/
inductive Burst
  /-- A report entry; orphaned when a station reset came while it was in progress (log 11). -/
  | entry (orphaned : Bool)
  | read (job : ReadJob)
  deriving DecidableEq, Repr

/-- A request word: of a line, or the general one (R164). -/
inductive RequestWord
  | line (l : Line)
  | general
  deriving DecidableEq, Repr

/-- A request in the queue (R164). -/
structure Request where
  word : RequestWord
  kind : Byte
  argument : Byte
  time : Time
  deriving DecidableEq, Repr

/-- A report (section 10.6); detail is the strip result of a LINE_SUMMARY (section 12.7). -/
structure Report where
  kind : ReportKind
  line : Nat
  subject : Nat
  cause : ReportCause
  valueA : Word
  valueB : Word
  time : Time
  detail : StripResult
  deriving DecidableEq, Repr

/-- The port and its arbiter (R157), the station accesses that wait for their grant (R152), and whether write jobs may be
granted (R163, R185). -/
structure Port where
  burst : Option Burst
  waitCount : Nat
  /-- The accesses whose requests are raised and whose ready is withheld, first in first out (R152, R157; log 9). -/
  waiting : List Access
  writesOpen : Bool
  reply : Option UpstreamReply
  deriving DecidableEq, Repr

/-- The job list of the internal master but for its refreshes (R159). -/
structure Jobs where
  result : Option Result
  producer : Bool
  consumer : Bool
  entry : Option Report
  reads : List ReadJob
  deriving DecidableEq, Repr

/-- The changed marks, one per refresh unit (R160). -/
structure Marks where
  rates : Bool
  valves : Bool
  status : Bool
  lines : PerLine Bool
  tanks : Vector Bool 24
  nodes : Vector Bool 31
  deriving DecidableEq, Repr

/-- A refresh unit (R160). -/
inductive RefreshUnit
  | rates | valves | status
  | line (l : Line)
  | tank (t : TankNo)
  | node (n : NodeNo)
  deriving DecidableEq, Repr

/-! ## Request unit (R164 to R169) -/

/-- What the request in hand waits for (R165): to be taken, its plan read, the end of its load, or its result write. -/
inductive HandPhase
  | untaken | planRead | load | resultWrite
  deriving DecidableEq, Repr

/-- The request queue; its head is the request in hand (R165). -/
structure RequestUnit where
  queue : List Request
  phase : HandPhase
  deriving DecidableEq, Repr

/-! ## Report unit (R172 to R176) -/

structure ReportUnit where
  queue : List Report
  /-- The reports at the front of the queue that a CLAIM_DROPPED does not go ahead of: those of earlier events and of
  earlier items of the present one (R125; log 29). -/
  placed : Nat
  overrun : Nat
  producer : Nat
  consumer : Nat
  /-- The producer index last written into memory (R175). -/
  producerInMemory : Nat
  usable : Bool
  interrupt : Bool
  deriving DecidableEq, Repr

/-! ## Line controller (R1) -/

/-- The set of hold causes (R12), in the order of their bits (section 12.6). -/
structure HoldSet where
  stationHold : Bool
  noPath : Bool
  localValve : Bool
  staleReading : Bool
  shipNotReady : Bool
  deriving DecidableEq, Repr

/-- The set of topping causes (R69), in the order of their bits (section 12.6). -/
structure ToppingSet where
  tankNear : Bool
  tankLead : Bool
  nominationNear : Bool
  tankSilent : Bool
  shipSilent : Bool
  deriving DecidableEq, Repr

/-- The line context (R1), but for the values it shows of the governor and the tank watch, which those hold. -/
structure LineContext where
  fitted : Bool
  state : LineState
  step : Step
  hold : HoldSet
  topping : ToppingSet
  stopCause : Option Cause
  stripFlag : Bool
  stripResult : StripResult
  nominated : Word
  base : Word
  holdStart : Option Time
  entry : Time
  deadline : Option Time
  deriving DecidableEq, Repr

/-- What a line's sequence remembers besides the context (log 35): the lineup claims that ended REFUSED (R5) and the
closing claims of step VALVES_CLOSING whose end is awaited (R24). -/
structure SequenceMemory where
  refused : PerRole Bool
  awaited : PerRole Bool
  deriving DecidableEq, Repr

/-! ## Rate governor (R30) -/

structure Governor where
  requested : Nat
  ceiling : Nat
  allowed : Nat
  lastSpeed : Nat
  reclaim : Bool
  rateLow : Bool
  expiry : Option Time
  delivered : Word
  deriving DecidableEq, Repr

/-! ## Tank watch (R47, R63, R67, R68) -/

/-- A fill-rate reference (R52). -/
structure Reference where
  volume : Nat
  time : Time
  deriving DecidableEq, Repr

/-- The entry of a present tank (R47) with its two expiries (R55). -/
structure Tank where
  capacity : Nat
  highMark : Nat
  overfillMark : Nat
  grade : Nat
  closeAllowance : Nat
  assigned : Option Line
  state : TankState
  freshness : TankFresh
  volume : Option Nat
  valve : ShipValve
  alarm : ShipAlarm
  reference : Option Reference
  fillRate : Option Int
  timeToHigh : Option Nat
  advice : Advice
  closeDeadline : Option Time
  lastReport : Option Time
  silenceExpiry : Option Time
  lostExpiry : Option Time
  deriving DecidableEq, Repr

/-- What the tank watch holds of a line: open-tank count, top-off order, head time to high (R63, R67, R68). -/
structure TopOff where
  openCount : Nat
  order : List TankNo
  head : Option Nat
  deriving DecidableEq, Repr

/-! ## Hose watch (R73) -/

structure Hose where
  pressure : Option Nat
  readingTime : Option Time
  band : Option Band
  armed : Bool
  primingCount : Nat
  lowCount : Nat
  deriving DecidableEq, Repr

/-! ## Shutdown unit (R85) -/

/-- What is recorded when the latch is set (R89). -/
structure FirstCause where
  cause : Cause
  time : Time
  deriving DecidableEq, Repr

structure Shutdown where
  latch : Bool
  first : Option FirstCause
  firstLine : Nat
  firstSubject : Nat
  shipLoop : Loop
  bargeLoop : Loop
  hornSounding : Bool
  alarmPending : Bool
  tankAlarm : Bool
  valveAlarm : Bool
  sequence : PerLine Step
  pumpDeadline : PerLine (Option Time)
  deriving DecidableEq, Repr

/-! ## Deck bus controller (R102 to R136) -/

/-- A claim, or a queued transaction (R118, R120). -/
structure Claim where
  act : Act
  origin : Origin
  deriving DecidableEq, Repr

/-- A transaction in flight (R118). -/
structure Transaction where
  act : Act
  origin : Origin
  phase : Phase
  errors : Nat
  inFlightTime : Time
  taken : Option Time
  travelExpiry : Option Time
  deriving DecidableEq, Repr

/-- A node record (R102); the line of a record of kind NONE is absent, shown as 0. -/
structure Node where
  kind : NodeKind
  line : Option Line
  role : Role
  travelLimit : Nat
  readingA : Nat
  readingB : Word
  inLocal : Bool
  fault : Bool
  moving : Bool
  stale : Bool
  misses : Nat
  valve : ValveState
  inFlight : Option Transaction
  queued : Option Claim
  deriving DecidableEq, Repr

/-- The target in force of a VALVE node, and whether its first valve state since the rebuild is still to come with no
MOVE in flight before it (R119). -/
structure TargetInForce where
  target : Target
  awaitsFirst : Bool
  deriving DecidableEq, Repr

/-- The slot in progress: its node, the message sent, and whether another transaction has entered the node's in-flight
slot since the slot began (R105, R131). -/
structure Slot where
  node : NodeNo
  message : Message
  entered : Bool
  deriving DecidableEq, Repr

/-- A moment to half a step of the time base, 50 ms (log 2). -/
structure HalfTime where
  time : Time
  half : Bool
  deriving DecidableEq, Repr

structure Bus where
  mode : BusMode
  slot : Option Slot
  tail : Tail
  lastStart : Option HalfTime
  idleScan : Option Time
  /-- A frame start event held for the 250 ms spacing (R115). -/
  startHeld : Bool
  /-- The bus mode went from REST to STEADY in the event in progress with no frame in progress (R114; log 13). -/
  startDue : Bool
  deriving DecidableEq, Repr

/-! ## Ship link controller (R137) -/

/-- An entry of the send queue (R147). -/
inductive SendEntry
  | advice (tank : TankNo) (value : Advice)
  | stopping (line : Line) (cause : Cause)
  deriving DecidableEq, Repr

/-- The receiver's partial frame (R138): its bytes from the lead byte on, and whether it has been taken since then. -/
structure PartialFrame where
  taken : Bool
  bytes : List Byte
  deriving DecidableEq, Repr

/-- One line's share of a SHIP_STATUS (R137). -/
structure LineStatus where
  permit : Permit
  maxRate : MaxRate
  pressure : Option Nat
  deriving DecidableEq, Repr

structure Link where
  state : LinkState
  taking : Bool
  lastStatus : Option Time
  /-- The last valid SHIP_STATUS since WATCH entry; absent before it. -/
  status : Option (PerLine LineStatus)
  silenceExpiry : Option Time
  lossExpiry : Option Time
  statusExpiry : Option Time
  statusDue : Bool
  queue : List SendEntry
  /-- The frame on the line, or none when the transmitter is FREE. -/
  sending : Option (List Byte)
  partialFrame : Option PartialFrame
  deriving DecidableEq, Repr

/-! ## Charter unit (R177) -/

/-- The general settings (section 12.3). -/
structure General where
  fittedLines : Nat
  fittedTanks : Nat
  governorPeriod : Nat
  shipSilence : Nat
  shipLoss : Nat
  tankSilence : Nat
  tankLost : Nat
  deriving DecidableEq, Repr

/-- The limits of one line (section 12.3). -/
structure Limits where
  peak : Nat
  floor : Nat
  start : Nat
  topOff : Nat
  prime : Nat
  lowThreshold : Nat
  riseStep : Nat
  cutFraction : Nat
  fallLimit : Nat
  toppingVolume : Nat
  toppingLead : Nat
  low : Nat
  stripDone : Nat
  primePressure : Nat
  reduce : Nat
  stop : Nat
  trip : Nat
  primeLimit : Nat
  lineupLimit : Nat
  pumpStop : Nat
  stripLimit : Nat
  holdLimit : Nat
  deriving DecidableEq, Repr

/-- The charter in force: general settings and line limits. Its node and tank settings are held where they are used,
in the node table and the tank table. -/
structure Charter where
  general : General
  lines : PerLine Limits
  deriving DecidableEq, Repr

structure CharterUnit where
  mode : Mode
  inForce : Option Charter
  crc : Word
  result : LoadResult
  detail : Word
  lock : Bool
  progress : Nat
  runningCrc : Word
  /-- The words read in the present load, in ascending offset (R179). -/
  working : List Word
  deriving DecidableEq, Repr

/-! ## The device and the state -/

/-- The device: every block's state. -/
structure Device where
  time : Time
  /-- The second half, 50 ms, of the present time base step (log 2). -/
  half : Bool
  /-- The window strap value (R151). -/
  strap : BitVec 8
  port : Port
  jobs : Jobs
  marks : Marks
  requests : RequestUnit
  reports : ReportUnit
  lines : PerLine LineContext
  memory : PerLine SequenceMemory
  governors : PerLine Governor
  hoses : PerLine Hose
  tanks : Vector (Option Tank) 24
  topOffs : PerLine TopOff
  shutdown : Shutdown
  nodes : Vector Node 31
  targets : Vector TargetInForce 31
  bus : Bus
  link : Link
  charter : CharterUnit
  deriving DecidableEq, Repr

/-- The static memory behind the downstream port: (byte address, byte), addresses strictly rising, no entry equal to
what an unlisted address reads as. -/
abbrev Memory := List Host.Cell

/-- The machine: the device, the memory behind it, and the commands that wait, first in first out. -/
structure State where
  device : Device
  mem : Memory
  pending : List Instr
  deriving DecidableEq, Repr

/-- The manual describes no stop of the device: no command ends in a fault. -/
inductive Fault
  deriving DecidableEq, Repr

/-- Why a command is refused. -/
inductive Refusal
  /-- Raised by exec's arms only, for a command that has no meaning yet; safe. No arm raises it now. -/
  | notModelled (mnemonic : String)
  deriving DecidableEq, Repr

/-! ## Reset values -/

def HoldSet.empty : HoldSet := ⟨false, false, false, false, false⟩

def ToppingSet.empty : ToppingSet := ⟨false, false, false, false, false⟩

/-- The same value for each line. -/
def PerLine.all {α : Type} (a : α) : PerLine α := ⟨a, a, a⟩

/-- The same value for each role. -/
def PerRole.all {α : Type} (a : α) : PerRole α := ⟨a, a, a, a⟩

/-- The line context after power-on reset (R2). -/
def LineContext.reset : LineContext :=
  { fitted := false, state := .free, step := .none, hold := .empty, topping := .empty, stopCause := none,
    stripFlag := false, stripResult := .none, nominated := 0, base := 0, holdStart := none, entry := 0,
    deadline := none }

/-- Nothing refused, nothing awaited. -/
def SequenceMemory.reset : SequenceMemory := { refused := .all false, awaited := .all false }

/-- The governor's items after power-on reset (R30). -/
def Governor.reset : Governor :=
  { requested := 0, ceiling := 0, allowed := 0, lastSpeed := 0, reclaim := false, rateLow := false, expiry := none,
    delivered := 0 }

/-- The hose watch items after power-on reset and after every load (R73). -/
def Hose.reset : Hose :=
  { pressure := none, readingTime := none, band := none, armed := false, primingCount := 0, lowCount := 0 }

/-- The tank watch's items of a line without tanks (R2, R48). -/
def TopOff.empty : TopOff := { openCount := 0, order := [], head := none }

/-- The shutdown unit after power-on reset (R85). -/
def Shutdown.reset : Shutdown :=
  { latch := false, first := none, firstLine := 0, firstSubject := 0, shipLoop := .broken, bargeLoop := .broken,
    hornSounding := false, alarmPending := false, tankAlarm := false, valveAlarm := false, sequence := .all .none,
    pumpDeadline := .all none }

/-- A node record of kind NONE after power-on reset and after a failed load (R103).
DESIGN CHOICE, unsafe (log 6): the manual gives its other fields no values there. -/
def Node.blank : Node :=
  { kind := .none, line := none, role := .discharge, travelLimit := 0, readingA := 0, readingB := 0, inLocal := false,
    fault := false, moving := false, stale := false, misses := 0, valve := .closed, inFlight := none, queued := none }

/-- The bus after power-on reset (R103). That there is no last frame start and no tail yet is a DESIGN CHOICE, log 52: the
manual gives neither a value before the first frame. -/
def Bus.reset : Bus :=
  { mode := .off, slot := none, tail := .none, lastStart := none, idleScan := none, startHeld := false,
    startDue := false }

/-- The ship link controller after power-on reset (R137). That the receiver holds no partial frame is a DESIGN CHOICE, unsafe
(log 53): R137's start values give none for it. -/
def Link.reset : Link :=
  { state := .idle, taking := false, lastStatus := none, status := none, silenceExpiry := none, lossExpiry := none,
    statusExpiry := none, statusDue := false, queue := [], sending := none, partialFrame := none }

/-- The charter unit after power-on reset (R177).
DESIGN CHOICE, unsafe (log 5): the manual gives the running CRC and the working copy no values there. -/
def CharterUnit.reset : CharterUnit :=
  { mode := .passive, inForce := none, crc := 0, result := .none, detail := 0, lock := false, progress := 0,
    runningCrc := 0, working := [] }

/-- No unit marked (R163). -/
def Marks.clear : Marks :=
  { rates := false, valves := false, status := false, lines := .all false, tanks := Vector.replicate 24 false,
    nodes := Vector.replicate 31 false }

/-- The device at the end of power-on reset, with the straps sampled (R151, R163, R165, R172, R178, R185). A station access
that waited is dropped: DESIGN CHOICE, log 50. -/
def Device.reset (straps : BitVec 8) : Device :=
  { time := 0, half := false, strap := straps,
    port := { burst := none, waitCount := 0, waiting := [], writesOpen := false, reply := none },
    jobs := { result := none, producer := false, consumer := false, entry := none, reads := [] },
    marks := .clear,
    requests := { queue := [], phase := .untaken },
    reports := { queue := [], placed := 0, overrun := 0, producer := 0, consumer := 0, producerInMemory := 0,
                 usable := false, interrupt := false },
    lines := .all .reset, memory := .all .reset, governors := .all .reset, hoses := .all .reset,
    tanks := Vector.replicate 24 none, topOffs := .all .empty, shutdown := .reset,
    nodes := Vector.replicate 31 .blank, targets := Vector.replicate 31 ⟨.closed, false⟩, bus := .reset,
    link := .reset, charter := .reset }

/-- The machine right after power-on reset, nothing waiting, nothing written in memory.
DESIGN CHOICE, unsafe (log 4): the straps are at 0; POWER_ON_RESET samples any others. -/
def State.reset : State := { device := .reset 0, mem := [], pending := [] }

end Sys2Proof.Machine
end

