-- ==== Sys2Proof/Machine/Ops.lean ====
section
/-! DEFINITION. The shared operations: tables, memory, time, the changed marks that every writer of shown state sets
(R160), the submission of reports (R172), and the accessors of the blocks' state. -/

namespace Sys2Proof.Machine

open Sys2Proof

/-! ## Lines, roles, tables -/

/-- The line's number, 1 to 3. -/
def lineNumber : Line → Nat
  | .l1 => 1
  | .l2 => 2
  | .l3 => 3

/-- The lines in ascending order. -/
def allLines : List Line := [.l1, .l2, .l3]

/-- A line number or 0 for none (spec/00_scope.md section 4.2). -/
def lineNumberOr0 : Option Line → Nat
  | none => 0
  | some l => lineNumber l

/-- The line of a number, none outside 1 to 3. -/
def lineOfNumber : Nat → Option Line
  | 1 => some .l1
  | 2 => some .l2
  | 3 => some .l3
  | _ => none

def PerLine.get {α : Type} (p : PerLine α) : Line → α
  | .l1 => p.l1
  | .l2 => p.l2
  | .l3 => p.l3

def PerLine.set {α : Type} (p : PerLine α) (l : Line) (a : α) : PerLine α :=
  match l with
  | .l1 => { p with l1 := a }
  | .l2 => { p with l2 := a }
  | .l3 => { p with l3 := a }

def PerRole.get {α : Type} (p : PerRole α) : Role → α
  | .discharge => p.discharge
  | .manifold => p.manifold
  | .returnValve => p.returnValve
  | .strip => p.strip

def PerRole.set {α : Type} (p : PerRole α) (r : Role) (a : α) : PerRole α :=
  match r with
  | .discharge => { p with discharge := a }
  | .manifold => { p with manifold := a }
  | .returnValve => { p with returnValve := a }
  | .strip => { p with strip := a }

/-- The roles in the order of their codes. -/
def allRoles : List Role := [.discharge, .manifold, .returnValve, .strip]

/-- The place of a role in the valve demand words (section 10.5). -/
def roleIndex : Role → Nat
  | .discharge => 0
  | .manifold => 1
  | .returnValve => 2
  | .strip => 3

/-- A table with one entry replaced. -/
def putAt {α : Type} {n : Nat} (v : Vector α n) (i : Fin n) (a : α) : Vector α n :=
  v.set i.val a i.isLt

/-- The numbers below n that are below m, ascending (m at most n). -/
def upTo (n : Nat) : (m : Nat) → m ≤ n → List (Fin n)
  | 0, _ => []
  | m + 1, h => upTo n m (Nat.le_of_succ_le h) ++ [⟨m, h⟩]

/-- Tanks 1 to 24 in ascending number. -/
def allTanks : List TankNo := upTo 24 24 (Nat.le_refl 24)

/-- Node addresses 1 to 31 in ascending order. -/
def allNodes : List NodeNo := upTo 31 31 (Nat.le_refl 31)

/-- The tank's number, 1 to 24. -/
def tankNumber (t : TankNo) : Nat := t.val + 1

/-- The node's address, 1 to 31. -/
def nodeAddress (n : NodeNo) : Nat := n.val + 1

/-- The tank of a number, none outside 1 to 24. -/
def tankOfNumber (k : Nat) : Option TankNo :=
  if h : 1 ≤ k ∧ k ≤ 24 then some ⟨k - 1, by omega⟩ else none

/-! ## Memory -/

/-- What an address reads as while nothing has written it (log 1). -/
def Memory.read : Memory → Nat → Byte
  | [], _ => Config.unwrittenByte
  | (k, v) :: m, a => if k = a then v else Memory.read m a

/-- One byte written; the canonical form is kept: rising addresses, no entry equal to what an unlisted address reads
as. -/
def Memory.write : Memory → Nat → Byte → Memory
  | [], a, b => if b = Config.unwrittenByte then [] else [(a, b)]
  | (k, v) :: m, a, b =>
    if a < k then (if b = Config.unwrittenByte then (k, v) :: m else (a, b) :: (k, v) :: m)
    else if a = k then (if b = Config.unwrittenByte then m else (a, b) :: m)
    else (k, v) :: Memory.write m a b

/-- The canonical form above an address: every entry lies above it, addresses rise, none reads as unwritten, and all
lie in the address space. -/
def Memory.canonicalFrom : Nat → Memory → Bool
  | _, [] => true
  | least, (k, v) :: m =>
    decide (least ≤ k) && decide (k < Config.addressSpace) && decide (v ≠ Config.unwrittenByte)
      && Memory.canonicalFrom (k + 1) m

/-- The memory is in canonical form. -/
def Memory.wf (m : Memory) : Bool := Memory.canonicalFrom 0 m

/-- Byte k of a word: bits 8 k + 7 to 8 k (R186). -/
def wordByte (w : Word) (k : Nat) : Byte := BitVec.ofNat 8 (w.toNat >>> (8 * k))

/-- The byte address of a word: the low two address bits select no word (log 27). -/
def wordAddress (a : Word) : Nat := a.toNat / 4 * 4

/-- The word at a byte address that is a multiple of 4, lowest byte first (R186). -/
def Memory.readWord (m : Memory) (a : Nat) : Word :=
  BitVec.ofNat 32 ((m.read a).toNat + (m.read (a + 1)).toNat * 256 + (m.read (a + 2)).toNat * 65536
    + (m.read (a + 3)).toNat * 16777216)

/-- A word written under byte enables: bit k enables the byte at a + k (R150, R155). -/
def Memory.writeEnabled (m : Memory) (a : Nat) (enables : BitVec 4) (w : Word) : Memory :=
  [0, 1, 2, 3].foldl (fun m k => if enables.getLsbD k then m.write (a + k) (wordByte w k) else m) m

/-- A word written with all four byte enables. -/
def Memory.writeWord (m : Memory) (a : Nat) (w : Word) : Memory :=
  m.writeEnabled a 15 w

/-- A burst of words written at ascending consecutive word addresses (R158). -/
def Memory.writeWords (m : Memory) (a : Nat) : List Word → Memory
  | [] => m
  | w :: ws => Memory.writeWords (m.writeWord a w) (a + 4) ws

/-- A burst of words read at ascending consecutive word addresses (R158). -/
def Memory.readWords (m : Memory) (a : Nat) : Nat → List Word
  | 0 => []
  | n + 1 => m.readWord a :: Memory.readWords m (a + 4) n

/-! ## Time (R178) -/

/-- A number of seconds after the present time. -/
def Device.secondsOn (s : Device) (seconds : Nat) : Time := s.time + BitVec.ofNat 32 (seconds * 10)

/-- A deadline has fallen due: the present time has reached it, in time differences modulo 2^32 (R178). -/
def Device.reached (s : Device) (deadline : Time) : Bool := decide ((s.time - deadline).toNat < 2147483648)

/-- An expiry that is set and has fallen due (log 3). -/
def Device.due (s : Device) : Option Time → Bool
  | none => false
  | some d => s.reached d

/-- The 50 ms halves of the time base since a moment (log 2). -/
def Device.halvesSince (s : Device) (h : HalfTime) : Nat :=
  (s.time - h.time).toNat * 2 + s.half.toNat - h.half.toNat

/-- 50 ms pass: the second half of the present time base step, or the next step (log 2). -/
def Device.tick (s : Device) : Device :=
  if s.half then { s with half := false, time := s.time + 1 } else { s with half := true }

/-! ## Changed marks (R160)

Each setter below stores a value and marks the refresh unit that shows it, when what is shown has changed. -/

def Device.markStatus (s : Device) (changed : Bool) : Device :=
  { s with marks := { s.marks with status := s.marks.status || changed } }

def Device.markLine (s : Device) (l : Line) (changed : Bool) : Device :=
  { s with marks := { s.marks with lines := s.marks.lines.set l (s.marks.lines.get l || changed) } }

def Device.markTank (s : Device) (t : TankNo) : Device :=
  { s with marks := { s.marks with tanks := putAt s.marks.tanks t true } }

def Device.markNode (s : Device) (n : NodeNo) (changed : Bool) : Device :=
  { s with marks := { s.marks with nodes := putAt s.marks.nodes n (s.marks.nodes.get n || changed) } }

def Device.markValves (s : Device) (changed : Bool) : Device :=
  { s with marks := { s.marks with valves := s.marks.valves || changed } }

def Device.markRates (s : Device) : Device :=
  { s with marks := { s.marks with rates := true } }

/-- Every refresh unit marked (R163). -/
def Device.markAll (s : Device) : Device :=
  { s with marks := { rates := true, valves := true, status := true, lines := .all true,
                      tanks := Vector.replicate 24 true, nodes := Vector.replicate 31 true } }

/-- The line context of a line. -/
def Device.line (s : Device) (l : Line) : LineContext := s.lines.get l

/-- Stores a line context and marks the line record (R1). -/
def Device.setLine (s : Device) (l : Line) (c : LineContext) : Device :=
  { s.markLine l (decide (c ≠ s.lines.get l)) with lines := s.lines.set l c }

def Device.governor (s : Device) (l : Line) : Governor := s.governors.get l

/-- Stores governor items; each change but one of the step expiry marks the line record (R30). -/
def Device.setGovernor (s : Device) (l : Line) (g : Governor) : Device :=
  let old := s.governors.get l
  { s.markLine l (decide ({ g with expiry := none } ≠ { old with expiry := none })) with
    governors := s.governors.set l g }

def Device.hose (s : Device) (l : Line) : Hose := s.hoses.get l

/-- Stores hose watch items; a change of a shown item marks the line record (R73). -/
def Device.setHose (s : Device) (l : Line) (h : Hose) : Device :=
  let old := s.hoses.get l
  { s.markLine l (decide ({ h with armed := false } ≠ { old with armed := false })) with
    hoses := s.hoses.set l h }

def Device.topOff (s : Device) (l : Line) : TopOff := s.topOffs.get l

/-- Stores the tank watch's items of a line and marks the line record (R63, R68). -/
def Device.setTopOff (s : Device) (l : Line) (t : TopOff) : Device :=
  { s.markLine l (decide (t ≠ s.topOffs.get l)) with topOffs := s.topOffs.set l t }

def Device.sequenceMemory (s : Device) (l : Line) : SequenceMemory := s.memory.get l

def Device.setSequenceMemory (s : Device) (l : Line) (m : SequenceMemory) : Device :=
  { s with memory := s.memory.set l m }

def Device.tank (s : Device) (t : TankNo) : Option Tank := s.tanks.get t

/-- Stores a tank entry and marks its record (R47). -/
def Device.setTank (s : Device) (t : TankNo) (e : Tank) : Device :=
  { s.markTank t with tanks := putAt s.tanks t (some e) }

def Device.node (s : Device) (n : NodeNo) : Node := s.nodes.get n

/-- Stores a node record and marks it (R102). -/
def Device.setNode (s : Device) (n : NodeNo) (e : Node) : Device :=
  { s.markNode n (decide (e ≠ s.nodes.get n)) with nodes := putAt s.nodes n e }

/-- Stores a target in force; a change marks the valve demand words (R119, R171). -/
def Device.setTarget (s : Device) (n : NodeNo) (t : TargetInForce) : Device :=
  { s.markValves (decide (t.target ≠ (s.targets.get n).target)) with targets := putAt s.targets n t }

/-- Stores shutdown unit items; a change of a shown item, all but the pump deadlines, marks the status record (R85). -/
def Device.setShutdown (s : Device) (e : Shutdown) : Device :=
  { s.markStatus (decide ({ e with pumpDeadline := .all none } ≠ { s.shutdown with pumpDeadline := .all none })) with
    shutdown := e }

/-- Stores ship link items; a change of a shown item, all but the partial frame and the expiries, marks the status
record (R137). -/
def Device.setLink (s : Device) (k : Link) : Device :=
  let shown (x : Link) : Link :=
    { x with silenceExpiry := none, lossExpiry := none, statusExpiry := none, partialFrame := none }
  { s.markStatus (decide (shown k ≠ shown s.link)) with link := k }

/-- Stores charter unit items; a change of a shown item, all but the read progress and the running CRC, marks the
status record (R177). -/
def Device.setCharter (s : Device) (c : CharterUnit) : Device :=
  let shown (x : CharterUnit) : CharterUnit := { x with progress := 0, runningCrc := 0, working := [] }
  { s.markStatus (decide (shown c ≠ shown s.charter)) with charter := c }

/-- Stores the bus mode, which the status record shows (R114; log 19). -/
def Device.setBusMode (s : Device) (m : BusMode) : Device :=
  { s.markStatus (decide (m ≠ s.bus.mode)) with bus := { s.bus with mode := m } }

/-! ## Reports (R172) -/

/-- The overrun count increased, to at most its bound; the status record shows it (R172; log 19). -/
def Device.countOverrun (s : Device) (n : Nat) : Device :=
  let count := min Config.overrunMax (s.reports.overrun + n)
  { s.markStatus (decide (count ≠ s.reports.overrun)) with reports := { s.reports with overrun := count } }

/-- A report joins the queue, is dropped and counted when 16 wait, or is discarded while the ring is not usable. -/
def Device.enqueueReport (s : Device) (r : Report) : Device :=
  if s.reports.usable = false then s
  else if s.reports.queue.length < Config.reportQueueSize then
    { s with reports := { s.reports with queue := s.reports.queue ++ [r] } }
  else s.countOverrun 1

/-- A block submits a report: the time is stamped here. -/
def Device.submit (s : Device) (kind : ReportKind) (line subject : Nat) (cause : ReportCause) (a b : Word) : Device :=
  s.enqueueReport { kind := kind, line := line, subject := subject, cause := cause, valueA := a, valueB := b,
                    time := s.time, detail := .none }

/-- A report that goes ahead of every report of the event in progress but those in their places (R125; log 29); the 16
reports that come first wait, and one that finds no room is dropped and counted (R172). -/
def Device.enqueueAhead (s : Device) (r : Report) : Device :=
  if s.reports.usable = false then s
  else
    let queue := s.reports.queue.take s.reports.placed ++ r :: s.reports.queue.drop s.reports.placed
    let s := { s with reports := { s.reports with
      queue := queue.take Config.reportQueueSize, placed := s.reports.placed + 1 } }
    if queue.length ≤ Config.reportQueueSize then s else s.countOverrun 1

/-- The reports that wait keep their places ahead of those to come: an event has ended, or an item of an event whose
results a rule numbers (R50, R89, R98, R113, R132, R140, R145; log 29). -/
def Device.placeReports (s : Device) : Device :=
  { s with reports := { s.reports with placed := s.reports.queue.length } }

/-! ## Settings in force -/

/-- Limits of a line without a charter; nothing acts on them (every line is FREE then). -/
def Limits.zero : Limits :=
  { peak := 0, floor := 0, start := 0, topOff := 0, prime := 0, lowThreshold := 0, riseStep := 0, cutFraction := 0,
    fallLimit := 0, toppingVolume := 0, toppingLead := 0, low := 0, stripDone := 0, primePressure := 0, reduce := 0,
    stop := 0, trip := 0, primeLimit := 0, lineupLimit := 0, pumpStop := 0, stripLimit := 0, holdLimit := 0 }

def General.zero : General :=
  { fittedLines := 0, fittedTanks := 0, governorPeriod := 0, shipSilence := 0, shipLoss := 0, tankSilence := 0,
    tankLost := 0 }

/-- The line limits of the charter in force (R177). -/
def Device.limits (s : Device) (l : Line) : Limits :=
  match s.charter.inForce with
  | none => .zero
  | some c => c.lines.get l

/-- The general settings of the charter in force (R177). -/
def Device.general (s : Device) : General :=
  match s.charter.inForce with
  | none => .zero
  | some c => c.general

/-! ## Nodes of a line -/

/-- The line's node of a kind other than VALVE; a good charter gives exactly one (R181). -/
def Device.deviceOf (s : Device) (l : Line) (k : NodeKind) : Option NodeNo :=
  allNodes.find? (fun n => decide ((s.node n).kind = k ∧ (s.node n).line = some l))

/-- The line's VALVE node of a role; a good charter gives exactly one (R181). -/
def Device.valveOf (s : Device) (l : Line) (r : Role) : Option NodeNo :=
  allNodes.find? (fun n => decide ((s.node n).kind = .valve ∧ (s.node n).line = some l ∧ (s.node n).role = r))

/-- The valve position a target asks for. -/
def targetState : Target → ValveState
  | .closed => .closed
  | .opened => .opened

/-- The number a target shows as: 0 for CLOSED, 100 for OPEN (section 12.6). -/
def targetNumber : Target → Nat
  | .closed => 0
  | .opened => 100

/-- The number an act shows as: the target of a MOVE, the speed of a SPEED (R125, R132). -/
def actNumber : Act → Nat
  | .move t => targetNumber t
  | .speed v => v

/-- The line of a node as a report shows it. -/
def Device.nodeLine (s : Device) (n : NodeNo) : Nat := lineNumberOr0 (s.node n).line

/-- The per-line value changed by a function of the device, line by line in ascending order. -/
def Device.forLines (s : Device) (f : Line → Device → Device) : Device :=
  f .l3 (f .l2 (f .l1 s))

end Sys2Proof.Machine
end

