-- ==== Sys2Proof/Machine/Flags.lean ====
section
/-! DEFINITION. The computed conditions: every flag, indication, level and classification that a rule derives from
the state, each one definition. -/

namespace Sys2Proof.Machine

open Sys2Proof

/-! ## Sets of causes -/

def HoldSet.isEmpty (h : HoldSet) : Bool :=
  !(h.stationHold || h.noPath || h.localValve || h.staleReading || h.shipNotReady)

def HoldSet.has (h : HoldSet) : HoldCause → Bool
  | .stationHold => h.stationHold
  | .noPath => h.noPath
  | .localValve => h.localValve
  | .staleReading => h.staleReading
  | .shipNotReady => h.shipNotReady

/-- The set with one cause present or absent. -/
def HoldSet.put (h : HoldSet) (c : HoldCause) (present : Bool) : HoldSet :=
  match c with
  | .stationHold => { h with stationHold := present }
  | .noPath => { h with noPath := present }
  | .localValve => { h with localValve := present }
  | .staleReading => { h with staleReading := present }
  | .shipNotReady => { h with shipNotReady := present }

def ToppingSet.isEmpty (t : ToppingSet) : Bool :=
  !(t.tankNear || t.tankLead || t.nominationNear || t.tankSilent || t.shipSilent)

/-! ## Groups of line states -/

/-- The states in which a line delivers or is about to: hold triggers move it (R12). -/
def LineState.holdable : LineState → Bool
  | .priming | .delivering | .topping => true
  | _ => false

/-- PRIMING, DELIVERING, TOPPING, HELD: a stop trigger sends the line to STOPPING (R19); the top-off order is kept
(R67). -/
def LineState.running : LineState → Bool
  | .priming | .delivering | .topping | .held => true
  | _ => false

/-- LINEUP and the running states: SHIP_LOST and STATION_RESET are handed (R17). -/
def LineState.active : LineState → Bool
  | .lineup | .priming | .delivering | .topping | .held => true
  | _ => false

/-- The states the latch sends to TRIPPING (R25). -/
def LineState.trips : LineState → Bool
  | .lineup | .priming | .delivering | .topping | .held | .stopping | .stripping | .closing => true
  | .free | .tripping | .tripped => false

/-! ## Nodes -/

/-- A node with both transaction slots empty. -/
def Node.idle (nd : Node) : Bool := nd.inFlight.isNone && nd.queued.isNone

/-- A node with no transaction in flight or queued; true of an absent node. -/
def Device.idleNode (s : Device) : Option NodeNo → Bool
  | none => true
  | some n => (s.node n).idle

/-- The valve state of the line's valve of a role is the given one. -/
def Device.valveIs (s : Device) (l : Line) (r : Role) (v : ValveState) : Bool :=
  match s.valveOf l r with
  | none => false
  | some n => decide ((s.node n).valve = v)

/-- A valve is at rest in a position when its state is that position and both its slots are empty (R133). -/
def Device.atRest (s : Device) (l : Line) (r : Role) (t : Target) : Bool :=
  match s.valveOf l r with
  | none => false
  | some n => decide ((s.node n).valve = targetState t) && (s.node n).idle

/-- The line's node of a kind is FRESH. -/
def Device.freshDevice (s : Device) (l : Line) (k : NodeKind) : Bool :=
  match s.deviceOf l k with
  | none => false
  | some n => !(s.node n).stale

/-- PUMP, PRESSURE and FLOW of the line are all FRESH (R6, R83). -/
def Device.readingsFresh (s : Device) (l : Line) : Bool :=
  s.freshDevice l .pump && s.freshDevice l .pressure && s.freshDevice l .flow

/-- All four valves of the line hold REMOTE (R112). -/
def Device.allRemote (s : Device) (l : Line) : Bool :=
  allNodes.all (fun n => decide ((s.node n).kind = .valve ∧ (s.node n).line = some l) → !(s.node n).inLocal)

/-- Some valve of the line is in a given state. -/
def Device.someValve (s : Device) (l : Line) (v : ValveState) : Bool :=
  allNodes.any (fun n => decide ((s.node n).kind = .valve ∧ (s.node n).line = some l ∧ (s.node n).valve = v))

/-- The lowest address of the line's FAILED valves (R7). -/
def Device.lowestFailedValve (s : Device) (l : Line) : Option NodeNo :=
  allNodes.find? (fun n => decide ((s.node n).kind = .valve ∧ (s.node n).line = some l ∧ (s.node n).valve = .failed))

/-- A transaction of one of the line's valves is in flight (R20). -/
def Device.valveInFlight (s : Device) (l : Line) : Bool :=
  allNodes.any (fun n =>
    decide ((s.node n).kind = .valve ∧ (s.node n).line = some l) && (s.node n).inFlight.isSome)

/-- No node of the line has a transaction in flight or queued (R167). -/
def Device.lineNodesIdle (s : Device) (l : Line) : Bool :=
  allNodes.all (fun n => decide ((s.node n).line = some l) → (s.node n).idle)

/-- No node has a transaction in flight or queued (R114, R169). -/
def Device.allNodesIdle (s : Device) : Bool := allNodes.all (fun n => (s.node n).idle)

/-- Every line is FREE (R169). -/
def Device.allFree (s : Device) : Bool := allLines.all (fun l => decide ((s.line l).state = .free))

/-- The bus mode of R114. -/
def Device.wantedBusMode (s : Device) : BusMode :=
  if s.charter.mode ≠ .watch then .off
  else if s.allFree && s.allNodesIdle then .rest else .steady

/-- Some valve of the node table is FAILED (R99, R135). -/
def Device.anyValveFailed (s : Device) : Bool :=
  allNodes.any (fun n => decide ((s.node n).kind = .valve ∧ (s.node n).valve = .failed))

/-- Within 2 of a number (R128). -/
def within (a b : Nat) : Bool := decide (a ≤ b + Config.arrivalMargin) && decide (b ≤ a + Config.arrivalMargin)

/-- A reading shows the arrival of an act (R128). -/
def arrived (a : Act) (reading : Nat) : Bool := within reading (actNumber a)

/-- The valve state a fresh position shows (R110). -/
def positionState (position : Nat) : ValveState :=
  if within position 0 then .closed else if within position 100 then .opened else .moving

/-! ## Tanks -/

/-- The high-mark volume, 0.1 m3 (R49). -/
def Tank.highVolume (t : Tank) : Nat := t.capacity * t.highMark / 1000

/-- The overfill volume, 0.1 m3 (R49). -/
def Tank.overfillVolume (t : Tank) : Nat := t.capacity * t.overfillMark / 1000

/-- The ship's valve is reported OPEN or MOVING (R63). -/
def Tank.openValve (t : Tank) : Bool :=
  match t.valve with
  | .opened | .moving => true
  | .closed | .unknown => false

/-- Some present tank is HIGH or OVERFILL (R61). -/
def Device.anyTankHigh (s : Device) : Bool :=
  allTanks.any (fun t => match s.tank t with
    | none => false
    | some e => decide (e.state = .high ∨ e.state = .overfill))

/-- The tanks assigned to a line, in ascending number. -/
def Device.tanksOf (s : Device) (l : Line) : List TankNo :=
  allTanks.filter (fun t => match s.tank t with
    | none => false
    | some e => decide (e.assigned = some l))

/-- A condition on a tank's entry; false of an absent tank. -/
def Device.tankHas (s : Device) (t : TankNo) (p : Tank → Bool) : Bool :=
  match s.tank t with
  | none => false
  | some e => p e

/-- The line's tanks whose ship valve is reported OPEN or MOVING (R63). -/
def Device.openTanks (s : Device) (l : Line) : List TankNo :=
  (s.tanksOf l).filter (fun t => s.tankHas t Tank.openValve)

/-- The line's only open tank is HIGH (R62). -/
def Device.lastTankHigh (s : Device) (l : Line) : Bool :=
  match s.openTanks l with
  | [t] => s.tankHas t (fun e => decide (e.state = .high))
  | _ => false

/-- Members of the top-off order: FILLING or NEAR with the valve OPEN or MOVING (R67). -/
def Tank.orderMember (e : Tank) : Bool := decide (e.state = .filling ∨ e.state = .near) && e.openValve

/-- Time to high least first, absent times last; equal or absent times keep their order (R67). -/
def orderBefore (a b : Option Nat) : Bool :=
  match a, b with
  | some x, some y => decide (x ≤ y)
  | some _, none => true
  | none, some _ => false
  | none, none => true

/-- Puts a tank of lower number in its place in an order of tanks of higher numbers (R67). -/
def insertByTime (time : TankNo → Option Nat) (t : TankNo) : List TankNo → List TankNo
  | [] => [t]
  | u :: us => if orderBefore (time t) (time u) then t :: u :: us else u :: insertByTime time t us

/-- The time to high of a tank. -/
def Device.timeToHigh (s : Device) (t : TankNo) : Option Nat :=
  match s.tank t with
  | none => none
  | some e => e.timeToHigh

/-- The top-off order of a line (R67). -/
def Device.topOffOrder (s : Device) (l : Line) : List TankNo :=
  if (s.line l).state.running then
    ((s.tanksOf l).filter (fun t => s.tankHas t Tank.orderMember)).foldr (insertByTime s.timeToHigh) []
  else []

/-- The head time to high of an order (R68). -/
def Device.headTime (s : Device) : List TankNo → Option Nat
  | [] => none
  | t :: _ => s.timeToHigh t

/-- The topping-cause set of a line (R69), with the head time to high of its order. -/
def Device.toppingCauses (s : Device) (l : Line) (head : Option Nat) : ToppingSet :=
  let lim := s.limits l
  { tankNear := (s.tanksOf l).any (fun t => s.tankHas t (fun e => decide (e.state = .near ∨ e.state = .high)))
    tankLead := match head with
      | none => false
      | some h => decide (h ≤ lim.toppingLead)
    nominationNear :=
      decide ((s.line l).nominated.toNat ≤ (s.governor l).delivered.toNat + lim.toppingVolume)
    tankSilent := (s.tanksOf l).any (fun t => s.tankHas t (fun e => decide (e.freshness ≠ .fresh) && e.openValve))
    shipSilent := decide (s.link.state = .silent) }

/-! ## Rates and pressures -/

/-- The pump speed for an allowed rate (R40). -/
def speedFor (rate peak : Nat) : Nat :=
  let v := rate * 100 / peak
  if 0 < rate ∧ v = 0 then 1 else v

/-- A result below 1 is taken as 1 (R35). -/
def atLeast1 (n : Nat) : Nat := if n < 1 then 1 else n

def Limits.rise (lim : Limits) : Nat := atLeast1 (lim.peak * lim.riseStep / 64)

def Limits.fall (lim : Limits) : Nat := atLeast1 (lim.peak * lim.fallLimit / 64)

def Limits.cut (lim : Limits) (allowed : Nat) : Nat := atLeast1 (allowed * lim.cutFraction / 16)

/-- The permit the ship last gave the line (R137). -/
def Device.permit (s : Device) (l : Line) : Option Permit :=
  match s.link.status with
  | none => none
  | some st => some (st.get l).permit

/-- The ship's maximum rate for the line adds a term unless it is NONE or absent (R33, R142). -/
def Device.shipTerm (s : Device) (l : Line) (r : Nat) : Nat :=
  match s.link.status with
  | none => r
  | some st => match (st.get l).maxRate with
    | .unlimited => r
    | .rate m => min r m

/-- The ceiling of R33 for a line in its present state. -/
def Device.ceilingOf (s : Device) (l : Line) : Nat :=
  let lim := s.limits l
  let r := s.shipTerm l (min lim.peak (s.governor l).requested)
  let r := if (s.line l).state = .topping then min r lim.topOff else r
  if r < lim.floor then lim.floor else r

/-- The reduce indication of R34. -/
def Device.reduceIndication (s : Device) (l : Line) : Bool :=
  decide ((s.hose l).band = some .reduce) || decide (s.permit l = some .reduce)

/-- The new allowed rate of a governor step in DELIVERING or TOPPING (R35). -/
def governed (lim : Limits) (a c : Nat) (reduce : Bool) : Nat :=
  if c < a then
    if reduce then min (max c (a - lim.fall)) (max lim.floor (a - lim.cut a)) else max c (a - lim.fall)
  else if reduce then max lim.floor (a - lim.cut a) else min c (a + lim.rise)

/-- The pressure band of a reading (R75). -/
def bandOf (lim : Limits) (p : Nat) : Band :=
  if lim.trip ≤ p then .trip
  else if lim.stop ≤ p then .stop
  else if lim.reduce ≤ p then .reduce
  else if lim.low ≤ p then .normal
  else .low

/-! ## Device outputs -/

/-- The interrupt line of R175. -/
def Device.interruptLevel (s : Device) : Bool :=
  decide (s.charter.mode = .watch) && decide (s.reports.producerInMemory ≠ s.reports.consumer)

/-- The interrupt line set by R175. -/
def Device.setInterrupt (s : Device) : Device :=
  { s with reports := { s.reports with interrupt := s.interruptLevel } }

/-- The number of unconsumed ring entries (section 10.7). -/
def ReportUnit.unconsumed (r : ReportUnit) : Nat := (r.producer + Config.ringSlots - r.consumer) % Config.ringSlots

/-- The ring is full when 63 entries are unconsumed (section 10.7). -/
def ReportUnit.full (r : ReportUnit) : Bool := decide (r.unconsumed = Config.ringSlots - 1)

/-- A value lies in the span from the consumer index to the producer index (R174). -/
def ReportUnit.acceptable (r : ReportUnit) (v : Nat) : Bool :=
  decide (v < Config.ringSlots) && decide ((v + Config.ringSlots - r.consumer) % Config.ringSlots ≤ r.unconsumed)

end Sys2Proof.Machine
end

