-- ==== Sys2Proof/Machine/Transactions.lean ====
section
/-! DEFINITION. Claims and the two transaction slots of a node (spec/07, R118 to R125). A claim reaches no other block:
what it displaces is reported here, and an abandoned transaction's end moves no line (it is only abandoned for a line in
TRIPPING, log 16). -/

namespace Sys2Proof.Machine

open Sys2Proof

/-- What becomes of a claim (R120 to R124). -/
inductive Fate
  /-- The in-flight slot is empty: the claim goes in flight (R120). -/
  | start
  /-- The transaction in flight serves the claim (R121, R123, R124). -/
  | merge
  /-- Placed in the queued slot (R121 to R123). -/
  | queue
  /-- Dropped with ESD_AHEAD (R121, R122). -/
  | drop
  /-- Replaces the SPEED in flight without a report (R122, R124). -/
  | supersede
  /-- The MOVE in flight becomes ESD (R123). -/
  | adopt
  /-- The MOVE in flight ends ABANDONED and the claim goes in flight (R123). -/
  | abandon
  deriving DecidableEq, Repr

/-- The queued slot holds an ESD claim. -/
def Node.queuedEsd (nd : Node) : Bool :=
  match nd.queued with
  | none => false
  | some q => decide (q.origin = .esd)

/-- The fate of a claim by the node's slots (R120 to R124). With the in-flight slot empty a queued claim can only be
met inside a transaction's end, before R132 moves it (log 15). -/
def claimFate (nd : Node) (c : Claim) : Fate :=
  match nd.inFlight with
  | none => if nd.queuedEsd ∧ c.origin ≠ .esd then .drop else .start
  | some t =>
    match c.act with
    | .move _ =>
      if c.origin = .esd then
        if t.origin = .esd then (if t.act = c.act then .merge else .queue)
        else if t.act = c.act then .adopt else .abandon
      else if nd.queuedEsd then .drop
      else if t.act = c.act then .merge else .queue
    | .speed _ =>
      if c.origin = .esd then (if t.origin = .esd then .merge else .supersede)
      else if t.origin = .esd then (if nd.queuedEsd then .drop else .queue)
      else if t.phase = .travel then .supersede else .queue

/-- The CLAIM_DROPPED report of a claim that did not go in flight, ahead of any other result of the event (R125;
log 29). -/
def Device.reportDropped (s : Device) (n : NodeNo) (c : Claim) (cause : DropCause) : Device :=
  s.enqueueAhead
    { kind := .claimDropped, line := s.nodeLine n, subject := nodeAddress n, cause := .dropped cause,
      valueA := BitVec.ofNat 32 (actNumber c.act), valueB := 0, time := s.time, detail := .none }

/-- The VALVE_DONE report of an end (R132). -/
def Device.reportEnd (s : Device) (n : NodeNo) (a : Act) (o : TxOutcome) : Device :=
  s.submit .valveDone (s.nodeLine n) (nodeAddress n) (.outcome o) (BitVec.ofNat 32 (actNumber a))
    (BitVec.ofNat 32 (s.node n).readingA)

/-- The queued slot emptied by another claim, with its report: WITHDRAWN when an ESD claim withdraws a non-ESD one,
REPLACED otherwise (R121 to R125). -/
def Device.displaceQueued (s : Device) (n : NodeNo) (by_ : Origin) : Device :=
  match (s.node n).queued with
  | none => s
  | some q =>
    let s := s.setNode n { s.node n with queued := none }
    s.reportDropped n q (if by_ = .esd ∧ q.origin ≠ .esd then .withdrawn else .replaced)

/-- The target in force taken from a MOVE that goes in flight (R119). -/
def Device.takeTarget (s : Device) (n : NodeNo) (a : Act) : Device :=
  match a with
  | .move t => s.setTarget n ⟨t, false⟩
  | .speed _ => s

/-- Another transaction has entered the in-flight slot of the node whose slot is in progress (R105, R131). -/
def Device.noteEntered (s : Device) (n : NodeNo) : Device :=
  match s.bus.slot with
  | none => s
  | some sl => if sl.node = n then { s with bus := { s.bus with slot := some { sl with entered := true } } } else s

/-- A claim goes in flight: phase SEND, error count 0, in-flight time now (R120). -/
def Device.goInFlight (s : Device) (n : NodeNo) (c : Claim) : Device :=
  let s := s.setNode n { s.node n with
    inFlight := some { act := c.act, origin := c.origin, phase := .send, errors := 0, inFlightTime := s.time,
                       taken := none, travelExpiry := none } }
  (s.takeTarget n c.act).noteEntered n

/-- The transaction in flight made ESD, all else kept (R123). -/
def Device.adoptInFlight (s : Device) (n : NodeNo) : Device :=
  match (s.node n).inFlight with
  | none => s
  | some t => s.setNode n { s.node n with inFlight := some { t with origin := .esd } }

/-- The transaction in flight ended ABANDONED: its report, the valve state unchanged (R123, R132, R133). -/
def Device.abandonInFlight (s : Device) (n : NodeNo) : Device :=
  match (s.node n).inFlight with
  | none => s
  | some t => (s.setNode n { s.node n with inFlight := none }).reportEnd n t.act .abandoned

/-- A claim on a node (R120 to R125). -/
def Device.claim (s : Device) (n : NodeNo) (c : Claim) : Device :=
  match claimFate (s.node n) c with
  | .drop => s.reportDropped n c .esdAhead
  | .start => (s.displaceQueued n c.origin).goInFlight n c
  | .merge => s.displaceQueued n c.origin
  | .queue =>
    let s := s.displaceQueued n c.origin
    s.setNode n { s.node n with queued := some c }
  | .supersede => (s.displaceQueued n c.origin).goInFlight n c
  | .adopt => (s.displaceQueued n c.origin).adoptInFlight n
  | .abandon => ((s.displaceQueued n c.origin).abandonInFlight n).goInFlight n c

/-- A MOVE claim on the line's valve of a role. -/
def Device.claimValve (s : Device) (l : Line) (r : Role) (t : Target) (o : Origin) : Device :=
  match s.valveOf l r with
  | none => s
  | some n => s.claim n ⟨.move t, o⟩

/-- A MOVE claim on the line's valve of a role would be dropped on arrival; its claimer counts the drop as its end
(R125). -/
def Device.claimWouldDrop (s : Device) (l : Line) (r : Role) (t : Target) (o : Origin) : Bool :=
  match s.valveOf l r with
  | none => true
  | some n => decide (claimFate (s.node n) ⟨.move t, o⟩ = .drop)

/-- A SPEED claim on the line's pump. -/
def Device.claimPump (s : Device) (l : Line) (v : Nat) (o : Origin) : Device :=
  match s.deviceOf l .pump with
  | none => s
  | some n => s.claim n ⟨.speed v, o⟩

/-- The queued SEQUENCE claim of a node withdrawn by the line controller (R20, R125). -/
def Device.withdrawSequence (s : Device) (n : NodeNo) : Device :=
  match (s.node n).queued with
  | none => s
  | some q =>
    if q.origin = .sequence then
      (s.setNode n { s.node n with queued := none }).reportDropped n q .withdrawn
    else s

/-- Every queued SEQUENCE claim on the line's nodes withdrawn (R20), in ascending address: DESIGN CHOICE, log 48. -/
def Device.withdrawLine (s : Device) (l : Line) : Device :=
  allNodes.foldl (fun s n => if (s.node n).line = some l then s.withdrawSequence n else s) s

end Sys2Proof.Machine
end

