-- ==== Sys2Proof/Machine/Governor.lean ====
section
/-! DEFINITION. The rate governor (spec/02): pump speed claims, what a line state entered means for its items, its
steps, the rate-low flag and the rate demand. -/

namespace Sys2Proof.Machine

open Sys2Proof

/-- A SPEED claim of the governor, recorded whether or not the claim was dropped (R36, R38, R40). -/
def Device.claimSpeed (s : Device) (l : Line) (v : Nat) : Device :=
  let s := s.claimPump l v .sequence
  s.setGovernor l { s.governor l with lastSpeed := v, reclaim := false }

/-- The claim of R40: made when the speeds differ or the reclaim mark is set. -/
def Device.claimIfChanged (s : Device) (l : Line) (v : Nat) : Device :=
  if v ≠ (s.governor l).lastSpeed ∨ (s.governor l).reclaim = true then s.claimSpeed l v else s

/-- The rate-low flag judged against the allowed rate, with its report (R42). -/
def Device.judgeRateLow (s : Device) (l : Line) : Device :=
  let g := s.governor l
  let low := (s.limits l).lowThreshold
  let a := BitVec.ofNat 32 g.allowed
  let b := BitVec.ofNat 32 low
  if g.allowed < low then
    if g.rateLow then s
    else (s.setGovernor l { g with rateLow := true }).submit .rateLow (lineNumber l) 0 .none a b
  else if g.rateLow then (s.setGovernor l { g with rateLow := false }).submit .rateOk (lineNumber l) 0 .none a b
  else s

/-- The time of the next step, one governor period from now (R31). -/
def Device.periodOn (s : Device) : Time := s.time + BitVec.ofNat 32 s.general.governorPeriod

/-- The governor's items on entry to a line state (R31, R32, R39). -/
def Governor.entering (g : Governor) (next : Time) : LineState → Governor
  | .delivering => { g with expiry := some next }
  | .topping => { g with expiry := some next }
  | .stopping => { g with expiry := if 0 < g.allowed then some next else none }
  | .tripping => { g with allowed := 0, lastSpeed := 0, reclaim := false, expiry := none }
  | .free => { g with allowed := 0, ceiling := 0, rateLow := false, expiry := none }
  | .lineup => { g with allowed := 0, expiry := none }
  | .priming => { g with allowed := 0, expiry := none }
  | .held => { g with allowed := 0, expiry := none }
  | .stripping => { g with allowed := 0, expiry := none }
  | .closing => { g with allowed := 0, expiry := none }
  | .tripped => { g with allowed := 0, expiry := none }

/-- The governor takes a line state entered; on HELD it claims SPEED 0 (R13, R31, R32, R39). -/
def Device.governorEnters (s : Device) (l : Line) (st : LineState) : Device :=
  let s := s.setGovernor l ((s.governor l).entering s.periodOn st)
  if st = .held then s.claimSpeed l 0 else s

/-- The governor's part of the prime speed claim (R36). -/
def Device.primeSpeed (s : Device) (l : Line) : Device :=
  let lim := s.limits l
  let s := s.setGovernor l { s.governor l with allowed := lim.prime }
  let s := s.claimSpeed l (speedFor lim.prime lim.peak)
  s.setGovernor l { s.governor l with expiry := some s.periodOn }

/-- The speed for the allowed rate claimed by R40, and the rate-low flag judged (R35, R37, R38). -/
def Device.applyRate (s : Device) (l : Line) : Device :=
  (s.claimIfChanged l (speedFor (s.governor l).allowed (s.limits l).peak)).judgeRateLow l

/-- The rate on leaving PRIMING, in the state finally entered (R37). -/
def Device.startRate (s : Device) (l : Line) : Device :=
  let c := s.ceilingOf l
  let s := s.setGovernor l { s.governor l with ceiling := c, allowed := min (s.limits l).start c }
  s.applyRate l

/-- A governor step in DELIVERING or TOPPING (R33 to R35). -/
def Device.deliveryStep (s : Device) (l : Line) : Device :=
  let c := s.ceilingOf l
  let a := governed (s.limits l) (s.governor l).allowed c (s.reduceIndication l)
  let s := s.setGovernor l { s.governor l with ceiling := c, allowed := a }
  s.applyRate l

/-- A governor step in PRIMING: the prime speed claimed again only when the reclaim mark is set (R36). -/
def Device.primingStep (s : Device) (l : Line) : Device :=
  if (s.governor l).reclaim then s.claimSpeed l (speedFor (s.limits l).prime (s.limits l).peak) else s

/-- The allowed rate that a step in STOPPING above the floor rate sets (R38). -/
def Device.rampRate (s : Device) (l : Line) : Nat :=
  max (s.limits l).floor ((s.governor l).allowed - (s.limits l).fall)

/-- A governor step in STOPPING claims SPEED 0: it finds the allowed rate at or below the floor rate (R38), or, with a
floor rate of 0, it lands on 0 and R40 claims that speed. -/
def Device.rampEnds (s : Device) (l : Line) : Bool :=
  let g := s.governor l
  decide (g.allowed ≤ (s.limits l).floor) || decide (s.rampRate l = 0) && (decide (g.lastSpeed ≠ 0) || g.reclaim)

/-- A governor step in STOPPING above the floor rate (R38). -/
def Device.rampStep (s : Device) (l : Line) : Device :=
  (s.setGovernor l { s.governor l with allowed := s.rampRate l }).applyRate l

/-- The governor's part of the step that ends the ramp: allowed rate 0, SPEED 0 claimed, no further step (R31, R38). -/
def Device.rampEnd (s : Device) (l : Line) : Device :=
  let s := s.setGovernor l { s.governor l with allowed := 0 }
  let s := (s.claimSpeed l 0).judgeRateLow l
  s.setGovernor l { s.governor l with expiry := none }

/-- The step expiry after a step: one period after its due time (R31). -/
def Device.nextStep (s : Device) (l : Line) (due : Time) : Device :=
  s.setGovernor l { s.governor l with expiry := some (due + BitVec.ofNat 32 s.general.governorPeriod) }

/-- A line state in which the end of a SPEED transaction can set the reclaim mark (R41). -/
def LineState.reclaims : LineState → Bool
  | .priming | .delivering | .topping => true
  | _ => false

/-- The end of a SPEED transaction on a line's pump at the governor: REFUSED or FAILED, of the transaction that carried
the last claimed speed and with no later claim gone in flight, sets the reclaim mark (R41). -/
def Device.governorEnd (s : Device) (l : Line) (n : NodeNo) (a : Act) (o : TxOutcome) : Device :=
  if (s.line l).state.reclaims = true ∧ (o = .refused ∨ o = .failed) ∧ a = .speed (s.governor l).lastSpeed
      ∧ (s.node n).inFlight = none then
    s.setGovernor l { s.governor l with reclaim := true }
  else s

/-- A rate demand clamped into the range from the floor rate to the peak rate (R43). -/
def Limits.clampRate (lim : Limits) (v : Word) : Nat := max lim.floor (min lim.peak v.toNat)

/-- A rate demand taken for a fitted line; the line record is marked changed (R43). -/
def Device.takeRateDemand (s : Device) (l : Line) (v : Word) : Device :=
  (s.setGovernor l { s.governor l with requested := (s.limits l).clampRate v }).markLine l true

end Sys2Proof.Machine
end

