-- ==== Sys2Proof/Machine/ShipFrames.lean ====
section
/-! DEFINITION. The ship link's frames: the CRC (R139), the layouts of received and sent frames (section 12.9) and the
field ranges. -/

namespace Sys2Proof.Machine

open Sys2Proof

/-- One move of the CRC register toward its upper end (R139). -/
def crc16Bit (c : BitVec 16) : BitVec 16 :=
  if c.getLsbD 15 then (c <<< 1) ^^^ 0x1021#16 else c <<< 1

/-- One covered byte combined into the register (R139). -/
def crc16Byte (c : BitVec 16) (b : Byte) : BitVec 16 :=
  let c := c ^^^ (b.zeroExtend 16 <<< 8)
  crc16Bit (crc16Bit (crc16Bit (crc16Bit (crc16Bit (crc16Bit (crc16Bit (crc16Bit c)))))))

/-- The CRC over bytes, from a register of all ones, without a final inversion (R139). -/
def crc16 (bytes : List Byte) : BitVec 16 := bytes.foldl crc16Byte 0xFFFF#16

/-- The lead byte (section 12.9). -/
def leadByte : Byte := 0x7E#8

/-- The length of a received kind, lead byte to last CRC byte; none for any other kind byte (section 12.9, R138). -/
def receivedLength (kind : Byte) : Option Nat :=
  if kind = 0x01#8 then some 19 else if kind = 0x02#8 then some 9 else none

/-- A field of two bytes, upper byte first (R138). -/
def upperFirst (hi lo : Byte) : Nat := hi.toNat * 256 + lo.toNat

/-- The permit of a code; code 0 is out of range on the link (R139). -/
def permitOfCode (b : Byte) : Option Permit :=
  if b = 1#8 then some .go else if b = 2#8 then some .reduce else if b = 3#8 then some .stop
  else if b = 4#8 then some .notReady else none

/-- A maximum rate of a SHIP_STATUS (R139, section 12.9). -/
def maxRateOf (v : Nat) : Option MaxRate :=
  if v = 65535 then some .unlimited else if v ≤ 2000 then some (.rate v) else none

/-- A manifold pressure of a SHIP_STATUS: absent, or a value in range (R139, section 12.9). -/
def pressureOf (v : Nat) : Option (Option Nat) :=
  if v = 65535 then some none else if v ≤ 2500 then some (some v) else none

/-- One line's fields of a SHIP_STATUS; none when one is out of range. -/
def lineStatusOf (permit rateHi rateLo pressHi pressLo : Byte) : Option LineStatus :=
  match permitOfCode permit, maxRateOf (upperFirst rateHi rateLo), pressureOf (upperFirst pressHi pressLo) with
  | some p, some m, some q => some ⟨p, m, q⟩
  | _, _, _ => none

/-- The ship valve state of a code (section 12.10). -/
def shipValveOfCode (b : Byte) : Option ShipValve :=
  if b = 0#8 then some .unknown else if b = 1#8 then some .opened else if b = 2#8 then some .closed
  else if b = 3#8 then some .moving else none

/-- The ship alarm of a code (section 12.10). -/
def shipAlarmOfCode (b : Byte) : Option ShipAlarm :=
  if b = 0#8 then some .none else if b = 1#8 then some .high else if b = 2#8 then some .overfill else none

/-- The fields of a TANK_REPORT (R143). -/
structure TankReport where
  tank : TankNo
  volume : Nat
  valve : ShipValve
  alarm : ShipAlarm
  deriving DecidableEq, Repr

/-- A valid received frame (R139). -/
inductive ShipFrame
  | status (lines : PerLine LineStatus)
  | tank (report : TankReport)
  deriving DecidableEq, Repr

/-- The fields of a complete frame's covered bytes: kind and fields, without lead byte and CRC; none when a field is
out of range (R139). -/
def decodeFields : List Byte → Option ShipFrame
  | [0x01#8, p1, a1, b1, c1, d1, p2, a2, b2, c2, d2, p3, a3, b3, c3, d3] =>
    match lineStatusOf p1 a1 b1 c1 d1, lineStatusOf p2 a2 b2 c2 d2, lineStatusOf p3 a3 b3 c3 d3 with
    | some x, some y, some z => some (.status ⟨x, y, z⟩)
    | _, _, _ => none
  | [0x02#8, t, vh, vl, valve, alarm] =>
    match tankOfNumber t.toNat, shipValveOfCode valve, shipAlarmOfCode alarm with
    | some tk, some v, some a => some (.tank ⟨tk, upperFirst vh vl, v, a⟩)
    | _, _, _ => none
  | _ => none

/-- A complete frame is valid when its CRC is right and every field is in range (R139); the register run over the
covered bytes and the two CRC bytes finds 0. -/
def decodeShipFrame (frame : List Byte) : Option ShipFrame :=
  match frame with
  | [] => none
  | lead :: rest =>
    if lead = leadByte ∧ crc16 rest = 0#16 then decodeFields (rest.take (rest.length - 2)) else none

/-- A frame of a kind byte and fields: lead byte, covered bytes, CRC upper byte first (section 12.9). -/
def sealFrame (covered : List Byte) : List Byte :=
  let c := crc16 covered
  leadByte :: covered ++ [BitVec.ofNat 8 (c.toNat / 256), BitVec.ofNat 8 c.toNat]

/-- Two bytes, upper byte first. -/
def bytes2 (v : Nat) : List Byte := [BitVec.ofNat 8 (v / 256), BitVec.ofNat 8 v]

/-- Four bytes, upper byte first. -/
def bytes4 (w : Word) : List Byte := [wordByte w 3, wordByte w 2, wordByte w 1, wordByte w 0]

end Sys2Proof.Machine
end

