-- ==== Sys2Proof/Machine/Operands.lean ====
section
/-! DEFINITION. How the operands of commands are read: window areas of an upstream access (R151, R153), the request
word and its kinds (R166, R186), line plans (section 12.4), deck bus messages and answers (R106, R107, section 12.8), and
the codes of enumerations (section 12.10). -/

namespace Sys2Proof.Machine

open Sys2Proof

/-! ## The window (R151, sections 12.2 and 12.4) -/

/-- The window base of a strap value (R151). -/
def windowBase (strap : BitVec 8) : Nat := strap.toNat * Config.windowSize

/-- The window offset of a word address, or none outside the window (R151). -/
def windowOffset (strap : BitVec 8) (a : Nat) : Option Nat :=
  if windowBase strap ≤ a ∧ a < windowBase strap + Config.windowSize then some (a - windowBase strap) else none

/-- The offset of line L's plan (section 12.4). -/
def planOffset (l : Line) : Nat := 0x1000 + 0x40 * (lineNumber l - 1)

/-- The offset of a request word (section 12.2). -/
def requestOffset : RequestWord → Nat
  | .line l => 0x1100 + 4 * (lineNumber l - 1)
  | .general => 0x110C

/-- The offset of a rate demand word (section 12.2). -/
def rateOffset (l : Line) : Nat := 0x1110 + 4 * (lineNumber l - 1)

/-- The offset of a valve demand word (section 10.5). -/
def valveOffset (l : Line) (r : Role) : Nat := 0x1120 + ((lineNumber l - 1) * 4 + roleIndex r) * 4

/-- The offset of the consumer index (section 12.2). -/
def consumerOffset : Nat := 0x1240

/-- The offset of the producer index in the status record (section 12.5). -/
def producerOffset : Nat := 0x123C

/-- The areas of the window as R153 treats them. -/
inductive Area
  | charter
  | plan (l : Line)
  | request (w : RequestWord)
  | rateDemand (l : Line)
  | valveDemand (l : Line) (r : Role)
  | consumer
  /-- Status record, line, tank and node records, report ring: kept by the device. -/
  | kept
  | unused
  deriving DecidableEq, Repr

/-- The area of a word offset in the window (R153). -/
def areaOf (off : Nat) : Area :=
  if off < 0x1000 then .charter
  else if off < 0x1040 then .plan .l1
  else if off < 0x1080 then .plan .l2
  else if off < 0x10C0 then .plan .l3
  else if off = 0x1100 then .request (.line .l1)
  else if off = 0x1104 then .request (.line .l2)
  else if off = 0x1108 then .request (.line .l3)
  else if off = 0x110C then .request .general
  else if off = 0x1110 then .rateDemand .l1
  else if off = 0x1114 then .rateDemand .l2
  else if off = 0x1118 then .rateDemand .l3
  else if 0x1120 ≤ off ∧ off < 0x1150 then
    let k := (off - 0x1120) / 4
    .valveDemand (if k < 4 then .l1 else if k < 8 then .l2 else .l3)
      (if k % 4 = 0 then .discharge else if k % 4 = 1 then .manifold else if k % 4 = 2 then .returnValve else .strip)
  else if off = 0x1240 then .consumer
  else if 0x1200 ≤ off ∧ off < 0x1240 then .kept
  else if 0x1400 ≤ off ∧ off < 0x1580 then .kept
  else if 0x1600 ≤ off ∧ off < 0x1900 then .kept
  else if 0x1A00 ≤ off ∧ off < 0x1BF0 then .kept
  else if 0x2000 ≤ off ∧ off < 0x2800 then .kept
  else .unused

/-- The number of active byte enables (R155). -/
def activeEnables (e : BitVec 4) : Nat :=
  (e.getLsbD 0).toNat + (e.getLsbD 1).toNat + (e.getLsbD 2).toNat + (e.getLsbD 3).toNat

/-- The full upstream write of a word at a window offset (R150). -/
def fullWrite (strap : BitVec 8) (off : Nat) (data : Word) : Access :=
  { addr := BitVec.ofNat 32 (windowBase strap + off), write := true, enables := 15, data := data }

/-! ## Request words (R164, R166, R186) -/

/-- The requests of lines and of the general word (section 12.4). -/
inductive RequestKind
  | openLine | hold | resume | stop
  | loadCharter | lockLimits | trip | tripReset | silence
  deriving DecidableEq, Repr

/-- The code of a request kind (section 12.4). -/
def kindCode : RequestKind → Byte
  | .openLine => 1
  | .hold => 2
  | .resume => 3
  | .stop => 4
  | .loadCharter => 16
  | .lockLimits => 17
  | .trip => 18
  | .tripReset => 19
  | .silence => 20

/-- The request kind of a code, none for a code that is not in the table (R186). -/
def kindOfCode (b : Byte) : Option RequestKind :=
  [.openLine, .hold, .resume, .stop, .loadCharter, .lockLimits, .trip, .tripReset, .silence].find?
    (fun k => decide (kindCode k = b))

/-- A request judged by its word and kind: what it asks, or none for UNKNOWN_KIND (R166). -/
inductive Asked
  | openLine (l : Line)
  | hold (l : Line)
  | resume (l : Line)
  | stop (l : Line) (strip : Bool)
  | loadCharter
  | lockLimits
  | trip
  | tripReset
  | silence
  deriving DecidableEq, Repr

/-- A line kind on a line word or a general kind on the general word; any other pair is unknown (R166). STOP asks for
stripping when bit 8 of the word is 1 (R186). -/
def Request.asked (q : Request) : Option Asked :=
  match q.word, kindOfCode q.kind with
  | .line l, some .openLine => some (.openLine l)
  | .line l, some .hold => some (.hold l)
  | .line l, some .resume => some (.resume l)
  | .line l, some .stop => some (.stop l (q.argument.getLsbD 0))
  | .general, some .loadCharter => some .loadCharter
  | .general, some .lockLimits => some .lockLimits
  | .general, some .trip => some .trip
  | .general, some .tripReset => some .tripReset
  | .general, some .silence => some .silence
  | _, _ => none

/-- The code of a result (section 12.10). -/
def resultCode : Result → Nat
  | .pending => 1
  | .done => 2
  | .queueFull => 3
  | .unknownKind => 4
  | .notLoaded => 5
  | .notFitted => 6
  | .wrongState => 7
  | .esdLatched => 8
  | .shipEsd => 9
  | .shipLink => 10
  | .planInvalid => 11
  | .tankInUse => 12
  | .valvesBusy => 13
  | .readingStale => 14
  | .linesActive => 15
  | .nodesBusy => 16
  | .loopBroken => 17
  | .crcMismatch => 18
  | .fieldRange => 19
  | .nodeSet => 20
  | .badValue => 21

/-- A request word as the device writes it: kind, argument and result (section 12.4). -/
def requestWordOf (kind argument : Byte) (r : Result) : Word :=
  BitVec.ofNat 32 (kind.toNat + argument.toNat * 256 + resultCode r * 65536)

/-- A request word as the station writes it: kind and argument, the result field 0. -/
def requestWritten (k : RequestKind) (argument : Byte) : Word :=
  BitVec.ofNat 32 ((kindCode k).toNat + argument.toNat * 256)

/-! ## Line plans (section 12.4) -/

/-- The assigned fields of a line plan. -/
structure Plan where
  grade : Nat
  count : Nat
  nominated : Word
  /-- The eight tank number bytes in plan order. -/
  numbers : List Nat
  deriving DecidableEq, Repr

/-- The plan of the 16 words read (section 12.4). -/
def planOf (ws : List Word) : Plan :=
  let w (k : Nat) : Word := ws.getD k 0
  { grade := (wordByte (w 0) 0).toNat, count := (wordByte (w 0) 1).toNat, nominated := w 1,
    numbers := [0, 1, 2, 3].map (fun k => (wordByte (w 2) k).toNat)
      ++ [0, 1, 2, 3].map (fun k => (wordByte (w 3) k).toNat) }

/-- Only the first tank-count entries are read as tanks (R167). -/
def Plan.listed (p : Plan) : List Nat := p.numbers.take p.count

/-- The listed tanks that are tank numbers at all. -/
def Plan.tanks (p : Plan) : List TankNo := p.listed.filterMap tankOfNumber

/-! ## Deck bus messages and answers (R106, R107, section 12.8) -/

/-- The check byte: the sum with it is 0 modulo 256 (R106). -/
def checkByte (bytes : List Byte) : Byte := 0 - bytes.foldl (· + ·) 0

/-- The bytes of a message to a node (R106, section 12.8). -/
def messageBytes (n : NodeNo) (m : Message) : List Byte :=
  let body : List Byte := match m with
    | .poll => [BitVec.ofNat 8 (nodeAddress n), 1, 0]
    | .move t => [BitVec.ofNat 8 (nodeAddress n), 2, BitVec.ofNat 8 (targetNumber t)]
    | .speed v => [BitVec.ofNat 8 (nodeAddress n), 3, BitVec.ofNat 8 v]
    | .probe => [BitVec.ofNat 8 (nodeAddress n), 4, 0]
  body ++ [checkByte body]

/-- An answer's code and node status (R106). -/
structure Answer where
  code : AnswerCode
  readingA : Nat
  readingB : Word
  inLocal : Bool
  moving : Bool
  fault : Bool
  deriving DecidableEq, Repr

/-- The result of a slot (R107). -/
inductive SlotOutcome
  | answer (a : Answer)
  | silent
  | checkError
  deriving DecidableEq, Repr

/-- The answer code of a byte (section 12.8). -/
def answerCodeOf (b : Byte) : Option AnswerCode :=
  if b = 16#8 then some .status else if b = 17#8 then some .taken else if b = 18#8 then some .busy
  else if b = 19#8 then some .ready else if b = 20#8 then some .refused else none

/-- The answer codes valid for a message (R106). -/
def validCode : Message → AnswerCode → Bool
  | .poll, .status => true
  | .move _, .taken => true
  | .move _, .busy => true
  | .move _, .refused => true
  | .speed _, .taken => true
  | .speed _, .refused => true
  | .probe, .ready => true
  | .probe, .busy => true
  | .probe, .refused => true
  | _, _ => false

/-- Reading A above 100 is no position and no speed (R107). -/
def outOfScale (k : NodeKind) (a : Nat) : Bool :=
  match k with
  | .valve | .pump => decide (100 < a)
  | .none | .pressure | .flow => false

/-- An answer's bytes read for the message sent to a node of a kind; none where R107 gives CHECK_ERROR. -/
def decodeAnswer (n : NodeNo) (k : NodeKind) (m : Message) : List Byte → Option Answer
  | [adr, code, a0, a1, b0, b1, b2, b3, flags, check] =>
    if [adr, code, a0, a1, b0, b1, b2, b3, flags, check].foldl (· + ·) 0 ≠ (0 : Byte) then none
    else if adr.toNat ≠ nodeAddress n then none
    else match answerCodeOf code with
      | none => none
      | some c =>
        let a := a0.toNat + a1.toNat * 256
        if validCode m c = false then none
        else if outOfScale k a then none
        else some { code := c, readingA := a,
                    readingB := BitVec.ofNat 32 (b0.toNat + b1.toNat * 256 + b2.toNat * 65536 + b3.toNat * 16777216),
                    inLocal := flags.getLsbD 0, moving := flags.getLsbD 1, fault := flags.getLsbD 2 }
  | _ => none

/-- The one result of a slot: the first row of R107's table whose condition holds. -/
def slotOutcome (n : NodeNo) (k : NodeKind) (m : Message) (seen : SlotSeen) : SlotOutcome :=
  if seen.checkDriven then .checkError
  else match seen.answer with
    | none => .silent
    | some bytes => match decodeAnswer n k m bytes with
      | none => .checkError
      | some a => .answer a

/-- A refreshing answer: its fault flag is CLEAR (R108). -/
def SlotOutcome.refreshing : SlotOutcome → Option Answer
  | .answer a => if a.fault then none else some a
  | .silent => none
  | .checkError => none

/-! ## Codes of enumerations (section 12.10) -/

def modeCode : Mode → Nat
  | .passive => 0
  | .loading => 1
  | .watch => 2

def busModeCode : BusMode → Nat
  | .off => 0
  | .steady => 1
  | .rest => 2

def loadResultCode : LoadResult → Nat
  | .none => 0
  | .ok => 1
  | .crcMismatch => 2
  | .fieldRange => 3
  | .nodeSet => 4

def lineStateCode : LineState → Nat
  | .free => 0
  | .lineup => 1
  | .priming => 2
  | .delivering => 3
  | .topping => 4
  | .held => 5
  | .stopping => 6
  | .stripping => 7
  | .closing => 8
  | .tripping => 9
  | .tripped => 10

def stepCode : Step → Nat
  | .none => 0
  | .dischargeOpening => 1
  | .manifoldOpening => 2
  | .startWait => 3
  | .returnClosing => 4
  | .prime => 5
  | .hold => 6
  | .ramp => 7
  | .pumpStopping => 8
  | .strip => 9
  | .holdOff => 10
  | .manifoldClosing => 11
  | .valvesClosing => 12
  | .esdPumpStop => 13
  | .esdManifold => 14
  | .esdDischarge => 15

def causeCode : Cause → Nat
  | .stationStop => 1
  | .lineupFailed => 2
  | .primeFailed => 3
  | .holdTooLong => 4
  | .nominationMet => 5
  | .pressureStop => 6
  | .pumpFault => 7
  | .closeOverdue => 8
  | .lastTankHigh => 9
  | .tankLost => 10
  | .shipStop => 11
  | .shipLost => 12
  | .stationReset => 13
  | .shipLoop => 16
  | .stationTrip => 17
  | .overfill => 18
  | .pressureTrip => 19
  | .hoseLoss => 20
  | .valveFailed => 21

/-- A cause that may be absent: code 0 then (R186). -/
def causeCodeOr0 : Option Cause → Nat
  | none => 0
  | some c => causeCode c

def stripResultCode : StripResult → Nat
  | .none => 0
  | .complete => 1
  | .incomplete => 2
  | .interrupted => 3

def bandCode : Option Band → Nat
  | none => 0
  | some .low => 1
  | some .normal => 2
  | some .reduce => 3
  | some .stop => 4
  | some .trip => 5

def tankStateCode : TankState → Nat
  | .unknown => 0
  | .idle => 1
  | .filling => 2
  | .near => 3
  | .high => 4
  | .overfill => 5

def tankFreshCode : TankFresh → Nat
  | .fresh => 0
  | .silent => 1
  | .lost => 2

def shipValveCode : ShipValve → Nat
  | .unknown => 0
  | .opened => 1
  | .closed => 2
  | .moving => 3

def shipAlarmCode : ShipAlarm → Nat
  | .none => 0
  | .high => 1
  | .overfill => 2

def adviceCode : Advice → Nat
  | .none => 0
  | .approaching => 1
  | .closeNow => 2

def nodeKindCode : NodeKind → Nat
  | .none => 0
  | .valve => 1
  | .pump => 2
  | .pressure => 3
  | .flow => 4

def valveStateCode : ValveState → Nat
  | .closed => 0
  | .opened => 1
  | .moving => 2
  | .probing => 3
  | .localControl => 4
  | .failed => 5

def actKindCode : Act → Nat
  | .move _ => 0
  | .speed _ => 1

def originCode : Origin → Nat
  | .sequence => 0
  | .station => 1
  | .esd => 2

def phaseCode : Phase → Nat
  | .send => 0
  | .probe => 1
  | .travel => 2

def linkStateCode : LinkState → Nat
  | .idle => 0
  | .active => 1
  | .silent => 2
  | .lost => 3

def permitCode : Option Permit → Nat
  | none => 0
  | some .go => 1
  | some .reduce => 2
  | some .stop => 3
  | some .notReady => 4

def outcomeCode : TxOutcome → Nat
  | .done => 1
  | .refused => 2
  | .failed => 3
  | .abandoned => 4

def dropCode : DropCause → Nat
  | .esdAhead => 1
  | .replaced => 2
  | .withdrawn => 3

def staleCode : StaleCause → Nat
  | .silent => 1
  | .checkError => 2
  | .fault => 3

/-- The hold cause's bit position (section 12.6). -/
def holdBit : HoldCause → Nat
  | .stationHold => 0
  | .noPath => 1
  | .localValve => 2
  | .staleReading => 3
  | .shipNotReady => 4

def reportKindCode : ReportKind → Nat
  | .loaded => 1
  | .loadFailed => 2
  | .lineState => 3
  | .rateLow => 4
  | .rateOk => 5
  | .tankState => 6
  | .tankAdviceSent => 7
  | .valveDone => 8
  | .claimDropped => 9
  | .badWrite => 10
  | .nodeStale => 11
  | .nodeFresh => 12
  | .shipSilent => 13
  | .shipLost => 14
  | .shipBack => 15
  | .esd => 16
  | .tripCleared => 17
  | .lineSummary => 18
  | .demandRefused => 19
  | .overrun => 20

/-- The cause field of a report uses the code set of its kind (section 12.10). -/
def reportCauseCode : ReportCause → Nat
  | .none => 0
  | .line c => causeCode c
  | .hold c => 32 + holdBit c
  | .tank t => tankStateCode t
  | .freshness f => 8 + tankFreshCode f
  | .link k => linkStateCode k
  | .advice a => adviceCode a
  | .load r => loadResultCode r
  | .refusal r => resultCode r
  | .outcome o => outcomeCode o
  | .dropped d => dropCode d
  | .stale c => staleCode c

end Sys2Proof.Machine
end

