-- ==== Sys2Proof/Machine/Transmitter.lean ====
section
/-! DEFINITION. The ship link's send queue and transmitter (R146 to R148). -/

namespace Sys2Proof.Machine

open Sys2Proof

/-- The line state, allowed rate and delivered quantity of one line in a BARGE_STATUS; an unfitted line is sent as FREE
with 0 and 0 (R148). -/
def Device.bargeLine (s : Device) (l : Line) : List Byte :=
  if (s.line l).fitted then
    BitVec.ofNat 8 (lineStateCode (s.line l).state) :: bytes2 (s.governor l).allowed ++ bytes4 (s.governor l).delivered
  else [BitVec.ofNat 8 (lineStateCode .free)] ++ bytes2 0 ++ bytes4 0

/-- A BARGE_STATUS frame, its fields taken now (R148, section 12.9). -/
def Device.bargeStatus (s : Device) : List Byte :=
  sealFrame ([0x81#8] ++ s.bargeLine .l1 ++ s.bargeLine .l2 ++ s.bargeLine .l3)

/-- The frame of a send queue entry (section 12.9). -/
def SendEntry.frame : SendEntry → List Byte
  | .advice t v => sealFrame [0x82#8, BitVec.ofNat 8 (tankNumber t), BitVec.ofNat 8 (adviceCode v)]
  | .stopping l c => sealFrame [0x83#8, BitVec.ofNat 8 (lineNumber l), BitVec.ofNat 8 (causeCode c)]

/-- An entry may leave: a LINE_STOPPING in any link state, a TANK_ADVICE in ACTIVE or SILENT (R146; log 25). -/
def SendEntry.mayLeave (k : LinkState) : SendEntry → Bool
  | .stopping _ _ => true
  | .advice _ _ => match k with
    | .active => true
    | .silent => true
    | .idle => false
    | .lost => false

/-- The oldest entry that may leave, and the queue without it (R146). -/
def takeLeaving (k : LinkState) : List SendEntry → Option (SendEntry × List SendEntry)
  | [] => none
  | e :: es =>
    if e.mayLeave k then some (e, es)
    else match takeLeaving k es with
      | none => none
      | some (x, rest) => some (x, e :: rest)

/-- The choice of the next frame, made when the transmitter becomes FREE or an item arrives while it is FREE (R146). -/
def Device.transmit (s : Device) : Device :=
  if s.charter.mode ≠ .watch ∨ s.link.sending.isSome = true then s
  else match takeLeaving s.link.state s.link.queue with
    | some (e, rest) => s.setLink { s.link with queue := rest, sending := some e.frame }
    | none =>
      if s.link.statusDue then s.setLink { s.link with statusDue := false, sending := some s.bargeStatus } else s

/-- Advice for a tank in the queue takes the new advice in its place; otherwise it joins the end (R147). -/
def putAdvice (t : TankNo) (v : Advice) : List SendEntry → List SendEntry
  | [] => [.advice t v]
  | .advice u w :: es => if u = t then .advice t v :: es else .advice u w :: putAdvice t v es
  | .stopping l c :: es => .stopping l c :: putAdvice t v es

/-- A line stopping of a line in the queue takes the new cause in its place; otherwise it joins the end (R147). -/
def putStopping (l : Line) (c : Cause) : List SendEntry → List SendEntry
  | [] => [.stopping l c]
  | .stopping m d :: es => if m = l then .stopping l c :: es else .stopping m d :: putStopping l c es
  | .advice t v :: es => .advice t v :: putStopping l c es

/-- The tank watch hands advice for a tank (R57, R147). -/
def Device.sendAdvice (s : Device) (t : TankNo) (v : Advice) : Device :=
  (s.setLink { s.link with queue := putAdvice t v s.link.queue }).transmit

/-- The line controller hands a line stopping with the line's stop cause (R3, R147). -/
def Device.sendStopping (s : Device) (l : Line) : Device :=
  match (s.line l).stopCause with
  | none => s
  | some c => (s.setLink { s.link with queue := putStopping l c s.link.queue }).transmit

end Sys2Proof.Machine
end

