-- ==== Sys2Proof/Machine/LineChange.lean ====
section
/-! DEFINITION. A change of line state and what it hands to the other blocks (R3, R84), the topping-cause set of a line
(R67 to R71, R11), and the bus mode (R114). -/

namespace Sys2Proof.Machine

open Sys2Proof

/-- The hose watch's items on a change of line state (R84). -/
def Hose.entering (h : Hose) (old : LineState) : LineState → Hose
  | .delivering => if old = .topping then h else { h with lowCount := 0, armed := false }
  | .topping => h
  | .priming => { h with armed := false, primingCount := 0 }
  | .free => .reset
  | .lineup => { h with lowCount := 0, armed := false, primingCount := 0 }
  | .held => { h with lowCount := 0, armed := false, primingCount := 0 }
  | .stopping => { h with lowCount := 0, armed := false, primingCount := 0 }
  | .stripping => { h with lowCount := 0, armed := false, primingCount := 0 }
  | .closing => { h with lowCount := 0, armed := false, primingCount := 0 }
  | .tripping => { h with lowCount := 0, armed := false, primingCount := 0 }
  | .tripped => { h with lowCount := 0, armed := false, primingCount := 0 }

/-- The tank watch computes a line's open-tank count, top-off order, head time to high and topping causes; the line
controller stores what it is handed, the causes in every state but FREE (R11, R63, R67 to R71). -/
def Device.recompute (s : Device) (l : Line) : Device :=
  let order := s.topOffOrder l
  let head := s.headTime order
  let s := s.setTopOff l { openCount := (s.openTanks l).length, order := order, head := head }
  if (s.line l).state = .free then s
  else s.setLine l { s.line l with topping := s.toppingCauses l head }

/-- Entry to this state sends a LINE_STOPPING frame (R3). -/
def sendsStopping (old : LineState) : LineState → Bool
  | .stopping => true
  | .tripping => true
  | .closing => decide (old = .lineup)
  | _ => false

/-- A change of line state (R3): entry time, deadline cancelled, step, LINE_STATE report, LINE_STOPPING frame, and the
new state handed to the governor, the hose watch and the tank watch. -/
def Device.enterState (s : Device) (l : Line) (st : LineState) (step : Step) (cause : ReportCause) : Device :=
  let old := (s.line l).state
  let s := s.setLine l { s.line l with state := st, step := step, entry := s.time, deadline := none }
  let s := s.submit .lineState (lineNumber l) 0 cause (BitVec.ofNat 32 (lineStateCode st))
    (BitVec.ofNat 32 (lineStateCode old))
  let s := if sendsStopping old st then s.sendStopping l else s
  let s := s.governorEnters l st
  let s := s.setHose l ((s.hose l).entering old st)
  s.recompute l

/-- The bus mode taken again; a change from REST to STEADY with no frame in progress is a frame start event, whose frame
starts at the end of the event in progress, also when the mode is REST again by then (R114; log 13). -/
def Device.takeBusMode (s : Device) : Device :=
  let old := s.bus.mode
  let new := s.wantedBusMode
  if new = old then s
  else
    let s := s.setBusMode new
    if old = .rest ∧ new = .steady ∧ s.bus.slot = none then { s with bus := { s.bus with startDue := true } } else s

/-- The step of the present state moved on. -/
def Device.setStep (s : Device) (l : Line) (step : Step) : Device :=
  s.setLine l { s.line l with step := step }

/-- The deadline of the present step. -/
def Device.setDeadline (s : Device) (l : Line) (d : Time) : Device :=
  s.setLine l { s.line l with deadline := some d }

/-- The topping-cause set recomputed and taken by the line: it moves a line between DELIVERING and TOPPING (R11,
R71). -/
def Device.handTopping (s : Device) (l : Line) : Device :=
  let s := s.recompute l
  let empty := (s.line l).topping.isEmpty
  match (s.line l).state with
  | .delivering => if empty then s else s.enterState l .topping .none .none
  | .topping => if empty then s.enterState l .delivering .none .none else s
  | _ => s

/-- The topping-cause set of every line that is not FREE recomputed (R70), in ascending line order: DESIGN CHOICE, log
48. -/
def Device.handToppingAll (s : Device) : Device :=
  s.forLines (fun l s => if (s.line l).state = .free then s else s.handTopping l)

end Sys2Proof.Machine
end

