-- ==== Sys2Proof/Machine/Shutdown.lean ====
section
/-! DEFINITION. The shutdown unit (spec/05): alarm events, the latch, further causes and the ESD sequence of a line
(R86 to R100). -/

namespace Sys2Proof.Machine

open Sys2Proof

/-- An alarm event: the horn sounds and alarm-pending is set (R99). -/
def Device.alarmEvent (s : Device) : Device :=
  s.setShutdown { s.shutdown with hornSounding := true, alarmPending := true }

/-- Alarm-pending judged; when it clears, the horn is OFF (R100). -/
def Device.judgeAlarm (s : Device) : Device :=
  if s.shutdown.latch = false ∧ s.shutdown.tankAlarm = false ∧ s.shutdown.valveAlarm = false then
    s.setShutdown { s.shutdown with alarmPending := false, hornSounding := false }
  else s

/-- The tank alarm indication handed by the tank watch; its clearing makes a judgement (R61, R100). -/
def Device.retakeTankAlarm (s : Device) : Device :=
  let now := s.anyTankHigh
  if now = s.shutdown.tankAlarm then s
  else
    let s := s.setShutdown { s.shutdown with tankAlarm := now }
    if now then s else s.judgeAlarm

/-- The valve alarm indication handed by the deck bus controller; its clearing makes a judgement (R99, R100, R135). -/
def Device.retakeValveAlarm (s : Device) : Device :=
  let now := s.anyValveFailed
  if now = s.shutdown.valveAlarm then s
  else
    let s := s.setShutdown { s.shutdown with valveAlarm := now }
    if now then s else s.judgeAlarm

/-- The barge loop output: HEALTHY in WATCH with the latch CLEAR, BROKEN in every other case (R87). -/
def Device.driveBargeLoop (s : Device) : Device :=
  s.setShutdown { s.shutdown with
    bargeLoop := if s.charter.mode = .watch ∧ s.shutdown.latch = false then .healthy else .broken }

/-- The strip result a line takes into TRIPPING (R25). -/
def trippedStripResult (c : LineContext) : StripResult :=
  if c.state = .stripping then .interrupted else c.stripResult

/-- A line sent to TRIPPING by the latch (R25). -/
def Device.tripLine (s : Device) (l : Line) (cause : Cause) : Device :=
  let c := s.line l
  let s := s.setLine l { c with stopCause := some cause, hold := .empty, stripResult := trippedStripResult c }
  let s := s.setSequenceMemory l .reset
  s.enterState l .tripping .none (.line cause)

/-- The ESD sequence step of a line, which the line controller shows as the line's step (R25, R85). -/
def Device.setSequence (s : Device) (l : Line) (step : Step) : Device :=
  (s.setShutdown { s.shutdown with sequence := s.shutdown.sequence.set l step }).setStep l step

/-- The pump deadline of a line (R85, R91). -/
def Device.setPumpDeadline (s : Device) (l : Line) (d : Option Time) : Device :=
  s.setShutdown { s.shutdown with pumpDeadline := s.shutdown.pumpDeadline.set l d }

/-- An ESD MOVE claim unless the valve is at rest in the position (R91 to R93). -/
def Device.claimUnlessAtRest (s : Device) (l : Line) (r : Role) (t : Target) : Device :=
  if s.atRest l r t then s else s.claimValve l r t .esd

/-- The start of a line's ESD sequence (R91). -/
def Device.esdStart (s : Device) (l : Line) : Device :=
  let s := s.setSequence l .esdPumpStop
  let s := s.claimPump l 0 .esd
  let s := s.claimUnlessAtRest l .returnValve .opened
  s.setPumpDeadline l (some (s.secondsOn (s.limits l).pumpStop))

/-- The LINE_SUMMARY report of a line (R28, section 12.7). -/
def Device.lineSummary (s : Device) (l : Line) : Device :=
  let c := s.line l
  s.enqueueReport
    { kind := .lineSummary, line := lineNumber l, subject := 0,
      cause := match c.stopCause with
        | none => .none
        | some k => .line k,
      valueA := c.nominated, valueB := (s.governor l).delivered, time := s.time, detail := c.stripResult }

/-- The end of a line's ESD sequence: the line is TRIPPED and gives its summary (R28, R93). -/
def Device.esdFinish (s : Device) (l : Line) : Device :=
  let s := s.setSequence l .none
  (s.enterState l .tripped .none .none).lineSummary l

/-- Step ESD_DISCHARGE entered (R93). -/
def Device.esdDischarge (s : Device) (l : Line) : Device :=
  let s := s.setSequence l .esdDischarge
  if s.atRest l .discharge .closed then s.esdFinish l else s.claimValve l .discharge .closed .esd

/-- The end of step ESD_PUMP_STOP: step ESD_MANIFOLD entered (R92). -/
def Device.esdManifold (s : Device) (l : Line) : Device :=
  let s := s.setPumpDeadline l none
  let s := s.setSequence l .esdManifold
  let s := s.claimUnlessAtRest l .manifold .closed
  let s := s.claimUnlessAtRest l .strip .closed
  if s.atRest l .manifold .closed then s.esdDischarge l else s

/-- The ESD report of a trigger; value B is 1 for the cause that set the latch (R89, R90). -/
def Device.reportEsd (s : Device) (cause : Cause) (line subject : Nat) (value : Nat) (first : Nat) : Device :=
  s.submit .esd line subject (.line cause) (BitVec.ofNat 32 value) (BitVec.ofNat 32 first)

/-- Each line that trips is sent to TRIPPING, in ascending order (R89). -/
def Device.tripLines (s : Device) (cause : Cause) : Device :=
  s.forLines (fun l s => if (s.line l).state.trips then s.tripLine l cause else s)

/-- The ESD sequence of each of the given lines is started (R89 step 6), in the order given, which is ascending: DESIGN
CHOICE, log 48. -/
def Device.startSequences (s : Device) : List Line → Device
  | [] => s
  | l :: ls => (s.esdStart l).startSequences ls

/-- The lines that the latch sends to TRIPPING. -/
def Device.trippingLines (s : Device) : List Line := allLines.filter (fun l => (s.line l).state.trips)

/-- The setting of the latch (R89). -/
def Device.setLatch (s : Device) (cause : Cause) (line subject value : Nat) : Device :=
  let lines := s.trippingLines
  let s := s.setShutdown { s.shutdown with
    latch := true, first := some ⟨cause, s.time⟩, firstLine := line, firstSubject := subject }
  let s := s.driveBargeLoop.alarmEvent
  let s := s.reportEsd cause line subject value 1
  (s.tripLines cause).placeReports.startSequences lines

/-- An ESD trigger: it sets the latch, or is a further cause while the latch is SET (R88 to R90). -/
def Device.esdTrigger (s : Device) (cause : Cause) (line subject value : Nat) : Device :=
  if s.shutdown.latch then s.reportEsd cause line subject value 0 else s.setLatch cause line subject value

/-- The end of an ESD transaction at the shutdown unit (R92, R93): the pump's ends step ESD_PUMP_STOP, MANIFOLD's step
ESD_MANIFOLD, DISCHARGE's step ESD_DISCHARGE. -/
def Device.esdEnd (s : Device) (l : Line) (n : NodeNo) : Device :=
  match s.shutdown.sequence.get l, (s.node n).kind, (s.node n).role with
  | .esdPumpStop, .pump, _ => s.esdManifold l
  | .esdManifold, .valve, .manifold => s.esdDischarge l
  | .esdDischarge, .valve, .discharge => s.esdFinish l
  | _, _, _ => s

/-- A change of the ship loop taken (R86). -/
def Device.takeShipLoop (s : Device) (c : Loop) : Device :=
  if c = s.shutdown.shipLoop then s
  else
    let s := s.setShutdown { s.shutdown with shipLoop := c }
    match c with
    | .healthy => s
    | .broken => if s.charter.mode = .watch then s.esdTrigger .shipLoop 0 0 0 else s

end Sys2Proof.Machine
end

