-- ==== Sys2Proof/Machine/Lines.lean ====
section
/-! DEFINITION. The line controller (spec/01): priming, holding, stopping, stripping, closing, the return to FREE, the
lineup, stop and hold triggers and the step deadlines; and the release of a line's tanks (R66). -/

namespace Sys2Proof.Machine

open Sys2Proof

/-! ## Priming (R8, R9, R15) -/

/-- The prime speed claim: the governor's part (R36), step PRIME with its deadline, priming armed (R8, R80). -/
def Device.primeClaim (s : Device) (l : Line) : Device :=
  let s := s.primeSpeed l
  let s := (s.setStep l .prime).setDeadline l (s.secondsOn (s.limits l).primeLimit)
  s.setHose l { s.hose l with armed := true, primingCount := 0 }

/-- PRIMING entered from LINEUP (R8). -/
def Device.primeFromLineup (s : Device) (l : Line) : Device :=
  (s.enterState l .priming .prime .none).primeClaim l

/-- PRIMING entered from HELD: RETURN is closed first, unless it is at rest CLOSED (R15). -/
def Device.primeFromHeld (s : Device) (l : Line) : Device :=
  let s := s.enterState l .priming .returnClosing .none
  if s.atRest l .returnValve .closed then s.primeClaim l else s.claimValve l .returnValve .closed .sequence

/-- Priming complete: the line leaves PRIMING at step PRIME for DELIVERING, and goes on to TOPPING when its
topping-cause set is not empty; the governor sets the start rate (R9, R37). -/
def Device.primingComplete (s : Device) (l : Line) : Device :=
  if (s.line l).state = .priming ∧ (s.line l).step = .prime then
    let s := s.enterState l .delivering .none .none
    let s := if (s.line l).topping.isEmpty then s else s.enterState l .topping .none .none
    s.startRate l
  else s

/-! ## Holding (R12 to R15) -/

/-- HELD entered with a hold cause (R12, R13). -/
def Device.enterHeld (s : Device) (l : Line) (cause : HoldCause) : Device :=
  let c := s.line l
  let s := s.setLine l { c with hold := c.hold.put cause true, holdStart := some s.time }
  let s := s.enterState l .held .hold (.hold cause)
  let s := s.setDeadline l (s.secondsOn (s.limits l).holdLimit)
  s.claimValve l .returnValve .opened .sequence

/-- A hold trigger (R12). -/
def Device.holdTrigger (s : Device) (l : Line) (cause : HoldCause) : Device :=
  let c := s.line l
  if c.state.holdable then s.enterHeld l cause
  else if c.state = .held then s.setLine l { c with hold := c.hold.put cause true }
  else s

/-- A clearing event: in HELD a cause present is removed, and an emptied set primes the line again (R14, R15). -/
def Device.clearHold (s : Device) (l : Line) (cause : HoldCause) : Device :=
  let c := s.line l
  if c.state = .held ∧ c.hold.has cause = true then
    let h := c.hold.put cause false
    let s := s.setLine l { c with hold := h }
    if h.isEmpty then s.primeFromHeld l else s
  else s

/-! ## Release (R66) -/

/-- The level state of a tank by R54 for the topping volume of its line, if it has one; a tank not yet reported stays
UNKNOWN (R54, R65). -/
def Tank.levelState (e : Tank) (toppingVolume : Option Nat) : TankState :=
  match e.volume with
  | none => e.state
  | some v =>
    let near : Bool := match toppingVolume with
      | none => false
      | some tv => decide (e.highVolume ≤ v + tv)
    if e.overfillVolume ≤ v ∨ e.alarm = .overfill then .overfill
    else if e.highVolume ≤ v ∨ e.alarm = .high then .high
    else if near then .near
    else if e.openValve then .filling
    else .idle

/-- The topping volume of the tank's assigned line (R54). -/
def Device.toppingVolumeOf (s : Device) (e : Tank) : Option Nat :=
  match e.assigned with
  | none => none
  | some l => some (s.limits l).toppingVolume

/-- The volume as a report shows it: 0 while absent (R51, R54). -/
def Tank.shownVolume (e : Tank) : Word :=
  match e.volume with
  | none => 0
  | some v => BitVec.ofNat 32 v

/-- A TANK_STATE report of a tank (R51, R54). -/
def Device.reportTank (s : Device) (t : TankNo) (e : Tank) (cause : ReportCause) : Device :=
  s.submit .tankState (lineNumberOr0 e.assigned) (tankNumber t) cause e.shownVolume (BitVec.ofNat 32 e.highVolume)

/-- A tank's state recomputed outside a report, with its TANK_STATE report when it changed (R65, R66). -/
def Device.restate (s : Device) (t : TankNo) (e : Tank) : Device :=
  let st := e.levelState (s.toppingVolumeOf e)
  let e' := { e with state := st }
  let s := s.setTank t e'
  if st = e.state then s else s.reportTank t e' (.tank st)

/-- One tank released (R66). -/
def Device.releaseTank (s : Device) (l : Line) (t : TankNo) : Device :=
  match s.tank t with
  | none => s
  | some e =>
    if e.assigned = some l then s.restate t { e with assigned := none, advice := .none, closeDeadline := none } else s

/-- The release of a line's tanks: order and count emptied (R66). The tanks are taken in ascending number, the order of
their TANK_STATE reports: DESIGN CHOICE, log 45. -/
def Device.release (s : Device) (l : Line) : Device :=
  (allTanks.foldl (fun s t => s.releaseTank l t) s).setTopOff l .empty

/-! ## Closing and the return to FREE (R24, R28) -/

/-- A line's context on entering FREE, once its summary is given (R28). -/
def LineContext.cleared (c : LineContext) : LineContext :=
  { c with hold := .empty, topping := .empty, stopCause := none, stripFlag := false, stripResult := .none,
           step := .none, holdStart := none, deadline := none }

/-- FREE entered: LINE_STATE, the bus mode, LINE_SUMMARY, the release, and the context cleared (R28, R114). -/
def Device.enterFree (s : Device) (l : Line) : Device :=
  let s := (s.enterState l .free .none .none).takeBusMode.lineSummary l
  let s := s.release l
  let s := s.setLine l (s.line l).cleared
  s.setSequenceMemory l .reset

/-- A closing claim of step VALVES_CLOSING: skipped for a valve at rest CLOSED; awaited unless dropped on arrival
(R24, R125). -/
def Device.closeValve (s : Device) (l : Line) (r : Role) : Device :=
  if s.atRest l r .closed then s
  else
    let awaited := !s.claimWouldDrop l r .closed .sequence
    let s := s.claimValve l r .closed .sequence
    s.setSequenceMemory l { s.sequenceMemory l with awaited := (s.sequenceMemory l).awaited.set r awaited }

/-- No closing claim is awaited. -/
def Device.closingDone (s : Device) (l : Line) : Bool := decide ((s.sequenceMemory l).awaited = .all false)

/-- Step VALVES_CLOSING entered (R24). -/
def Device.closeValves (s : Device) (l : Line) : Device :=
  let s := s.setStep l .valvesClosing
  let s := s.setSequenceMemory l .reset
  let s := ((s.closeValve l .discharge).closeValve l .returnValve).closeValve l .strip
  if s.closingDone l then s.enterFree l else s

/-- Step MANIFOLD_CLOSING entered (R24, R125). -/
def Device.closeManifold (s : Device) (l : Line) : Device :=
  let s := s.setStep l .manifoldClosing
  if s.atRest l .manifold .closed then s.closeValves l
  else
    let drops := s.claimWouldDrop l .manifold .closed .sequence
    let s := s.claimValve l .manifold .closed .sequence
    if drops then s.closeValves l else s

/-- CLOSING entered from STOPPING, STRIPPING or TRIPPED (R24). -/
def Device.enterClosing (s : Device) (l : Line) : Device :=
  (s.enterState l .closing .manifoldClosing .none).closeManifold l

/-! ## Stopping (R17 to R23) -/

/-- STRIPPING entered (R23). -/
def Device.enterStripping (s : Device) (l : Line) : Device :=
  let s := s.enterState l .stripping .strip .none
  let s := s.claimValve l .strip .opened .sequence
  s.setDeadline l ((s.line l).entry + BitVec.ofNat 32 ((s.limits l).stripLimit * 10))

/-- The line leaves STOPPING (R21, R22). -/
def Device.leaveStopping (s : Device) (l : Line) : Device :=
  if (s.line l).stripFlag then s.enterStripping l else s.enterClosing l

/-- Step PUMP_STOPPING entered; the pump stop is taken at once when the latest SPEED 0 has already ended (R21). -/
def Device.enterPumpStopping (s : Device) (l : Line) : Device :=
  let s := (s.setStep l .pumpStopping).setDeadline l (s.secondsOn (s.limits l).pumpStop)
  if s.idleNode (s.deviceOf l .pump) then s.leaveStopping l else s

/-- A line context that takes a stop cause (R18, R19). -/
def LineContext.stopped (c : LineContext) (cause : Cause) (strip : Bool) : LineContext :=
  { c with stopCause := some cause, stripFlag := strip, hold := .empty }

/-- STOPPING entered; with an allowed rate of 0 the step is PUMP_STOPPING at entry (R19, R21). -/
def Device.enterStopping (s : Device) (l : Line) (cause : Cause) (strip : Bool) : Device :=
  let s := s.setLine l ((s.line l).stopped cause strip)
  let s := s.enterState l .stopping .ramp (.line cause)
  if (s.governor l).allowed = 0 then s.enterPumpStopping l else s

/-- CLOSING entered from LINEUP at step HOLD_OFF, with the queued SEQUENCE claims withdrawn (R19, R20). -/
def Device.closeFromLineup (s : Device) (l : Line) (cause : Cause) : Device :=
  let s := s.setLine l ((s.line l).stopped cause false)
  let s := s.setSequenceMemory l .reset
  let s := s.enterState l .closing .holdOff (.line cause)
  let s := s.withdrawLine l
  if s.valveInFlight l then s else s.closeManifold l

/-- A stop trigger (R19). -/
def Device.stopTrigger (s : Device) (l : Line) (cause : Cause) (strip : Bool) : Device :=
  let st := (s.line l).state
  if st = .lineup then s.closeFromLineup l cause
  else if st.running then s.enterStopping l cause strip
  else s

/-- The governor's SPEED 0 claim in STOPPING moves the line to PUMP_STOPPING (R21, R38, section 1.3). -/
def Device.finishRamp (s : Device) (l : Line) : Device :=
  (s.rampEnd l).enterPumpStopping l

/-- A governor step of a line whose step expiry has fallen due (R31, R35, R36, R38). A step that claims SPEED 0 in STOPPING
sets no next expiry, and its claim ends step RAMP (R21, R31, section 1.3). That this holds also of a step from above a
floor rate of 0 that lands on 0 is DEDUCED, log 49. -/
def Device.governorStep (s : Device) (l : Line) (due : Time) : Device :=
  match (s.line l).state with
  | .priming => (s.primingStep l).nextStep l due
  | .delivering => (s.deliveryStep l).nextStep l due
  | .topping => (s.deliveryStep l).nextStep l due
  | .stopping =>
    if s.rampEnds l then s.finishRamp l else (s.rampStep l).nextStep l due
  | _ => s

/-- Strip complete in step STRIP (R23). -/
def Device.stripComplete (s : Device) (l : Line) : Device :=
  let c := s.line l
  if c.state = .stripping ∧ c.step = .strip then (s.setLine l { c with stripResult := .complete }).enterClosing l else s

/-! ## Lineup (R5, R6) -/

/-- The start condition (R6). -/
def Device.startCondition (s : Device) (l : Line) : Bool :=
  (decide (s.permit l = some .go) || decide (s.permit l = some .reduce))
    && decide (1 ≤ (s.topOff l).openCount)
    && s.atRest l .returnValve .closed && s.atRest l .strip .closed
    && !s.someValve l .localControl && !s.someValve l .failed
    && s.readingsFresh l

/-- The start condition tested while the step is START_WAIT (R6). -/
def Device.startTest (s : Device) (l : Line) : Device :=
  if (s.line l).state = .lineup ∧ (s.line l).step = .startWait ∧ s.startCondition l = true then s.primeFromLineup l
  else s

/-- Lineup done: step START_WAIT (R5, R6). -/
def Device.enterStartWait (s : Device) (l : Line) : Device := (s.setStep l .startWait).startTest l

/-- Step MANIFOLD_OPENING; passed at once when MANIFOLD is already OPEN (R5). -/
def Device.enterManifoldOpening (s : Device) (l : Line) : Device :=
  let s := s.setStep l .manifoldOpening
  if s.valveIs l .manifold .opened then s.enterStartWait l else s.claimValve l .manifold .opened .sequence

/-- The claims on entry to LINEUP (R5). -/
def Device.lineupClaims (s : Device) (l : Line) : Device :=
  let s := if s.valveIs l .returnValve .closed then s else s.claimValve l .returnValve .closed .sequence
  let s := if s.valveIs l .strip .closed then s else s.claimValve l .strip .closed .sequence
  if s.valveIs l .discharge .opened then s.enterManifoldOpening l else s.claimValve l .discharge .opened .sequence

/-- The target of a lineup claim (R5). -/
def lineupTarget : Role → Target
  | .discharge => .opened
  | .manifold => .opened
  | .returnValve => .closed
  | .strip => .closed

/-- A refused lineup claim is made again at this step (R5). -/
def reclaimStep : Role → Step → Bool
  | .discharge, st => decide (st = .dischargeOpening)
  | .manifold, st => decide (st = .manifoldOpening)
  | .returnValve, _ => true
  | .strip, _ => true

/-- A valve reported remote, or leaving LOCAL at a refreshing answer: a refused lineup claim is made again, and the
start condition is tested (R5, R6). -/
def Device.valveRemote (s : Device) (l : Line) (r : Role) : Device :=
  let m := s.sequenceMemory l
  if (s.line l).state = .lineup ∧ m.refused.get r = true ∧ reclaimStep r (s.line l).step = true then
    ((s.setSequenceMemory l { m with refused := m.refused.set r false }).claimValve l r (lineupTarget r) .sequence)
      |>.startTest l
  else s.startTest l

/-! ## Transaction ends at the line controller (R5, R15, R20, R21, R24) -/

/-- The end of a valve transaction in LINEUP (R5). -/
def Device.lineupEnd (s : Device) (l : Line) (r : Role) (o : TxOutcome) : Device :=
  if o = .refused then
    (s.setSequenceMemory l { s.sequenceMemory l with refused := (s.sequenceMemory l).refused.set r true }).startTest l
  else if o = .done ∧ r = .discharge ∧ (s.line l).step = .dischargeOpening then s.enterManifoldOpening l
  else if o = .done ∧ r = .manifold ∧ (s.line l).step = .manifoldOpening then s.enterStartWait l
  else s.startTest l

/-- The end of a valve transaction in CLOSING; an awaited claim has ended when both slots of its valve are empty (R20,
R24; log 17). -/
def Device.closingEnd (s : Device) (l : Line) (n : NodeNo) (r : Role) : Device :=
  match (s.line l).step with
  | .holdOff => if s.valveInFlight l then s else s.closeManifold l
  | .manifoldClosing => if r = .manifold ∧ (s.node n).idle = true then s.closeValves l else s
  | .valvesClosing =>
    if (s.sequenceMemory l).awaited.get r = true ∧ (s.node n).idle = true then
      let m := s.sequenceMemory l
      let s := s.setSequenceMemory l { m with awaited := m.awaited.set r false }
      if s.closingDone l then s.enterFree l else s
    else s
  | _ => s

/-- The end of a valve transaction at the line controller, by the line's state (R5, R15, R20, R24, R29). -/
def Device.valveEnd (s : Device) (l : Line) (n : NodeNo) (a : Act) (o : TxOutcome) : Device :=
  let r := (s.node n).role
  match (s.line l).state with
  | .lineup => s.lineupEnd l r o
  | .priming =>
    if (s.line l).step = .returnClosing ∧ r = .returnValve ∧ a = .move .closed ∧ o = .done then s.primeClaim l else s
  | .closing => s.closingEnd l n r
  | _ => s

/-- The end of a SPEED transaction at the line controller: the pump stop in step PUMP_STOPPING, when it is the latest
SPEED 0 (R21, R136); in LINEUP the start condition is tested (R6). -/
def Device.pumpEnd (s : Device) (l : Line) (n : NodeNo) : Device :=
  if (s.line l).state = .stopping ∧ (s.line l).step = .pumpStopping ∧ (s.node n).idle = true then s.leaveStopping l
  else s.startTest l

/-! ## Step deadlines (R7, R10, R16, R22, R23) -/

/-- The step deadline of a line has fallen due at a state and step that it limits. -/
def Device.deadlineDue (s : Device) (l : Line) : Bool := s.due (s.line l).deadline

/-- The lineup limit (R7). -/
def Device.lineupExpired (s : Device) (l : Line) : Device :=
  match s.lowestFailedValve l with
  | some n => s.esdTrigger .valveFailed (lineNumber l) (nodeAddress n) 0
  | none => s.stopTrigger l .lineupFailed false

/-- The strip limit (R23). -/
def Device.stripExpired (s : Device) (l : Line) : Device :=
  (s.setLine l { s.line l with stripResult := .incomplete }).enterClosing l

/-! ## TRIP_RESET and station reset (R26, R27, R98) -/

/-- The number of TRIPPED lines (R98). -/
def Device.trippedCount (s : Device) : Nat := (allLines.filter (fun l => decide ((s.line l).state = .tripped))).length

/-- The latch and its first cause cleared, the barge loop driven, and the TRIP_CLEARED report (R98). -/
def Device.dropLatch (s : Device) : Device :=
  let cause : ReportCause := match s.shutdown.first with
    | none => .none
    | some f => .line f.cause
  let count := s.trippedCount
  let s := s.setShutdown { s.shutdown with latch := false, first := none, firstLine := 0, firstSubject := 0 }
  s.driveBargeLoop.submit .tripCleared 0 0 cause (BitVec.ofNat 32 count) 0

/-- Every TRIPPED line sent to CLOSING (R26). -/
def Device.closeTripped (s : Device) : Device :=
  s.forLines (fun l s => if (s.line l).state = .tripped then s.enterClosing l else s)

/-- The latch cleared by TRIP_RESET, and every TRIPPED line sent to CLOSING (R26, R98). -/
def Device.clearLatch (s : Device) : Device := s.dropLatch.placeReports.closeTripped.judgeAlarm

/-- A stop trigger handed to each line in LINEUP, PRIMING, DELIVERING, TOPPING or HELD (R27, R145). The lines are taken in
ascending order: R145 gives it for SHIP_LOST, and for STATION_RESET it is a DESIGN CHOICE, log 48. -/
def Device.stopActive (s : Device) (cause : Cause) : Device :=
  s.forLines (fun l s => if (s.line l).state.active then s.stopTrigger l cause false else s)

end Sys2Proof.Machine
end

