-- ==== Sys2Proof/Machine/Tanks.lean ====
section
/-! DEFINITION. The tank watch (spec/03): the evaluation of a tank report, silence and loss, advice and the close
deadline, the assignment of an OPEN's tanks; and the taking of OPEN (R4). -/

namespace Sys2Proof.Machine

open Sys2Proof

/-! ## Evaluation (R50 to R54) -/

/-- The report stored: volume, valve, alarm, time, freshness, both silence expiries (R51, R55). -/
def Device.storeReport (s : Device) (e : Tank) (r : TankReport) : Tank :=
  { e with volume := some r.volume, valve := r.valve, alarm := r.alarm, lastReport := some s.time, freshness := .fresh,
           silenceExpiry := some (s.secondsOn s.general.tankSilence),
           lostExpiry := some (s.secondsOn s.general.tankLost) }

/-- The fill rate measured over a closed window, rounded toward zero (R52). -/
def fillRateOf (volume reference elapsed : Nat) : Int :=
  Int.tdiv (((volume : Int) - (reference : Int)) * 600) (elapsed : Int)

/-- The fill-rate reference and the fill rate kept (R52). -/
def Device.measure (s : Device) (e : Tank) (volume : Nat) : Tank :=
  match e.reference with
  | none => { e with reference := some ⟨volume, s.time⟩ }
  | some ref =>
    let elapsed := (s.time - ref.time).toNat
    if elapsed < Config.fillWindow then e
    else { e with fillRate := some (fillRateOf volume ref.volume elapsed), reference := some ⟨volume, s.time⟩ }

/-- The time to high (R53). -/
def Tank.timeOf (e : Tank) (volume : Nat) : Option Nat :=
  if e.highVolume ≤ volume then some 0
  else match e.fillRate with
    | none => none
    | some f => if f ≤ 0 then none else some ((e.highVolume - volume) * 60 / f.toNat)

/-- The entry after a report, its level state included (R51 to R54). -/
def Device.reportedTank (s : Device) (e : Tank) (r : TankReport) : Tank :=
  let e := s.measure (s.storeReport e r) r.volume
  let e := { e with timeToHigh := e.timeOf r.volume }
  { e with state := e.levelState (s.toppingVolumeOf e) }

/-! ## Advice and the close deadline (R57, R58) -/

/-- Advice handed to the ship link with its TANK_ADVICE_SENT report (R57). -/
def Device.advise (s : Device) (t : TankNo) (v : Advice) : Device :=
  match s.tank t with
  | none => s
  | some e =>
    let s := s.sendAdvice t v
    let s := s.setTank t { e with advice := v }
    s.submit .tankAdviceSent (lineNumberOr0 e.assigned) (tankNumber t) (.advice v) e.shownVolume
      (match e.timeToHigh with
        | none => 0
        | some h => BitVec.ofNat 32 h)

/-- The close deadline of a tank that is HIGH: cleared with the valve CLOSED; set on entry, or when it is absent
(R58). -/
def Device.highDeadline (s : Device) (e : Tank) (entered : Bool) : Option Time :=
  if e.valve = .closed then none
  else if entered ∨ e.closeDeadline = none then some (s.secondsOn e.closeAllowance)
  else e.closeDeadline

/-- The close deadline stored. -/
def Device.setCloseDeadline (s : Device) (t : TankNo) (d : Option Time) : Device :=
  match s.tank t with
  | none => s
  | some e => s.setTank t { e with closeDeadline := d }

/-- The advice and close deadline effects of an assigned tank by the state left and the state it holds (R57, R58). -/
def Device.adviseTank (s : Device) (t : TankNo) (old : TankState) : Device :=
  match s.tank t with
  | none => s
  | some e =>
    match e.state with
    | .near =>
      let s := if old = .high then s.setCloseDeadline t none else s
      if old ≠ .near ∧ e.advice = .none then s.advise t .approaching else s
    | .high =>
      let entered := decide (old ≠ .high)
      let s := if entered = true ∧ e.advice ≠ .closeNow then s.advise t .closeNow else s
      s.setCloseDeadline t (s.highDeadline e entered)
    | .filling => if old = .high then s.setCloseDeadline t none else s
    | .idle => if old = .high then s.setCloseDeadline t none else s
    | .overfill => s
    | .unknown => s

/-- The ESD trigger of an assigned tank that enters OVERFILL (R60, R88). -/
def Device.overfillTrigger (s : Device) (l : Line) (t : TankNo) (e : Tank) : Device :=
  s.esdTrigger .overfill (lineNumber l) (tankNumber t) (match e.volume with
    | none => 0
    | some v => v)

/-- The check of R62. -/
def Device.checkLastTank (s : Device) (l : Line) : Device :=
  if s.lastTankHigh l then s.stopTrigger l .lastTankHigh false else s

/-- The NO_PATH trigger or clearing of a count that changed from one value to another (R64). -/
def Device.pathEffect (s : Device) (l : Line) (old new : Nat) : Device :=
  if 0 < old ∧ new = 0 ∧ (s.line l).state.running = true then s.holdTrigger l .noPath
  else if old = 0 ∧ 0 < new ∧ (s.line l).state = .held then s.clearHold l .noPath
  else s

/-- A tank state that an alarm event marks the entry into (R61). -/
def TankState.alarms : TankState → Bool
  | .high | .overfill => true
  | _ => false

/-- The line effects of an evaluation, in the order of R50 from item 4 on, and the start test. -/
def Device.lineEffects (s : Device) (l : Line) (t : TankNo) (old : TankState) (e : Tank) (count : Nat) : Device :=
  let s := if e.state = .overfill ∧ old ≠ .overfill then s.overfillTrigger l t e else s
  let s := (s.adviseTank t old).placeReports
  let s := (s.checkLastTank l).placeReports
  let s := (s.pathEffect l count (s.openTanks l).length).placeReports
  let s := s.handTopping l
  s.startTest l

/-- The evaluation of a tank report (R50); a report for an absent tank is discarded. -/
def Device.evaluate (s : Device) (r : TankReport) : Device :=
  match s.tank r.tank with
  | none => s
  | some old =>
    let e := s.reportedTank old r
    let count := match old.assigned with
      | none => 0
      | some l => (s.topOff l).openCount
    let s := s.setTank r.tank e
    let s := if old.freshness = .fresh then s else s.reportTank r.tank e (.freshness .fresh)
    let s := if e.state = old.state then s else s.reportTank r.tank e (.tank e.state)
    let s := if e.state ≠ old.state ∧ e.state.alarms = true then s.alarmEvent else s
    let s := s.retakeTankAlarm.placeReports
    match e.assigned with
    | none => s
    | some l => s.lineEffects l r.tank old.state e count

/-! ## Silence, loss and the close deadline (R55, R56, R59) -/

/-- The topping causes of a tank's assigned line recomputed (R70). -/
def Device.handToppingOf (s : Device) (e : Tank) : Device :=
  match e.assigned with
  | none => s
  | some l => s.handTopping l

/-- A tank's silence expiry (R55). -/
def Device.tankSilent (s : Device) (t : TankNo) (e : Tank) : Device :=
  if e.freshness = .fresh then
    let e := { e with freshness := .silent, silenceExpiry := none }
    ((s.setTank t e).reportTank t e (.freshness .silent)).handToppingOf e
  else s

/-- A tank's lost expiry (R55, R56). -/
def Device.tankLost (s : Device) (t : TankNo) (e : Tank) : Device :=
  if e.freshness = .lost then s
  else
    let e := { e with freshness := .lost, lostExpiry := none }
    let s := ((s.setTank t e).reportTank t e (.freshness .lost)).handToppingOf e
    match e.assigned with
    | none => s
    | some l => if e.openValve then s.stopTrigger l .tankLost false else s

/-- A tank's close deadline expires (R59). -/
def Device.closeOverdue (s : Device) (t : TankNo) (e : Tank) : Device :=
  let s := s.setTank t { e with closeDeadline := none }
  match e.assigned with
  | none => s
  | some l => if e.valve = .closed then s else s.stopTrigger l .closeOverdue false

/-! ## Assignment (R65) and OPEN (R4) -/

/-- One plan tank assigned to a line, its state recomputed (R65). -/
def Device.assignTank (s : Device) (l : Line) (t : TankNo) : Device :=
  match s.tank t with
  | none => s
  | some e => s.restate t { e with assigned := some l, advice := .none }

/-- The plan tanks assigned, and count, order and causes recomputed (R65). -/
def Device.assignTanks (s : Device) (l : Line) (tanks : List TankNo) : Device :=
  (tanks.foldl (fun s t => s.assignTank l t) s).recompute l

/-- The line effects of one assigned tank's state (R65). -/
def Device.assignEffect (s : Device) (l : Line) (t : TankNo) : Device :=
  match s.tank t with
  | none => s
  | some e => match e.state with
    | .overfill => s.overfillTrigger l t e
    | _ => s.adviseTank t .idle

/-- The line effects of the assigned tanks in ascending number, then the check of R62 (R65). -/
def Device.assignEffects (s : Device) (l : Line) : Device :=
  ((s.tanksOf l).foldl (fun s t => s.assignEffect l t) s).checkLastTank l

/-- The line context as OPEN sets it before the assignment (R4). -/
def LineContext.opened (c : LineContext) (nominated base : Word) : LineContext :=
  { c with nominated := nominated, base := base, hold := .empty, topping := .empty, stopCause := none,
           stripFlag := false, stripResult := .none }

/-- The FLOW node's running total (R4). -/
def Device.meterTotal (s : Device) (l : Line) : Word :=
  match s.deviceOf l .flow with
  | none => 0
  | some n => (s.node n).readingB

/-- OPEN taken by the line controller, and the bus mode taken at the line's leaving FREE (R4, R114). -/
def Device.takeOpen (s : Device) (l : Line) (p : Plan) : Device :=
  let s := s.setLine l ((s.line l).opened p.nominated (s.meterTotal l))
  let s := s.setGovernor l { s.governor l with delivered := 0 }
  let s := s.assignTanks l p.tanks
  let s := s.setSequenceMemory l .reset
  let s := (s.enterState l .lineup .dischargeOpening .none).takeBusMode
  let s := s.setDeadline l ((s.line l).entry + BitVec.ofNat 32 ((s.limits l).lineupLimit * 10))
  let s := s.assignEffects l
  if (s.line l).state = .lineup then s.lineupClaims l else s

end Sys2Proof.Machine
end

