-- ==== Sys2Proof/Machine/TransactionEnds.lean ====
section
/-! DEFINITION. The end of a transaction (R132 to R136) and the travel expiry (R129). -/

namespace Sys2Proof.Machine

open Sys2Proof

/-- The valve state after the end of a MOVE (R133); a SPEED end changes none. -/
def stateAtEnd (v : ValveState) (a : Act) (o : TxOutcome) : ValveState :=
  match a with
  | .speed _ => v
  | .move t => match o with
    | .done => targetState t
    | .refused => .localControl
    | .failed => .failed
    | .abandoned => v

/-- The in-flight slot emptied and the valve state set (R132 step 1). -/
def Device.emptyInFlight (s : Device) (n : NodeNo) (a : Act) (o : TxOutcome) : Device :=
  s.setNode n { s.node n with inFlight := none, valve := stateAtEnd (s.node n).valve a o }

/-- The line is not FREE. -/
def Device.lineBusy (s : Device) (l : Line) : Bool := decide ((s.line l).state ≠ .free)

/-- The hold trigger of a REFUSED valve and the failure effects of a FAILED one (R132 steps 3 and 4, R134, R135). -/
def Device.endTriggers (s : Device) (n : NodeNo) (l : Line) (a : Act) (o : TxOutcome) : Device :=
  match a with
  | .speed _ => s
  | .move _ => match o with
    | .refused => if s.lineBusy l then s.retakeValveAlarm.holdTrigger l .localValve else s.retakeValveAlarm
    | .failed =>
      let s := s.alarmEvent.retakeValveAlarm
      if s.lineBusy l then s.esdTrigger .valveFailed (lineNumber l) (nodeAddress n) 0 else s
    | .done => s.retakeValveAlarm
    | .abandoned => s

/-- A queued claim moved into an empty in-flight slot (R132 step 5, R120). -/
def Device.promote (s : Device) (n : NodeNo) : Device :=
  match (s.node n).inFlight, (s.node n).queued with
  | none, some q => (s.setNode n { s.node n with queued := none }).goInFlight n q
  | _, _ => s

/-- The end handed to the line controller, the shutdown unit and the rate governor (R132 step 6). -/
def Device.handEnd (s : Device) (n : NodeNo) (l : Line) (t : Transaction) (o : TxOutcome) : Device :=
  let s := match t.act with
    | .move _ => s.valveEnd l n t.act o
    | .speed _ => s.pumpEnd l n
  let s := if t.origin = .esd then s.esdEnd l n else s
  match t.act with
  | .move _ => s
  | .speed _ => s.governorEnd l n t.act o

/-- The end of the transaction in flight with an outcome, in the order of R132; step 7, the bus mode, is taken at the end
of the event (log 13). -/
def Device.endTransaction (s : Device) (n : NodeNo) (o : TxOutcome) : Device :=
  match (s.node n).inFlight, (s.node n).line with
  | some t, some l =>
    let s := s.emptyInFlight n t.act o
    let s := (s.reportEnd n t.act o).placeReports
    let s := (s.endTriggers n l t.act o).placeReports
    let s := s.promote n
    s.handEnd n l t o
  | _, _ => s

/-- A travel expiry that has fallen due ends the transaction in TRAVEL FAILED (R129; log 3). -/
def Device.travelExpired (s : Device) (n : NodeNo) : Device :=
  match (s.node n).inFlight with
  | none => s
  | some t => if t.phase = .travel ∧ s.due t.travelExpiry = true then s.endTransaction n .failed else s

end Sys2Proof.Machine
end

