-- ==== Sys2Proof/Machine/HoseWatch.lean ====
section
/-! DEFINITION. The hose watch's taking of a pressure reading (R74 to R82) and the governor's taking of a flow reading
(R45, R46). -/

namespace Sys2Proof.Machine

open Sys2Proof

/-- The address of a line's PRESSURE node, the subject of its ESD triggers (R88). -/
def Device.pressureNode (s : Device) (l : Line) : Nat :=
  match s.deviceOf l .pressure with
  | none => 0
  | some n => nodeAddress n

/-- A reading that enters the TRIP band (R77). -/
def Device.tripReading (s : Device) (l : Line) (p : Nat) (before : Option Band) : Device :=
  if before = some .trip then s else s.esdTrigger .pressureTrip (lineNumber l) (s.pressureNode l) p

/-- A reading counted toward priming (R80). -/
def Device.primingReading (s : Device) (l : Line) (p : Nat) : Device :=
  let h := s.hose l
  if h.armed = false then s
  else if p < (s.limits l).primePressure then s.setHose l { h with primingCount := 0 }
  else if h.primingCount + 1 < 2 then s.setHose l { h with primingCount := h.primingCount + 1 }
  else (s.setHose l { h with primingCount := 2, armed := false }).primingComplete l

/-- A LOW reading in DELIVERING or TOPPING (R82). -/
def Device.lowReading (s : Device) (l : Line) (p : Nat) : Device :=
  let h := s.hose l
  if h.lowCount + 1 < 2 then s.setHose l { h with lowCount := h.lowCount + 1 }
  else (s.setHose l { h with lowCount := 0 }).esdTrigger .hoseLoss (lineNumber l) (s.pressureNode l) p

/-- A reading tested for the end of stripping (R81). -/
def Device.stripReading (s : Device) (l : Line) (p : Nat) : Device :=
  if (s.line l).step = .strip ∧ p ≤ (s.limits l).stripDone ∧ s.valveIs l .strip .opened = true then s.stripComplete l
  else s

/-- A reading in DELIVERING or TOPPING in a band other than LOW resets the low count (R82). -/
def Device.resetLow (s : Device) (l : Line) : Device := s.setHose l { s.hose l with lowCount := 0 }

/-- A STOP reading (R78). -/
def Device.stopReading (s : Device) (l : Line) : Device := s.stopTrigger l .pressureStop false

/-- The effect of a classified reading by the line's state and the reading's band (R76). -/
def Device.readingEffect (s : Device) (l : Line) (p : Nat) (before : Option Band) (band : Band) : Device :=
  match (s.line l).state, band with
  | .delivering, .low => s.lowReading l p
  | .topping, .low => s.lowReading l p
  | .delivering, .trip => (s.resetLow l).tripReading l p before
  | .topping, .trip => (s.resetLow l).tripReading l p before
  | .delivering, .stop => s.stopReading l
  | .topping, .stop => s.stopReading l
  | .delivering, _ => s.resetLow l
  | .topping, _ => s.resetLow l
  | .free, _ => s
  | _, .trip => s.tripReading l p before
  | .priming, .stop => s.stopReading l
  | .priming, _ => s.primingReading l p
  | .stripping, .stop => s
  | .stripping, _ => s.stripReading l p
  | _, _ => s

/-- A fresh pressure reading of a line (R74, R75). -/
def Device.pressureReading (s : Device) (l : Line) (p : Nat) : Device :=
  if (s.line l).state = .free then s
  else
    let before := (s.hose l).band
    let band := bandOf (s.limits l) p
    let s := s.setHose l { s.hose l with pressure := some p, readingTime := some s.time, band := some band }
    s.readingEffect l p before band

/-- The delivered quantity of a flow meter total (R45). -/
def Device.countDelivered (s : Device) (l : Line) (total : Word) : Device :=
  let d := total - (s.line l).base
  if (s.governor l).delivered.toNat < d.toNat then
    (s.setGovernor l { s.governor l with delivered := d }).handTopping l
  else s

/-- A fresh flow reading of a line that is not FREE: delivered, then the nomination (R45, R46). -/
def Device.flowReading (s : Device) (l : Line) (total : Word) : Device :=
  if (s.line l).state = .free then s
  else
    let s := s.countDelivered l total
    if (s.line l).nominated.toNat ≤ (s.governor l).delivered.toNat then s.stopTrigger l .nominationMet false else s

end Sys2Proof.Machine
end

