-- ==== Sys2Proof/Machine/DeckBus.lean ====
section
/-! DEFINITION. The deck bus controller: the evaluation of a slot in the order of R113, frames, tails, the bus mode and
frame starts (spec/06), and the answers in each phase of a transaction (R126 to R131). -/

namespace Sys2Proof.Machine

open Sys2Proof

/-! ## The node record (R108, R110) -/

/-- The miss count after a slot without a refreshing answer (R108). -/
def missed (misses : Nat) : Nat := min Config.missLimit (misses + 1)

/-- The node record after a slot result, but for freshness and valve state (R108). -/
def Node.take (nd : Node) : SlotOutcome → Node
  | .answer a =>
    if a.fault then
      { nd with inLocal := a.inLocal, moving := a.moving, fault := true, misses := missed nd.misses }
    else
      { nd with inLocal := a.inLocal, moving := a.moving, fault := false, readingA := a.readingA,
                readingB := if nd.kind = .flow then a.readingB else nd.readingB, misses := 0 }
  | .silent => { nd with misses := missed nd.misses }
  | .checkError => { nd with misses := missed nd.misses }

/-- A refreshing answer sets this valve's state from its position: with no transaction in flight, from CLOSED, OPEN or
MOVING (R110), and from LOCAL when the answer's remote flag is REMOTE (R134). -/
def Node.followsPosition (nd : Node) (a : Answer) : Bool :=
  decide (nd.kind = .valve) && nd.inFlight.isNone &&
    match nd.valve with
    | .closed => true
    | .opened => true
    | .moving => true
    | .localControl => !a.inLocal
    | .probing => false
    | .failed => false

/-- The target in force of a valve taking its first valve state since the rebuild (R119). -/
def Device.firstTarget (s : Device) (n : NodeNo) (v : ValveState) : Device :=
  if (s.targets.get n).awaitsFirst then s.setTarget n ⟨if v = .opened then .opened else .closed, false⟩ else s

/-- The clearing of LOCAL_VALVE handed when all four valves of the line hold REMOTE (R112, R134). -/
def Device.clearLocal (s : Device) (l : Line) : Device := if s.allRemote l then s.clearHold l .localValve else s

/-- What a valve state set from the position hands on: a valve that leaves LOCAL is reported remote, and the clearing
of LOCAL_VALVE is handed when its flag was REMOTE already; any other change tests the start condition (R5, R6, R133,
R134). -/
def Device.positionTaken (s : Device) (before : Node) : Device :=
  match before.line with
  | none => s
  | some l =>
    if before.valve = .localControl then
      let s := s.valveRemote l before.role
      if before.inLocal then s else s.clearLocal l
    else s.startTest l

/-- The valve state set from a refreshing answer's position (R110, R134). -/
def Device.takePosition (s : Device) (n : NodeNo) (before : Node) (a : Answer) : Device :=
  if before.followsPosition a then
    let v := positionState a.readingA
    let s := s.setNode n { s.node n with valve := v }
    let s := s.firstTarget n v
    if v = before.valve then s else s.positionTaken before
  else s

/-- Item 1 of R113: the node record update of R108 and the valve state of R110. -/
def Device.takeRecord (s : Device) (n : NodeNo) (before : Node) (o : SlotOutcome) : Device :=
  let s := s.setNode n (before.take o)
  match o.refreshing with
  | none => s
  | some a => s.takePosition n before a

/-! ## Freshness (R109) -/

/-- What made the node STALE (R109). -/
def staleCauseOf : SlotOutcome → StaleCause
  | .silent => .silent
  | .checkError => .checkError
  | .answer _ => .fault

/-- The kinds whose freshness holds a line (R109). -/
def NodeKind.holdsLine : NodeKind → Bool
  | .pump | .pressure | .flow => true
  | _ => false

/-- A node becomes STALE (R109, R83). Value B of the report is 0: DESIGN CHOICE, log 46. -/
def Device.becomeStale (s : Device) (n : NodeNo) (o : SlotOutcome) : Device :=
  let nd := s.node n
  let s := s.setNode n { nd with stale := true }
  let s := s.submit .nodeStale (lineNumberOr0 nd.line) (nodeAddress n) (.stale (staleCauseOf o))
    (BitVec.ofNat 32 nd.readingA) 0
  match nd.line with
  | none => s
  | some l =>
    let s := if nd.kind.holdsLine = true ∧ s.lineBusy l = true then s.holdTrigger l .staleReading else s
    s.startTest l

/-- A node becomes FRESH (R109, R83). Value B of the report is 0: DESIGN CHOICE, log 46. -/
def Device.becomeFresh (s : Device) (n : NodeNo) : Device :=
  let nd := s.node n
  let s := s.setNode n { nd with stale := false }
  let s := s.submit .nodeFresh (lineNumberOr0 nd.line) (nodeAddress n) .none (BitVec.ofNat 32 nd.readingA) 0
  match nd.line with
  | none => s
  | some l =>
    let s := if nd.kind.holdsLine = true ∧ s.lineBusy l = true ∧ s.readingsFresh l = true then
        s.clearHold l .staleReading else s
    s.startTest l

/-- Item 2 of R113: the freshness of R109. -/
def Device.takeFreshness (s : Device) (n : NodeNo) (o : SlotOutcome) : Device :=
  let nd := s.node n
  match o.refreshing with
  | some _ => if nd.stale then s.becomeFresh n else s
  | none => if nd.stale = false ∧ nd.misses = Config.missLimit then s.becomeStale n o else s

/-! ## The fault flag (R111) -/

/-- An answer with its fault flag set. -/
def SlotOutcome.faulty : SlotOutcome → Bool
  | .answer a => a.fault
  | _ => false

/-- Item 3 of R113: the PUMP_FAULT trigger of R111. -/
def Device.pumpFault (s : Device) (n : NodeNo) (o : SlotOutcome) : Device :=
  match (s.node n).line with
  | none => s
  | some l =>
    if o.faulty = true ∧ (s.node n).kind = .pump ∧ s.lineBusy l = true then s.stopTrigger l .pumpFault false else s

/-! ## Transaction handling (R126 to R131) -/

/-- The transaction in flight replaced, with the valve's state. -/
def Device.setInFlight (s : Device) (n : NodeNo) (t : Transaction) (v : ValveState) : Device :=
  (s.setNode n { s.node n with inFlight := some t, valve := v }).retakeValveAlarm

/-- The time limit of TRAVEL: a valve's travel limit, or the pump stop allowance of a pump's line (R129). -/
def Device.travelSeconds (s : Device) (n : NodeNo) (a : Act) : Nat :=
  match a, (s.node n).line with
  | .move _, _ => (s.node n).travelLimit
  | .speed _, some l => (s.limits l).pumpStop
  | .speed _, none => 0

/-- A valve that leaves LOCAL at its own transaction's answer, with the flag REMOTE already before it: the clearing of
LOCAL_VALVE is handed at the leaving (R12, R134). A flag that changes in the answer hands it at item 5 of R113 (R112). -/
def Device.leaveLocal (s : Device) (before : Node) : Device :=
  match before.line with
  | none => s
  | some l => if before.valve = .localControl ∧ before.inLocal = false then s.clearLocal l else s

/-- Arrival tested on a refreshing answer (R128). -/
def Device.testArrival (s : Device) (n : NodeNo) (act : Act) (a : Answer) : Device :=
  if a.fault = false ∧ arrived act a.readingA = true then s.endTransaction n .done else s

/-- The valve state that an answer to an act gives its node: a SPEED has none (R126, R127, R136). -/
def Node.stateFor (nd : Node) (a : Act) (v : ValveState) : ValveState :=
  match a with
  | .move _ => v
  | .speed _ => nd.valve

/-- A TAKEN answer in SEND (R126, R129, R134). -/
def Device.takenAnswer (s : Device) (n : NodeNo) (before : Node) (t : Transaction) (a : Answer) : Device :=
  let t' := { t with phase := .travel, taken := some s.time, errors := 0,
                     travelExpiry := some (s.secondsOn (s.travelSeconds n t.act)) }
  ((s.setInFlight n t' ((s.node n).stateFor t.act .moving)).leaveLocal before).testArrival n t.act a

/-- More than the node's travel limit has passed since the in-flight time (R127). -/
def Device.busyTooLong (s : Device) (n : NodeNo) (t : Transaction) : Bool :=
  decide ((s.node n).travelLimit * 10 < (s.time - t.inFlightTime).toNat)

/-- A BUSY answer in SEND or PROBE (R126, R127, R134). -/
def Device.busyAnswer (s : Device) (n : NodeNo) (before : Node) (t : Transaction) : Device :=
  let t' := { t with phase := .probe, errors := 0 }
  let s := (s.setInFlight n t' ((s.node n).stateFor t.act .probing)).leaveLocal before
  if s.busyTooLong n t then s.endTransaction n .failed else s

/-- A failed slot in SEND or PROBE (R130). -/
def Device.slotError (s : Device) (n : NodeNo) (t : Transaction) : Device :=
  let s := s.setNode n { s.node n with inFlight := some { t with errors := t.errors + 1 } }
  if t.errors + 1 < Config.errorLimit then s else s.endTransaction n .failed

/-- An answer in phase SEND (R126). -/
def Device.sendAnswer (s : Device) (n : NodeNo) (before : Node) (t : Transaction) (a : Answer) : Device :=
  match a.code with
  | .taken => s.takenAnswer n before t a
  | .busy => s.busyAnswer n before t
  | .refused => s.endTransaction n .refused
  | .status => s
  | .ready => s

/-- An answer in phase PROBE (R127). -/
def Device.probeAnswer (s : Device) (n : NodeNo) (before : Node) (t : Transaction) (a : Answer) : Device :=
  match a.code with
  | .ready => s.setNode n { s.node n with inFlight := some { t with phase := .send, errors := 0 } }
  | .busy => s.busyAnswer n before t
  | .refused => s.endTransaction n .refused
  | .status => s
  | .taken => s

/-- A slot result of the transaction in flight (R126 to R130). A VALVE's fault ends it before the answer code. -/
def Device.transactionResult (s : Device) (n : NodeNo) (before : Node) (t : Transaction) (o : SlotOutcome) : Device :=
  match o with
  | .answer a =>
    if a.fault = true ∧ (s.node n).kind = .valve then s.endTransaction n .failed
    else match t.phase with
      | .send => s.sendAnswer n before t a
      | .probe => s.probeAnswer n before t a
      | .travel => s.testArrival n t.act a
  | .silent => if t.phase = .travel then s else s.slotError n t
  | .checkError => if t.phase = .travel then s else s.slotError n t

/-- Another transaction has entered the in-flight slot since the slot began (R131). -/
def Device.slotEntered (s : Device) : Bool :=
  match s.bus.slot with
  | none => false
  | some sl => sl.entered

/-- Item 4 of R113: the slot result to transaction handling; a result of no transaction now in flight is applied to none,
but for a VALVE's fault (R131). -/
def Device.takeTransaction (s : Device) (n : NodeNo) (before : Node) (o : SlotOutcome) : Device :=
  match (s.node n).inFlight with
  | none => s
  | some t =>
    if s.slotEntered then
      if o.faulty = true ∧ (s.node n).kind = .valve then s.endTransaction n .failed else s
    else s.transactionResult n before t o

/-! ## Remote flag and fresh readings (R110, R112) -/

/-- Item 5 of R113: a VALVE whose flag changes from LOCAL to REMOTE (R112). -/
def Device.takeRemote (s : Device) (before : Node) (o : SlotOutcome) : Device :=
  match o, before.line with
  | .answer a, some l =>
    if before.kind = .valve ∧ before.inLocal = true ∧ a.inLocal = false then
      (s.valveRemote l before.role).clearLocal l
    else s
  | _, _ => s

/-- Item 6 of R113: the fresh reading to the hose watch or the rate governor (R110). -/
def Device.handReading (s : Device) (n : NodeNo) (o : SlotOutcome) : Device :=
  match o.refreshing, (s.node n).line with
  | some a, some l =>
    match (s.node n).kind with
    | .pressure => s.pressureReading l a.readingA
    | .flow => s.flowReading l a.readingB
    | _ => s
  | _, _ => s

/-- The evaluation of a slot, in the order of R113; the reports of each item keep their places ahead of the next item's
(log 29). -/
def Device.evaluateSlot (s : Device) (n : NodeNo) (o : SlotOutcome) : Device :=
  let before := s.node n
  let s := (s.takeRecord n before o).placeReports
  let s := (s.takeFreshness n o).placeReports
  let s := (s.pumpFault n o).placeReports
  let s := (s.takeTransaction n before o).placeReports
  let s := (s.takeRemote before o).placeReports
  s.handReading n o

/-! ## Frames (R104, R105, R114 to R117) -/

/-- The message of a slot, from the in-flight transaction as it stands (R105). -/
def messageOf : Option Transaction → Message
  | none => .poll
  | some t => match t.phase with
    | .send => match t.act with
      | .move g => .move g
      | .speed v => .speed v
    | .probe => .probe
    | .travel => .poll

/-- A node is enrolled (R102). -/
def Node.enrolled (nd : Node) : Bool := decide (nd.kind ≠ .none)

/-- The slot of a node begins (R105). -/
def Device.beginSlot (s : Device) (n : NodeNo) : Device :=
  { s with bus := { s.bus with slot := some ⟨n, messageOf (s.node n).inFlight, false⟩ } }

/-- The tail mark: long in STEADY, short otherwise; after a short tail in WATCH the idle scan expiry is set. A change of
the mode taken during the frame affects only the tail (R104, R114, R116, R117). With no last frame start none is set: DESIGN
CHOICE, log 52. -/
def Device.endFrame (s : Device) : Device :=
  let s := { s with bus := { s.bus with slot := none, startDue := false } }
  match s.bus.mode with
  | .steady => { s with bus := { s.bus with tail := .long } }
  | .rest => { s with bus := { s.bus with
      tail := .short,
      idleScan := match s.bus.lastStart with
        | none => none
        | some h => some (h.time + BitVec.ofNat 32 Config.idleScanTime) } }
  | .off => { s with bus := { s.bus with tail := .short } }

/-- The next enrolled address above a node. -/
def Device.nextEnrolled (s : Device) (n : NodeNo) : Option NodeNo :=
  allNodes.find? (fun m => decide (n < m) && (s.node m).enrolled)

/-- After a slot: the next enrolled node's slot, or the tail; with the bus OFF no further slot is run (R104, R117). -/
def Device.afterSlot (s : Device) (n : NodeNo) : Device :=
  if s.bus.mode = .off then s.endFrame
  else match s.nextEnrolled n with
    | none => s.endFrame
    | some m => s.beginSlot m

/-- A frame starts now: lead mark, last frame start, the first slot (R104, R116). -/
def Device.startFrame (s : Device) : Device :=
  let s := { s with bus := { s.bus with
    lastStart := some ⟨s.time, s.half⟩, startHeld := false, startDue := false, idleScan := none } }
  match allNodes.find? (fun m => (s.node m).enrolled) with
  | none => s.endFrame
  | some n => s.beginSlot n

/-- 250 ms have passed since the last frame start (R115). With no frame start yet they count as passed: DESIGN CHOICE, log
52. -/
def Device.spaced (s : Device) : Bool :=
  match s.bus.lastStart with
  | none => true
  | some h => decide (Config.frameSpacingHalves ≤ s.halvesSince h)

/-- A frame start event: the frame starts at once, or is held for the spacing with no idle scan expiry set (R115, R116,
section 6.9 row 3). -/
def Device.requestFrame (s : Device) : Device :=
  if s.spaced then s.startFrame else { s with bus := { s.bus with startHeld := true, idleScan := none } }

/-- The frame start event of a change from REST to STEADY in the event that ends now (R114; log 13). -/
def Device.startDueFrame (s : Device) : Device :=
  if s.bus.startDue = true ∧ s.bus.slot = none then
    ({ s with bus := { s.bus with startDue := false } }).requestFrame
  else s

/-- The end of a node's slot (R113): its evaluation, the bus mode, then the next slot or the tail. -/
def Device.slotResult (s : Device) (seen : SlotSeen) : Device :=
  match s.bus.slot with
  | none => s
  | some sl =>
    let o := slotOutcome sl.node (s.node sl.node).kind sl.message seen
    ((s.evaluateSlot sl.node o).takeBusMode).afterSlot sl.node

/-- The bus rests in WATCH: no frame in progress and the last tail short (R116). -/
def Device.resting (s : Device) : Bool :=
  decide (s.charter.mode = .watch) && s.bus.slot.isNone && decide (s.bus.tail = .short)

/-- A frame may start on its own at the spacing: a held frame start, STEADY, or a long tail (R115). -/
def Device.frameAwaited (s : Device) : Bool :=
  decide (s.charter.mode = .watch) && s.bus.slot.isNone &&
    (s.bus.startHeld || decide (s.bus.mode = .steady) || decide (s.bus.tail = .long))

/-- The frame start of R115. -/
def Device.frameStart (s : Device) : Device := if s.frameAwaited && s.spaced then s.startFrame else s

/-- The idle scan expiry (R116). -/
def Device.idleScanExpired (s : Device) : Device :=
  if s.resting && s.due s.bus.idleScan then s.requestFrame else s

/-- A pull sensed on the resting bus (R116). -/
def Device.busPull (s : Device) : Device := if s.resting then s.requestFrame else s

end Sys2Proof.Machine
end

