-- ==== Sys2Proof/Machine/ShipLink.lean ====
section
/-! DEFINITION. The ship link controller's receiver (R138), ship status (R140, R141), link states (R144, R145) and its
expiries (R148). -/

namespace Sys2Proof.Machine

open Sys2Proof

/-- The permit effect of a line (R141). -/
def Device.permitEffect (s : Device) (l : Line) (p : Permit) : Device :=
  if (s.line l).state = .free then s
  else match p with
    | .go => s.clearHold l .shipNotReady
    | .reduce => s.clearHold l .shipNotReady
    | .notReady => s.holdTrigger l .shipNotReady
    | .stop => if (s.line l).state.running then s.stopTrigger l .shipStop false else s

/-- The SHIP_BACK report of a link that returns from SILENT or LOST (R144). -/
def Device.reportBack (s : Device) (left : LinkState) (last : Option Time) : Device :=
  if left = .silent ∨ left = .lost then
    s.submit .shipBack 0 0 (.link left) (match last with
      | none => 0
      | some t => s.time - t) 0
  else s

/-- The ship status stored and the expiries set; the link state becomes ACTIVE (R140 steps 1 to 3). -/
def Device.storeStatus (s : Device) (st : PerLine LineStatus) : Device :=
  let k := s.link
  let s := s.setLink { k with
    status := some st, lastStatus := some s.time, state := .active,
    silenceExpiry := some (s.secondsOn s.general.shipSilence), lossExpiry := some (s.secondsOn s.general.shipLoss) }
  s.reportBack k.state k.lastStatus

/-- A valid SHIP_STATUS taken (R140). The start tests of item 6 are made in ascending line order: DESIGN CHOICE, log 48. -/
def Device.takeStatus (s : Device) (st : PerLine LineStatus) : Device :=
  let left := s.link.state
  let s := (s.storeStatus st).placeReports
  let s := (s.forLines (fun l s => s.permitEffect l (st.get l).permit)).placeReports
  let s := (if left = .active then s else s.handToppingAll).placeReports
  let s := s.forLines (fun l s => s.startTest l)
  s.transmit

/-- A complete frame: taken when it is valid, discarded otherwise (R139, R140, R143). -/
def Device.takeFrame (s : Device) (frame : List Byte) : Device :=
  match decodeShipFrame frame with
  | none => s
  | some (.status st) => s.takeStatus st
  | some (.tank r) => s.evaluate r

/-- The receiver's partial frame stored; no record shows it (R137). -/
def Device.setPartial (s : Device) (p : Option PartialFrame) : Device :=
  { s with link := { s.link with partialFrame := p } }

/-- A frame has all the bytes that its kind's length gives (R138). -/
def frameComplete (bytes : List Byte) : Bool :=
  match bytes with
  | _ :: kind :: _ => decide (receivedLength kind = some bytes.length)
  | _ => false

/-- One byte arrives (R138). A frame whose lead byte arrived while DISCARDING, or a byte of which was passed over, is
discarded whole (log 24). -/
def Device.takeByte (s : Device) (b : Byte) : Device :=
  match s.link.partialFrame with
  | none => if b = leadByte then s.setPartial (some ⟨s.link.taking, [b]⟩) else s
  | some p =>
    let bytes := p.bytes ++ [b]
    if bytes.length = 2 ∧ receivedLength b = none then s.setPartial none
    else if frameComplete bytes then
      let s := s.setPartial none
      if p.taken = true ∧ s.link.taking = true then s.takeFrame bytes else s
    else s.setPartial (some { p with bytes := bytes })

/-- Bytes arrive in order (R138). -/
def Device.takeBytes (s : Device) : List Byte → Device
  | [] => s
  | b :: bs => (s.takeByte b).takeBytes bs

/-- More than 5 ms pass after a byte: an incomplete frame is discarded, and the receiver hunts again (R138). -/
def Device.byteGap (s : Device) : Device := s.setPartial none

/-- The silence expiry in ACTIVE (R144, R145). -/
def Device.shipSilence (s : Device) : Device :=
  let s := s.setLink { s.link with state := .silent, silenceExpiry := none }
  let s := s.submit .shipSilent 0 0 (.link .active) (s.link.lastStatus.getD 0) 0
  s.handToppingAll

/-- The loss expiry in SILENT (R144, R145). -/
def Device.shipLoss (s : Device) : Device :=
  let s := s.setLink { s.link with state := .lost, lossExpiry := none }
  let s := (s.submit .shipLost 0 0 (.link .silent) (s.link.lastStatus.getD 0) 0).placeReports
  let s := s.stopActive .shipLost
  s.handToppingAll

/-- The status expiry: status due, and the next expiry 1 s later (R148; log 23). -/
def Device.statusFallsDue (s : Device) (due : Time) : Device :=
  (s.setLink { s.link with statusDue := true, statusExpiry := some (due + BitVec.ofNat 32 Config.statusPeriod) }).transmit

/-- The last byte of the frame on the line leaves, and the transmitter chooses the next (R146). -/
def Device.frameLeft (s : Device) : Device :=
  if s.link.sending.isSome then (s.setLink { s.link with sending := none }).transmit else s

/-! ## The link and the device modes (R149) -/

/-- Entry to WATCH (R148, R149). -/
def Device.linkEntersWatch (s : Device) : Device :=
  s.setLink { s.link with
    state := .idle, taking := true, lastStatus := none, status := none, silenceExpiry := none, lossExpiry := none,
    statusExpiry := some s.time, statusDue := false, queue := [] }

/-- A partial frame of which bytes are passed over is no longer taken (log 24). -/
def dropTaking (p : Option PartialFrame) : Option PartialFrame :=
  match p with
  | none => none
  | some f => some { f with taken := false }

/-- Entry to LOADING (R149). -/
def Device.linkEntersLoading (s : Device) : Device :=
  s.setLink { s.link with
    taking := false, silenceExpiry := none, lossExpiry := none, statusExpiry := none, statusDue := false, queue := [],
    partialFrame := dropTaking s.link.partialFrame }

/-- Entry to PASSIVE after a failed load (R149). -/
def Device.linkEntersPassive (s : Device) : Device :=
  s.setLink { s.link with state := .idle, taking := false, lastStatus := none, status := none }

end Sys2Proof.Machine
end

