-- ==== Sys2Proof/Machine/Records.lean ====
section
/-! DEFINITION. What the device writes into the window: refresh units (R160, R186, R187, sections 12.5 and 12.6) and
report entries (section 12.7). -/

namespace Sys2Proof.Machine

open Sys2Proof

/-! ## Packing (R186) -/

/-- A field of a word: a value of a width at a bit position. -/
def field (position width value : Nat) : Nat := value % 2 ^ width * 2 ^ position

/-- A one-bit field. -/
def flag (position : Nat) (b : Bool) : Nat := field position 1 b.toNat

/-- The word of its fields; every bit that no field takes is 0 (R186). -/
def pack (fields : List Nat) : Word := BitVec.ofNat 32 (fields.foldl (· + ·) 0)

/-- A 16-bit quantity that may be absent: 0xFFFF (R186). -/
def short (v : Option Nat) : Nat := v.getD 65535

/-- A 32-bit time or quantity that may be absent: 0, with its presence bit elsewhere (R186). -/
def long (v : Option Time) : Word := v.getD 0

/-- A set of hold causes as its bits (section 12.6). -/
def holdBits (h : HoldSet) : List Nat :=
  [flag 0 h.stationHold, flag 1 h.noPath, flag 2 h.localValve, flag 3 h.staleReading, flag 4 h.shipNotReady]

/-- A set of topping causes as its bits (section 12.6). -/
def toppingBits (t : ToppingSet) : List Nat :=
  [flag 8 t.tankNear, flag 9 t.tankLead, flag 10 t.nominationNear, flag 11 t.tankSilent, flag 12 t.shipSilent]

/-! ## Status record (section 12.5) -/

/-- A maximum rate field: the rate, 0xFFFF for NONE, 0xFFFE while absent (section 12.5). -/
def maxRateField (st : Option (PerLine LineStatus)) (l : Line) : Nat :=
  match st with
  | none => 65534
  | some p => match (p.get l).maxRate with
    | .unlimited => 65535
    | .rate v => v

/-- A ship manifold pressure field: 0xFFFF while absent (section 12.5). -/
def shipPressureField (st : Option (PerLine LineStatus)) (l : Line) : Nat :=
  match st with
  | none => 65535
  | some p => short (p.get l).pressure

/-- The status record's sixteen words (section 12.5). -/
def Device.statusRecord (s : Device) : List Word :=
  let c := s.charter
  let u := s.shutdown
  let k := s.link
  [ pack [field 0 8 (modeCode c.mode), field 8 8 (busModeCode s.bus.mode), field 16 8 (loadResultCode c.result),
      flag 24 c.lock, flag 25 c.inForce.isSome],
    c.crc,
    c.detail,
    BitVec.ofNat 32 (windowBase s.strap),
    pack [flag 0 u.latch, flag 1 (decide (u.shipLoop = .healthy)), flag 2 (decide (u.bargeLoop = .healthy)),
      flag 3 u.hornSounding, flag 4 u.alarmPending, flag 5 u.tankAlarm, flag 6 u.valveAlarm,
      field 8 8 (causeCodeOr0 (u.first.map FirstCause.cause)), field 16 8 u.firstLine, field 24 8 u.firstSubject],
    long (u.first.map FirstCause.time),
    pack [field 0 8 (stepCode u.sequence.l1), field 8 8 (stepCode u.sequence.l2), field 16 8 (stepCode u.sequence.l3)],
    pack [field 0 8 (linkStateCode k.state), flag 8 k.taking, flag 9 k.sending.isSome, flag 10 k.statusDue,
      flag 11 k.lastStatus.isSome, field 16 8 k.queue.length],
    long k.lastStatus,
    pack [field 0 8 (permitCode (s.permit .l1)), field 8 8 (permitCode (s.permit .l2)),
      field 16 8 (permitCode (s.permit .l3))],
    pack [field 0 16 (maxRateField k.status .l1), field 16 16 (maxRateField k.status .l2)],
    pack [field 0 16 (maxRateField k.status .l3)],
    pack [field 0 16 (shipPressureField k.status .l1), field 16 16 (shipPressureField k.status .l2)],
    pack [field 0 16 (shipPressureField k.status .l3), field 16 16 s.reports.overrun],
    s.time,
    BitVec.ofNat 32 s.reports.producer ]

/-! ## Line record (section 12.6) -/

/-- Four bytes of the top-off order, from a place on; unused places are 0 (section 12.6). -/
def orderWord (order : List TankNo) (place : Nat) : Word :=
  let byte (k : Nat) : Nat := match order[place + k]? with
    | none => 0
    | some t => tankNumber t
  pack [field 0 8 (byte 0), field 8 8 (byte 1), field 16 8 (byte 2), field 24 8 (byte 3)]

/-- A line record's thirty-two words (section 12.6). -/
def Device.lineRecord (s : Device) (l : Line) : List Word :=
  let c := s.line l
  let g := s.governor l
  let h := s.hose l
  let t := s.topOff l
  [ pack [field 0 8 (lineNumber l), flag 8 c.fitted, flag 9 c.stripFlag, flag 10 g.rateLow, flag 11 c.holdStart.isSome,
      flag 12 c.deadline.isSome, flag 13 t.head.isSome, flag 14 h.pressure.isSome, flag 15 c.stopCause.isSome],
    pack [field 0 8 (lineStateCode c.state), field 8 8 (stepCode c.step), field 16 8 (causeCodeOr0 c.stopCause),
      field 24 8 (stripResultCode c.stripResult)],
    pack (holdBits c.hold ++ toppingBits c.topping),
    pack [field 0 16 g.requested, field 16 16 g.ceiling],
    pack [field 0 16 g.allowed, field 16 8 g.lastSpeed, field 24 8 t.openCount],
    c.nominated,
    c.base,
    g.delivered,
    orderWord t.order 0,
    orderWord t.order 4,
    BitVec.ofNat 32 (t.head.getD 0),
    long c.holdStart,
    c.entry,
    long c.deadline,
    pack [field 0 16 (short h.pressure), field 16 8 (bandCode h.band), field 24 4 h.primingCount,
      field 28 4 h.lowCount],
    long h.readingTime ] ++ List.replicate 15 0 ++ [s.time]

/-! ## Tank record (section 12.6, R187) -/

/-- The fill rate in 16 bits, two's complement, held to the field's range; 0xFFFF while absent (R186, R187). -/
def fillRateField : Option Int → Nat
  | none => 65535
  | some f => (if 32767 < f then 32767 else if f < -32768 then 32768 else f % 65536).toNat

/-- The time to high as shown: at most 65535, and 0xFFFF while absent (R186, R187). -/
def timeToHighField (h : Option Nat) : Nat := min 65535 (short h)

/-- A tank record's eight words; an absent tank shows UNKNOWN, LOST and 0 (section 12.6, R47, R187). -/
def Device.tankRecord (s : Device) (t : TankNo) : List Word :=
  match s.tank t with
  | none => [0, 0, 0, 0, pack [field 0 2 (tankFreshCode .lost)], 0, 0, 0]
  | some e =>
    [ pack [field 0 16 e.capacity, field 16 16 e.closeAllowance],
      pack [field 0 16 e.highMark, field 16 16 e.overfillMark],
      pack [field 0 16 (short e.volume), field 16 16 (short (e.reference.map Reference.volume))],
      pack [field 0 16 (fillRateField e.fillRate), field 16 8 e.grade, field 24 4 (lineNumberOr0 e.assigned),
        field 28 4 (tankStateCode e.state)],
      pack [field 0 2 (tankFreshCode e.freshness), field 2 2 (shipValveCode e.valve), field 4 2 (shipAlarmCode e.alarm),
        field 6 2 (adviceCode e.advice), flag 8 e.volume.isSome, flag 9 e.reference.isSome, flag 10 e.fillRate.isSome,
        flag 11 e.timeToHigh.isSome, flag 12 e.closeDeadline.isSome, flag 13 e.lastReport.isSome,
        field 16 16 (timeToHighField e.timeToHigh)],
      long (e.reference.map Reference.time),
      long e.closeDeadline,
      long e.lastReport ]

/-! ## Node record (section 12.6, R187) -/

/-- The low 16 bits of a time, 0 when it is absent (R187). -/
def shortTime (t : Option Time) : Nat := (t.getD 0).toNat % 65536

/-- The in-flight slot's fields (section 12.6). The error count and the target of an empty slot are 0: DESIGN CHOICE, log
51. -/
def inFlightFields : Option Transaction → List Nat
  | none => []
  | some t => [flag 0 true, field 1 1 (actKindCode t.act), field 2 2 (originCode t.origin),
      field 4 2 (phaseCode t.phase), field 6 2 t.errors, field 8 7 (actNumber t.act)]

/-- The queued slot's fields (section 12.6). The target of an empty slot is 0: DESIGN CHOICE, log 51. -/
def queuedFields : Option Claim → List Nat
  | none => []
  | some c => [flag 16 true, field 17 1 (actKindCode c.act), field 18 2 (originCode c.origin),
      field 20 7 (actNumber c.act)]

/-- A node record's four words (section 12.6, R187). -/
def Device.nodeRecord (s : Device) (n : NodeNo) : List Word :=
  let nd := s.node n
  let taken : Option Time := nd.inFlight.bind Transaction.taken
  let expiry : Option Time := nd.inFlight.bind Transaction.travelExpiry
  let entered : Option Time := nd.inFlight.map Transaction.inFlightTime
  [ pack [field 0 3 (nodeKindCode nd.kind), field 3 2 (lineNumberOr0 nd.line), field 5 2 (roleIndex nd.role),
      flag 7 nd.inLocal, flag 8 nd.fault, flag 9 nd.moving, flag 10 nd.stale, field 11 2 nd.misses,
      field 13 3 (valveStateCode nd.valve), field 16 16 nd.readingA],
    if nd.kind = .flow then nd.readingB else pack [field 0 16 nd.travelLimit, field 16 16 (shortTime taken)],
    pack (inFlightFields nd.inFlight ++ queuedFields nd.queued),
    if nd.kind = .flow then pack [field 0 16 nd.travelLimit]
    else pack [field 0 16 (shortTime entered), field 16 16 (shortTime expiry)] ]

/-! ## Demand words (R160, R171) -/

/-- The rate demand words: each line's requested rate, 0 for an unfitted line (R160). -/
def Device.rateWords (s : Device) : List Word :=
  allLines.map (fun l => if (s.line l).fitted then BitVec.ofNat 32 (s.governor l).requested else 0)

/-- The target in force of a line's valve as the demand words and DEMAND_REFUSED show it: 100 for OPEN, 0 for CLOSED and
for an unfitted line (R160, R170). -/
def Device.shownTarget (s : Device) (l : Line) (r : Role) : Word :=
  if (s.line l).fitted then
    match s.valveOf l r with
    | none => 0
    | some n => BitVec.ofNat 32 (targetNumber (s.targets.get n).target)
  else 0

/-- The valve demand words (R160, R171). -/
def Device.valveWords (s : Device) : List Word :=
  allLines.flatMap (fun l => allRoles.map (fun r => s.shownTarget l r))

/-! ## Refresh units (R160) -/

/-- The window offset of a refresh unit (R160). -/
def unitOffset : RefreshUnit → Nat
  | .rates => 0x1110
  | .valves => 0x1120
  | .status => 0x1200
  | .line l => 0x1400 + 0x80 * (lineNumber l - 1)
  | .tank t => 0x1600 + 0x20 * t.val
  | .node n => 0x1A00 + 0x10 * n.val

/-- The whole content of a refresh unit as it stands (R160). -/
def Device.unitWords (s : Device) : RefreshUnit → List Word
  | .rates => s.rateWords
  | .valves => s.valveWords
  | .status => s.statusRecord
  | .line l => s.lineRecord l
  | .tank t => s.tankRecord t
  | .node n => s.nodeRecord n

/-- Every refresh unit, in ascending window offset (R160). -/
def allUnits : List RefreshUnit :=
  [.rates, .valves, .status] ++ allLines.map RefreshUnit.line ++ allTanks.map RefreshUnit.tank
    ++ allNodes.map RefreshUnit.node

/-- A unit's changed mark (R160). -/
def Marks.get (m : Marks) : RefreshUnit → Bool
  | .rates => m.rates
  | .valves => m.valves
  | .status => m.status
  | .line l => m.lines.get l
  | .tank t => Vector.get m.tanks t
  | .node n => Vector.get m.nodes n

/-- A unit's changed mark cleared (R160). -/
def Marks.clearOne (m : Marks) : RefreshUnit → Marks
  | .rates => { m with rates := false }
  | .valves => { m with valves := false }
  | .status => { m with status := false }
  | .line l => { m with lines := m.lines.set l false }
  | .tank t => { m with tanks := putAt m.tanks t false }
  | .node n => { m with nodes := putAt m.nodes n false }

/-! ## Report entries (section 12.7) -/

/-- The eight words of a report entry (section 12.7). -/
def Report.words (r : Report) : List Word :=
  [ pack [field 0 8 (reportKindCode r.kind), field 8 8 r.line, field 16 8 r.subject, field 24 8 (reportCauseCode r.cause)],
    r.valueA, r.valueB, r.time, pack [field 0 8 (stripResultCode r.detail)], 0, 0, 0 ]

/-- The window offset of a ring slot (section 10.7). -/
def ringOffset (slot : Nat) : Nat := 0x2000 + 0x20 * slot

end Sys2Proof.Machine
end

