-- ==== Sys2Proof/Machine/Reports.lean ====
section
/-! DEFINITION. The report unit's decision on its next entry (R173), and what every event ends with: the bus mode taken
again and the frame start of its change (R114; log 13), that decision (log 12), and the reports in their places (log 29).
-/

namespace Sys2Proof.Machine

open Sys2Proof

/-- An entry job or producer index write of the report unit is pending, or its burst is in progress (R161, R173). -/
def Device.entryPending (s : Device) : Bool :=
  s.jobs.entry.isSome || s.jobs.producer || decide (s.port.burst = some (.entry false))

/-- A report given to the internal master as its entry job (R161). -/
def Device.giveEntry (s : Device) (r : Report) : Device := { s with jobs := { s.jobs with entry := some r } }

/-- The OVERRUN entry given, and the overrun count set to 0 (R173 decision 1). -/
def Device.giveOverrun (s : Device) : Device :=
  let r : Report := { kind := .overrun, line := 0, subject := 0, cause := .none,
                      valueA := BitVec.ofNat 32 s.reports.overrun, valueB := 0, time := s.time, detail := .none }
  ({ s.markStatus true with reports := { s.reports with overrun := 0 } }).giveEntry r

/-- The head report leaves the queue and is given (R173 decision 2). -/
def Device.giveHead (s : Device) (r : Report) (rest : List Report) : Device :=
  ({ s with reports := { s.reports with queue := rest } }).giveEntry r

/-- Every waiting report dropped and counted, one after another (R173 decision 3, repeated). -/
def Device.dropReports (s : Device) : Device :=
  let waiting := s.reports.queue.length
  ({ s with reports := { s.reports with queue := [] } }).countOverrun waiting

/-- The decision of R173. -/
def Device.decideReport (s : Device) : Device :=
  if s.reports.usable = false ∨ s.entryPending = true then s
  else if 0 < s.reports.overrun ∧ s.reports.full = false then s.giveOverrun
  else match s.reports.queue with
    | [] => s
    | r :: rest => if s.reports.full then s.dropReports else s.giveHead r rest

/-- What every event ends with. -/
def Device.finish (s : Device) : Device := s.takeBusMode.startDueFrame.decideReport.placeReports

end Sys2Proof.Machine
end

