-- ==== Sys2Proof/Machine/Charter.lean ====
section
/-! DEFINITION. The charter unit (spec/11): the running CRC (R179), the charter's fields (section 12.3) and their
judgement (R180, R181), the entry to LOADING, and the end of a load (R182, R183). -/

namespace Sys2Proof.Machine

open Sys2Proof

/-! ## The running CRC (R179) -/

/-- One move of the register toward its lower end (R179). -/
def crc32Bit (c : Word) : Word := if c.getLsbD 0 then (c >>> 1) ^^^ 0xEDB88320#32 else c >>> 1

/-- One byte combined into the register (R179). -/
def crc32Byte (c : Word) (b : Byte) : Word :=
  let c := c ^^^ b.zeroExtend 32
  crc32Bit (crc32Bit (crc32Bit (crc32Bit (crc32Bit (crc32Bit (crc32Bit (crc32Bit c)))))))

/-- Bytes in ascending offset (R179). -/
def crc32Bytes (c : Word) (bytes : List Byte) : Word := bytes.foldl crc32Byte c

/-- A word's four bytes in ascending offset (R179, R186). -/
def crc32Word (c : Word) (w : Word) : Word :=
  crc32Byte (crc32Byte (crc32Byte (crc32Byte c (wordByte w 0)) (wordByte w 1)) (wordByte w 2)) (wordByte w 3)

/-- Words in ascending offset (R179). -/
def crc32Words (c : Word) (ws : List Word) : Word := ws.foldl crc32Word c

/-! ## The charter's fields (section 12.3) -/

/-- The word at a charter offset. -/
def charterWord (ws : List Word) (off : Nat) : Word := ws.getD (off / 4) 0

/-- The word at a charter offset as a number. -/
def charterNat (ws : List Word) (off : Nat) : Nat := (charterWord ws off).toNat

/-- The general settings (section 12.3). -/
def generalOf (ws : List Word) : General :=
  { fittedLines := charterNat ws 0x00, fittedTanks := charterNat ws 0x04, governorPeriod := charterNat ws 0x08,
    shipSilence := charterNat ws 0x0C, shipLoss := charterNat ws 0x10, tankSilence := charterNat ws 0x14,
    tankLost := charterNat ws 0x18 }

/-- The base of a line's limits (section 12.3). -/
def limitsBase (l : Line) : Nat := 0x0200 + 0x60 * (lineNumber l - 1)

/-- A line's limits (section 12.3). -/
def limitsOf (ws : List Word) (l : Line) : Limits :=
  let f (off : Nat) : Nat := charterNat ws (limitsBase l + off)
  { peak := f 0x00, floor := f 0x04, start := f 0x08, topOff := f 0x0C, prime := f 0x10, lowThreshold := f 0x14,
    riseStep := f 0x18, cutFraction := f 0x1C, fallLimit := f 0x20, toppingVolume := f 0x24, toppingLead := f 0x28,
    low := f 0x2C, stripDone := f 0x30, primePressure := f 0x34, reduce := f 0x38, stop := f 0x3C, trip := f 0x40,
    primeLimit := f 0x44, lineupLimit := f 0x48, pumpStop := f 0x4C, stripLimit := f 0x50, holdLimit := f 0x54 }

/-- The offset of a node entry (section 12.3). -/
def nodeEntryOffset (n : NodeNo) : Nat := 0x0040 + 8 * n.val

/-- A node entry's kind, line and role codes and its travel limit (section 12.3). -/
structure NodeEntry where
  kind : Nat
  line : Nat
  role : Nat
  travel : Nat
  deriving DecidableEq, Repr

/-- The node entry of an address (section 12.3). -/
def nodeEntryOf (ws : List Word) (n : NodeNo) : NodeEntry :=
  let w := charterWord ws (nodeEntryOffset n)
  { kind := (wordByte w 0).toNat, line := (wordByte w 1).toNat, role := (wordByte w 2).toNat,
    travel := charterNat ws (nodeEntryOffset n + 4) }

/-- The base of a tank's settings (section 12.3). -/
def tankBase (t : TankNo) : Nat := 0x0400 + 0x10 * t.val

/-- A tank's grade (section 12.3). -/
def tankGrade (ws : List Word) (t : TankNo) : Nat := (wordByte (charterWord ws (tankBase t + 0x0C)) 0).toNat

/-- A tank's close allowance (section 12.3). -/
def tankAllowance (ws : List Word) (t : TankNo) : Nat := charterNat ws (tankBase t + 0x0C) / 65536

/-- The kind of a node kind code (section 12.10). -/
def nodeKindOfCode : Nat → Option NodeKind
  | 0 => some .none
  | 1 => some .valve
  | 2 => some .pump
  | 3 => some .pressure
  | 4 => some .flow
  | _ => none

/-- The role of a role code (section 12.10). -/
def roleOfCode : Nat → Option Role
  | 0 => some .discharge
  | 1 => some .manifold
  | 2 => some .returnValve
  | 3 => some .strip
  | _ => none

/-! ## Field ranges (R180) -/

/-- A number lies in a range, both ends included. -/
def inRange (v low high : Nat) : Bool := decide (low ≤ v) && decide (v ≤ high)

/-- One judged word: its offset, and whether it keeps every condition charged to it. -/
abbrev FieldCheck := Nat × Bool

/-- The general settings' conditions (R180). -/
def generalChecks (g : General) : List FieldCheck :=
  [(0x00, inRange g.fittedLines 1 3), (0x04, inRange g.fittedTanks 1 24), (0x08, inRange g.governorPeriod 10 100),
   (0x0C, inRange g.shipSilence 2 20), (0x10, inRange g.shipLoss 10 120 && decide (g.shipSilence < g.shipLoss)),
   (0x14, inRange g.tankSilence 5 60), (0x18, inRange g.tankLost 10 300 && decide (g.tankSilence < g.tankLost))]

/-- A node entry's conditions: for kind NONE only the kind is judged (R180). -/
def nodeChecks (off : Nat) (e : NodeEntry) : List FieldCheck :=
  match nodeKindOfCode e.kind with
  | none => [(off, false)]
  | some .none => [(off, true)]
  | some k =>
    [(off, inRange e.line 1 3 && (decide (k ≠ .valve) || decide (e.role ≤ 3))), (off + 4, inRange e.travel 5 300)]

/-- A line's limits' conditions; a condition on two fields is charged to the higher offset (R180). -/
def limitsChecks (b : Nat) (m : Limits) : List FieldCheck :=
  [(b + 0x00, inRange m.peak 50 2000), (b + 0x04, decide (m.floor ≤ m.peak)),
   (b + 0x08, decide (m.start ≤ m.peak) && decide (m.floor ≤ m.start)),
   (b + 0x0C, decide (m.topOff ≤ m.peak) && decide (m.floor ≤ m.topOff)), (b + 0x10, inRange m.prime 10 m.peak),
   (b + 0x14, decide (m.lowThreshold ≤ m.peak)), (b + 0x18, inRange m.riseStep 1 32),
   (b + 0x1C, inRange m.cutFraction 1 8), (b + 0x20, inRange m.fallLimit 1 32),
   (b + 0x24, decide (m.toppingVolume ≤ 65535)), (b + 0x28, decide (m.toppingLead ≤ 3600)),
   (b + 0x30, decide (m.low < m.stripDone)),
   (b + 0x34, decide (m.low < m.primePressure) && decide (m.stripDone < m.primePressure)),
   (b + 0x38, decide (m.primePressure ≤ m.reduce)), (b + 0x3C, decide (m.reduce < m.stop)),
   (b + 0x40, decide (m.reduce < m.trip) && decide (m.stop < m.trip) && decide (m.trip ≤ 2500)),
   (b + 0x44, inRange m.primeLimit 10 600), (b + 0x48, inRange m.lineupLimit 30 900),
   (b + 0x4C, inRange m.pumpStop 5 300), (b + 0x50, inRange m.stripLimit 30 1800), (b + 0x54, inRange m.holdLimit 30 3600)]

/-- A tank's settings' conditions (R180). -/
def tankChecks (ws : List Word) (t : TankNo) : List FieldCheck :=
  let b := tankBase t
  let high := charterNat ws (b + 0x04)
  [(b + 0x00, inRange (charterNat ws b) 10 65535), (b + 0x04, inRange high 500 990),
   (b + 0x08, inRange (charterNat ws (b + 0x08)) (high + 5) 1000),
   (b + 0x0C, inRange (tankGrade ws t) 1 15 && inRange (tankAllowance ws t) 10 300)]

/-- Every judged word in ascending offset (R180). -/
def fieldChecks (ws : List Word) : List FieldCheck :=
  let g := generalOf ws
  generalChecks g
    ++ allNodes.flatMap (fun n => nodeChecks (nodeEntryOffset n) (nodeEntryOf ws n))
    ++ (allLines.filter (fun l => decide (lineNumber l ≤ g.fittedLines))).flatMap
        (fun l => limitsChecks (limitsBase l) (limitsOf ws l))
    ++ (allTanks.filter (fun t => decide (tankNumber t ≤ g.fittedTanks))).flatMap (fun t => tankChecks ws t)

/-- The lowest offset whose word breaks a condition (R180). -/
def firstBadOffset (ws : List Word) : Option Nat := ((fieldChecks ws).find? (fun c => !c.2)).map Prod.fst

/-! ## The node set (R181) -/

/-- The number of node entries that name a line and satisfy a condition. -/
def entryCount (ws : List Word) (l : Line) (p : NodeEntry → Bool) : Nat :=
  (allNodes.filter (fun n =>
    let e := nodeEntryOf ws n
    decide (e.kind ≠ 0 ∧ e.line = lineNumber l) && p e)).length

/-- A line's node entries are those R181 asks for. -/
def nodeSetHolds (ws : List Word) (l : Line) : Bool :=
  if lineNumber l ≤ (generalOf ws).fittedLines then
    decide (entryCount ws l (fun e => decide (e.kind = 2)) = 1)
      && decide (entryCount ws l (fun e => decide (e.kind = 3)) = 1)
      && decide (entryCount ws l (fun e => decide (e.kind = 4)) = 1)
      && allRoles.all (fun r => decide (entryCount ws l (fun e => decide (e.kind = 1 ∧ e.role = roleIndex r)) = 1))
  else decide (entryCount ws l (fun _ => true) = 0)

/-- The first line that does not pass (R181). -/
def firstBadLine (ws : List Word) : Option Line := allLines.find? (fun l => !nodeSetHolds ws l)

/-! ## The judgement of a load (R180, R181) -/

/-- How the judgement of a working copy ends. -/
inductive Judged
  | good
  | bad (result : LoadResult) (detail : Word)
  deriving DecidableEq, Repr

/-- The CRC word read at 0x0FFC. -/
def crcWord (ws : List Word) : Word := charterWord ws 0x0FFC

/-- The judgement after the 32nd read job (R180, R181). -/
def judgeCharter (running : Word) (ws : List Word) : Judged :=
  if ~~~running ≠ crcWord ws then .bad .crcMismatch (~~~running)
  else match firstBadOffset ws with
    | some off => .bad .fieldRange (BitVec.ofNat 32 off)
    | none => match firstBadLine ws with
      | some l => .bad .nodeSet (BitVec.ofNat 32 (lineNumber l))
      | none => .good

/-! ## Entry to LOADING (R179) -/

/-- A present tank's expiries made absent at the entry to LOADING (R48). -/
def Tank.quiet (e : Tank) : Tank := { e with silenceExpiry := none, lostExpiry := none }

/-- The 32 charter read jobs (R162). -/
def charterReads : List ReadJob := (List.range Config.charterJobs).map ReadJob.charter

/-- The entry to LOADING (R48, R85, R117, R149, R175, R179). -/
def Device.enterLoading (s : Device) : Device :=
  let s := s.setCharter { s.charter with mode := .loading, progress := 0, runningCrc := 0xFFFFFFFF#32, working := [] }
  let s := { s with jobs := { s.jobs with reads := s.jobs.reads ++ charterReads } }
  let s := s.setBusMode .off
  let s := { s with bus := { s.bus with idleScan := none, startHeld := false, startDue := false } }
  let s := s.linkEntersLoading
  let s := { s with tanks := s.tanks.map (Option.map Tank.quiet) }
  s.driveBargeLoop.setInterrupt

/-! ## The rebuilds of a good load (R182) -/

/-- A line's part in a good load (R2, R30, R44, R73). -/
def Device.refitLine (s : Device) (l : Line) : Device :=
  let fits := decide (lineNumber l ≤ s.general.fittedLines)
  let s := s.setLine l { s.line l with fitted := fits }
  let s := s.setGovernor l { s.governor l with
    requested := if fits then (s.limits l).peak else 0, reclaim := false, rateLow := false }
  s.setHose l .reset

/-- A present tank's entry from the charter (R48). -/
def freshTank (ws : List Word) (t : TankNo) : Tank :=
  { capacity := charterNat ws (tankBase t), highMark := charterNat ws (tankBase t + 0x04),
    overfillMark := charterNat ws (tankBase t + 0x08), grade := tankGrade ws t, closeAllowance := tankAllowance ws t,
    assigned := none, state := .unknown, freshness := .silent, volume := none, valve := .unknown, alarm := .none,
    reference := none, fillRate := none, timeToHigh := none, advice := .none, closeDeadline := none, lastReport := none,
    silenceExpiry := none, lostExpiry := none }

/-- The tank table rebuilt (R48). -/
def rebuiltTanks (ws : List Word) : Vector (Option Tank) 24 :=
  Vector.ofFn (fun t => if tankNumber t ≤ (generalOf ws).fittedTanks then some (freshTank ws t) else none)

/-- A node record from the charter (R103); a node of kind NONE keeps no settings. -/
def freshNode (e : NodeEntry) : Node :=
  match nodeKindOfCode e.kind with
  | none => .blank
  | some .none => { Node.blank with stale := true, misses := Config.missLimit }
  | some k =>
    { kind := k, line := lineOfNumber e.line,
      role := if k = .valve then (roleOfCode e.role).getD .discharge else .discharge,
      travelLimit := e.travel, readingA := 0, readingB := 0, inLocal := false, fault := false, moving := false,
      stale := true, misses := Config.missLimit, valve := if k = .valve then .moving else .closed, inFlight := none,
      queued := none }

/-- The node table rebuilt, every target in force CLOSED until the valve's first state (R103, R119). -/
def Device.rebuildNodes (s : Device) (ws : List Word) : Device :=
  { s with nodes := Vector.ofFn (fun n => freshNode (nodeEntryOf ws n)),
           targets := Vector.replicate 31 ⟨.closed, true⟩,
           bus := { s.bus with slot := none, tail := .none } }

/-- The number of enrolled nodes (R182). -/
def Device.enrolledCount (s : Device) : Nat := (allNodes.filter (fun n => (s.node n).enrolled)).length

/-- The lost expiry of a present tank at the entry to WATCH (R48). -/
def Device.startLost (s : Device) : Device :=
  let due := s.secondsOn s.general.tankLost
  { s with tanks := s.tanks.map (Option.map (fun x => { x with lostExpiry := some due })) }

/-- Both alarm indications CLEAR (R85, R103). -/
def Device.clearIndications (s : Device) : Device :=
  s.setShutdown { s.shutdown with tankAlarm := false, valveAlarm := false }

/-- The good load's new charter unit items (R182). -/
def CharterUnit.loaded (c : CharterUnit) : CharterUnit :=
  { c with
    mode := .watch, crc := crcWord c.working, result := .ok, detail := 0, working := [],
    inForce := some { general := generalOf c.working,
                      lines := ⟨limitsOf c.working .l1, limitsOf c.working .l2, limitsOf c.working .l3⟩ } }

/-- The end of a good load, but for the request unit's part (R182). -/
def Device.goodLoad (s : Device) : Device :=
  let ws := s.charter.working
  let s := s.setCharter s.charter.loaded
  let s := s.forLines (fun l s => s.refitLine l)
  let s := { s with tanks := rebuiltTanks ws }
  let s := s.forLines (fun l s => s.setTopOff l .empty)
  let s := s.rebuildNodes ws
  let s := { s with reports := { s.reports with usable := true }, jobs := { s.jobs with consumer := true } }
  let s := s.submit .loaded 0 0 .none s.charter.crc (BitVec.ofNat 32 s.enrolledCount)
  let s := s.clearIndications.driveBargeLoop.judgeAlarm
  let s := s.linkEntersWatch.startLost
  let s := (s.setBusMode s.wantedBusMode).startFrame
  s.markAll.setInterrupt

/-! ## The end of a failed load (R183) -/

/-- The failed load's new charter unit items (R183). -/
def CharterUnit.failed (c : CharterUnit) (result : LoadResult) (detail : Word) : CharterUnit :=
  { c with mode := .passive, inForce := none, crc := 0, result := result, detail := detail, working := [] }

/-- A line's part in a failed load (R2, R73). -/
def Device.unfitLine (s : Device) (l : Line) : Device :=
  (s.setLine l { s.line l with fitted := false }).setHose l .reset

/-- The node table emptied (R103, R119). -/
def Device.emptyNodes (s : Device) : Device :=
  let s := allNodes.foldl (fun s n => (s.setNode n .blank).setTarget n ⟨.closed, false⟩) s
  { s with bus := { s.bus with slot := none, tail := .none } }

/-- The end of a failed load, but for the request unit's part (R183). -/
def Device.failedLoad (s : Device) (result : LoadResult) (detail : Word) : Device :=
  let word := crcWord s.charter.working
  let s := s.setCharter (s.charter.failed result detail)
  let s := s.forLines (fun l s => s.unfitLine l)
  let s := { s with tanks := Vector.replicate 24 none }
  let s := s.forLines (fun l s => s.setTopOff l .empty)
  let s := s.emptyNodes.clearIndications
  let s := s.submit .loadFailed 0 0 (.load result) detail word
  let s := s.setShutdown { s.shutdown with hornSounding := false }
  let s := s.driveBargeLoop.judgeAlarm
  let s := (s.linkEntersPassive).setBusMode .off
  (s.markStatus true).setInterrupt

/-- The words of a charter read job stored and run through the running CRC, but for the CRC word (R179). -/
def Device.storeCharter (s : Device) (index : Nat) (ws : List Word) : Device :=
  let covered := if index + 1 < Config.charterJobs then ws else ws.take 31
  s.setCharter { s.charter with working := s.charter.working ++ ws, progress := s.charter.progress + 32,
                                runningCrc := crc32Words s.charter.runningCrc covered }

end Sys2Proof.Machine
end

