-- ==== Sys2Proof/Machine/Requests.lean ====
section
/-! DEFINITION. The request unit (spec/10): the taking of the request in hand (R165, R166, R168, R169), OPEN's judgement
at the end of its plan read (R167), and the end of a load at the request unit (R182, R183). -/

namespace Sys2Proof.Machine

open Sys2Proof

/-- The result of the request in hand decided: its result write is asked (R165). -/
def Device.askResult (s : Device) (r : Result) : Device :=
  { s with jobs := { s.jobs with result := some r }, requests := { s.requests with phase := .resultWrite } }

/-- The line's OPEN is being handled (R153, R167). -/
def Device.openHandled (s : Device) (l : Line) : Bool :=
  match s.requests.queue with
  | [] => false
  | q :: _ => decide (s.requests.phase = .planRead) && decide (q.asked = some (.openLine l))

/-- OPEN taken in WATCH: the plan read is asked (R162, R167). -/
def Device.askPlan (s : Device) (l : Line) : Device :=
  { s with jobs := { s.jobs with reads := s.jobs.reads ++ [.plan l false] },
           requests := { s.requests with phase := .planRead } }

/-- HOLD in WATCH (R168). -/
def Device.takeHold (s : Device) (l : Line) : Device :=
  let st := (s.line l).state
  if st.holdable = true ∨ st = .held then (s.holdTrigger l .stationHold).askResult .done else s.askResult .wrongState

/-- RESUME in WATCH (R168). -/
def Device.takeResume (s : Device) (l : Line) : Device :=
  if (s.line l).state = .held ∧ (s.line l).hold.stationHold = true then
    (s.clearHold l .stationHold).askResult .done
  else s.askResult .wrongState

/-- STOP in WATCH (R19, R168). -/
def Device.takeStop (s : Device) (l : Line) (strip : Bool) : Device :=
  let c := s.line l
  if c.state.active then (s.stopTrigger l .stationStop strip).askResult .done
  else if c.state = .stopping then
    (if strip then s.setLine l { c with stripFlag := true } else s).askResult .done
  else s.askResult .wrongState

/-- LOAD_CHARTER taken: LOADING, and the request stays in hand (R169, R179). -/
def Device.startLoad (s : Device) : Device :=
  let s := s.enterLoading
  { s with requests := { s.requests with phase := .load } }

/-- LOAD_CHARTER in WATCH (R169). -/
def Device.takeLoad (s : Device) : Device :=
  if s.allFree = false then s.askResult .linesActive
  else if s.allNodesIdle = false then s.askResult .nodesBusy
  else s.startLoad

/-- LOCK_LIMITS in WATCH (R184). -/
def Device.takeLock (s : Device) : Device := (s.setCharter { s.charter with lock := true }).askResult .done

/-- TRIP in WATCH (R96). -/
def Device.takeTrip (s : Device) : Device := (s.esdTrigger .stationTrip 0 0 0).askResult .done

/-- TRIP_RESET in WATCH (R97, R98). -/
def Device.takeTripReset (s : Device) : Device :=
  if s.shutdown.latch = false then s.askResult .wrongState
  else if s.shutdown.shipLoop = .broken then s.askResult .loopBroken
  else if allLines.any (fun l => decide ((s.line l).state = .tripping)) then s.askResult .linesActive
  else s.clearLatch.askResult .done

/-- SILENCE in WATCH (R101). -/
def Device.takeSilence (s : Device) : Device :=
  (s.setShutdown { s.shutdown with hornSounding := false }).askResult .done

/-- A request taken in WATCH (R167 to R169). -/
def Device.takeInWatch (s : Device) : Asked → Device
  | .openLine l => s.askPlan l
  | .hold l => s.takeHold l
  | .resume l => s.takeResume l
  | .stop l strip => s.takeStop l strip
  | .loadCharter => s.takeLoad
  | .lockLimits => s.takeLock
  | .trip => s.takeTrip
  | .tripReset => s.takeTripReset
  | .silence => s.takeSilence

/-- A request taken in PASSIVE (R166, R169). -/
def Device.takeInPassive (s : Device) : Asked → Device
  | .loadCharter => s.startLoad
  | _ => s.askResult .notLoaded

/-- The request in hand taken, unless it has been or the mode is LOADING (R165, R166). -/
def Device.takeHead (s : Device) : Device :=
  match s.requests.queue with
  | [] => s
  | q :: _ =>
    if s.requests.phase ≠ .untaken then s
    else match s.charter.mode with
      | .loading => s
      | .passive => match q.asked with
        | none => s.askResult .unknownKind
        | some a => s.takeInPassive a
      | .watch => match q.asked with
        | none => s.askResult .unknownKind
        | some a => s.takeInWatch a

/-- The request in hand leaves the queue at its result write, and the next is taken (R165). -/
def Device.nextRequest (s : Device) : Device :=
  ({ s with requests := { queue := s.requests.queue.tail, phase := .untaken } }).takeHead

/-! ## OPEN's conditions (R167) -/

/-- Every listed tank is present with the plan's grade. -/
def Device.tanksMatch (s : Device) (p : Plan) : Bool :=
  p.listed.all (fun k => match tankOfNumber k with
    | none => false
    | some t => s.tankHas t (fun e => decide (e.grade = p.grade)))

/-- The plan is valid (R167 condition 6). -/
def Device.planValid (s : Device) (p : Plan) : Bool :=
  decide (1 ≤ p.nominated.toNat) && inRange p.count 1 8 && decide p.listed.Nodup && s.tanksMatch p

/-- A listed tank is assigned to another line (R167 condition 7). -/
def Device.tankInUse (s : Device) (l : Line) (p : Plan) : Bool :=
  p.tanks.any (fun t => s.tankHas t (fun e => decide (e.assigned ≠ none ∧ e.assigned ≠ some l)))

/-- The first condition that fails gives the refusal; none when every condition holds (R167). -/
def Device.openRefusal (s : Device) (l : Line) (p : Plan) : Option Result :=
  if (s.line l).fitted = false then some .notFitted
  else if (s.line l).state ≠ .free then some .wrongState
  else if s.shutdown.latch = true then some .esdLatched
  else if s.shutdown.shipLoop = .broken then some .shipEsd
  else if s.link.state ≠ .active then some .shipLink
  else if s.planValid p = false then some .planInvalid
  else if s.tankInUse l p = true then some .tankInUse
  else if s.lineNodesIdle l = false then some .valvesBusy
  else if s.freshDevice l .flow = false then some .readingStale
  else none

/-- The end of OPEN's plan read (R167). -/
def Device.judgeOpen (s : Device) (l : Line) (p : Plan) : Device :=
  match s.openRefusal l p with
  | some r => s.askResult r
  | none => (s.takeOpen l p).askResult .done

/-! ## The end of a load at the request unit (R165, R182, R183) -/

/-- The result of a load result (R169). -/
def resultOfLoad : LoadResult → Result
  | .none => .done
  | .ok => .done
  | .crcMismatch => .crcMismatch
  | .fieldRange => .fieldRange
  | .nodeSet => .nodeSet

/-- The load's result write asked while its LOAD_CHARTER is in hand; otherwise write jobs may be granted from now on and
the oldest request that has arrived is taken (R163, R165, R166, R185). -/
def Device.endLoad (s : Device) (r : LoadResult) : Device :=
  if s.requests.phase = .load then s.askResult (resultOfLoad r)
  else ({ s with port := { s.port with writesOpen := true } }).takeHead

/-- The judgement of the working copy and the end of the load (R180 to R183). -/
def Device.judgeLoad (s : Device) : Device :=
  match judgeCharter s.charter.runningCrc s.charter.working with
  | .good => s.goodLoad.endLoad .ok
  | .bad r detail => (s.failedLoad r detail).endLoad r

/-- The completion of a charter read job (R179, R180). -/
def Device.charterRead (s : Device) (index : Nat) (ws : List Word) : Device :=
  let s := s.storeCharter index ws
  if index + 1 < Config.charterJobs then s else s.judgeLoad

end Sys2Proof.Machine
end

