-- ==== Sys2Proof/Machine/Port.lean ====
section
/-! DEFINITION. The memory port (spec/09): the treatment of an upstream access (R152 to R155), the request, demand and
consumer index writes it judges (R43, R164, R170, R174), the arbiter (R157) and the internal master's jobs (R158 to R163).
Only these operations reach memory. -/

namespace Sys2Proof.Machine

open Sys2Proof

/-! ## Judged writes (R150, R152 to R156) -/

/-- What becomes of an upstream write: the device after the judging block has taken it, the treatment, and the data a
rewrite carries. -/
structure Judgement where
  device : Device
  treatment : Treatment
  data : Word
  deriving DecidableEq, Repr

/-- Passed with the same data. -/
def Judgement.passed (s : Device) : Judgement := ⟨s, .pass, 0⟩

/-- Suppressed. -/
def Judgement.suppressed (s : Device) : Judgement := ⟨s, .suppress, 0⟩

/-- Rewritten with other data. -/
def Judgement.rewritten (s : Device) (data : Word) : Judgement := ⟨s, .rewrite, data⟩

/-- A BAD_WRITE report (R155, R174). -/
def Device.badWrite (s : Device) (off b : Nat) : Device :=
  s.submit .badWrite 0 0 .none (BitVec.ofNat 32 off) (BitVec.ofNat 32 b)

/-- A full write to a request word: queued with PENDING and taken when it is in hand, or QUEUE_FULL (R164, R165). -/
def Device.requestWrite (s : Device) (w : RequestWord) (data : Word) : Judgement :=
  let kind := wordByte data 0
  let argument := wordByte data 1
  if s.requests.queue.length < Config.requestQueueSize then
    let q : Request := { word := w, kind := kind, argument := argument, time := s.time }
    let s := { s with requests := { s.requests with queue := s.requests.queue ++ [q] } }
    .rewritten s.takeHead (requestWordOf kind argument .pending)
  else .rewritten s (requestWordOf kind argument .queueFull)

/-- A full write to a rate demand word in WATCH (R43). -/
def Device.rateWrite (s : Device) (l : Line) (data : Word) : Judgement :=
  if (s.line l).fitted then
    .rewritten (s.takeRateDemand l data) (BitVec.ofNat 32 ((s.limits l).clampRate data))
  else .suppressed (s.submit .demandRefused (lineNumber l) 0 (.refusal .notFitted) data 0)

/-- The first condition of R170 that fails. -/
def Device.valveRefusal (s : Device) (l : Line) (data : Word) : Option Result :=
  if (s.line l).fitted = false then some .notFitted
  else if (s.line l).state ≠ .free then some .wrongState
  else if data ≠ 0 ∧ data ≠ 100 then some .badValue
  else if s.shutdown.latch = true ∧ data ≠ 0 then some .esdLatched
  else none

/-- The subject of a refused valve demand: the valve's node, 0 for an unfitted line (R170). -/
def Device.valveSubject (s : Device) (l : Line) (r : Role) : Nat :=
  if (s.line l).fitted then
    match s.valveOf l r with
    | none => 0
    | some n => nodeAddress n
  else 0

/-- An accepted valve demand: a STATION MOVE claim, and the demand words marked when the value passed differs from the
target then in force (R170, R171). -/
def Device.acceptValve (s : Device) (l : Line) (r : Role) (data : Word) : Device :=
  let s := s.claimValve l r (if data = 0 then .closed else .opened) .station
  s.markValves (decide (data ≠ s.shownTarget l r))

/-- A full write to a valve demand word in WATCH (R170). -/
def Device.valveWrite (s : Device) (l : Line) (r : Role) (data : Word) : Judgement :=
  match s.valveRefusal l data with
  | none => .passed (s.acceptValve l r data)
  | some cause =>
    .suppressed (s.submit .demandRefused (lineNumber l) (s.valveSubject l r) (.refusal cause) data (s.shownTarget l r))

/-- A full write to the consumer index in WATCH (R174, R175). An acceptable write takes the interrupt line by R175 whatever
its value. Between a station reset and the status record refresh memory still shows another producer index, and a write of
the present index 0 can then raise the line: DEDUCED, unsafe, log 18. -/
def Device.consumerWrite (s : Device) (data : Word) : Judgement :=
  if s.reports.acceptable data.toNat then
    .passed ({ s with reports := { s.reports with consumer := data.toNat } }).setInterrupt
  else .suppressed (s.badWrite consumerOffset 4)

/-- A partial write is suppressed and reported; a full one is judged (R155). -/
def Device.judgeFull (s : Device) (off : Nat) (enables : BitVec 4) (full : Judgement) : Judgement :=
  if enables = 15#4 then full else .suppressed (s.badWrite off (activeEnables enables))

/-- A write judged in WATCH by its area (R153, R155). -/
def Device.judgeInWatch (s : Device) (off : Nat) (a : Access) : Area → Judgement
  | .charter => if s.charter.lock then .suppressed s else .passed s
  | .plan l => if (s.line l).state ≠ .free ∨ s.openHandled l = true then .suppressed s else .passed s
  | .request w => s.judgeFull off a.enables (s.requestWrite w a.data)
  | .rateDemand l => s.judgeFull off a.enables (s.rateWrite l a.data)
  | .valveDemand l r => s.judgeFull off a.enables (s.valveWrite l r a.data)
  | .consumer => s.judgeFull off a.enables (s.consumerWrite a.data)
  | .kept => .suppressed s
  | .unused => .passed s

/-- A write judged in PASSIVE or LOADING by its area (R154, R155). -/
def Device.judgeQuiet (s : Device) (off : Nat) (a : Access) : Area → Judgement
  | .charter => if s.charter.lock then .suppressed s else .passed s
  | .request w => s.judgeFull off a.enables (s.requestWrite w a.data)
  | _ => .passed s

/-- A write judged at its grant (R152 to R155): passed outside the window. -/
def Device.judgeWrite (s : Device) (a : Access) : Judgement :=
  match windowOffset s.strap (wordAddress a.addr) with
  | none => .passed s
  | some off => match s.charter.mode with
    | .watch => s.judgeInWatch off a (areaOf off)
    | .passive => s.judgeQuiet off a (areaOf off)
    | .loading => s.judgeQuiet off a (areaOf off)

/-- What a treatment does to memory (R152, R155). -/
def treatMemory (m : Memory) (a : Access) (j : Judgement) : Memory :=
  match j.treatment with
  | .pass => m.writeEnabled (wordAddress a.addr) a.enables a.data
  | .rewrite => m.writeWord (wordAddress a.addr) j.data
  | .suppress => m

/-! ## The internal master's job list (R159) -/

/-- A job of the internal master (R159). -/
inductive Job
  | producer
  | result (r : Result)
  | consumer
  | entry (r : Report)
  | refresh (u : RefreshUnit)
  | read (j : ReadJob)
  deriving DecidableEq, Repr

/-- The first marked unit in ascending offset (R160). -/
def Device.firstMarked (s : Device) : Option RefreshUnit := allUnits.find? (fun u => s.marks.get u)

/-- The first job of the list, in the order of R159. -/
def Device.firstJob (s : Device) : Option Job :=
  if s.jobs.producer then some .producer
  else match s.jobs.result with
    | some r => some (.result r)
    | none =>
      if s.jobs.consumer then some .consumer
      else match s.jobs.entry with
        | some r => some (.entry r)
        | none => match s.firstMarked with
          | some u => some (.refresh u)
          | none => s.jobs.reads.head?.map Job.read

/-- The first job while only the first result write and reads are taken (R185). -/
def Device.firstJobClosed (s : Device) : Option Job :=
  match s.jobs.result with
  | some r => some (.result r)
  | none => s.jobs.reads.head?.map Job.read

/-- The internal master's next job (R159, R185). -/
def Device.nextJob (s : Device) : Option Job := if s.port.writesOpen then s.firstJob else s.firstJobClosed

/-- The internal master waits at the arbiter (R157; log 10). -/
def Device.internalWaits (s : Device) : Bool := s.nextJob.isSome

/-! ## The arbiter (R157) -/

/-- The arbiter's choice for a station access that waits: no burst holds the port, and the internal master does not go
first (R157, R158). -/
def Device.stationFirst (s : Device) : Bool :=
  s.port.burst.isNone && !(s.internalWaits && decide (s.port.waitCount = Config.waitBound))

/-- A station access raised now is granted at once: it is the arbiter's choice, and no other access waits (R157). -/
def Device.upstreamFree (s : Device) : Bool := s.stationFirst && s.port.waiting.isEmpty

/-- The wait count after an upstream grant (R157). -/
def Device.countGrant (s : Device) : Device :=
  if s.internalWaits then { s with port := { s.port with waitCount := s.port.waitCount + 1 } } else s

/-- What the upstream port shows at ready (R152; log 28). -/
def Device.reply (s : Device) (t : Treatment) (data : Word) : Device :=
  { s with port := { s.port with reply := some ⟨t, data⟩ } }

/-- A granted upstream read: passed (R152). The byte enables of a read do not matter, and the whole word comes back:
DESIGN CHOICE, log 47. -/
def State.grantRead (s : State) (a : Access) : State :=
  { s with device := (s.device.countGrant).reply .pass (s.mem.readWord (wordAddress a.addr)) }

/-- A granted upstream write: judged at the grant, and treated (R150, R152). -/
def State.grantWrite (s : State) (a : Access) : State :=
  let j := s.device.countGrant.judgeWrite a
  { s with device := j.device.reply j.treatment 0, mem := treatMemory s.mem a j }

/-- A granted upstream access (R150). -/
def State.grantAccess (s : State) (a : Access) : State := if a.write then s.grantWrite a else s.grantRead a

/-! ## Internal grants (R157 to R163) -/

/-- The byte address of a window offset (R151). -/
def Device.address (s : Device) (off : Nat) : Nat := windowBase s.strap + off

/-- The grant of the producer index write (R161, R175). -/
def State.grantProducer (s : State) : State :=
  let d := s.device
  { s with
    mem := s.mem.writeWord (d.address producerOffset) (BitVec.ofNat 32 d.reports.producer)
    device := ({ d with jobs := { d.jobs with producer := false },
                        reports := { d.reports with producerInMemory := d.reports.producer } }).setInterrupt }

/-- The word and the request word that a result write carries (R165). -/
def Device.resultWord (s : Device) (r : Result) : Option (Nat × Word) :=
  s.requests.queue.head?.map (fun q => (requestOffset q.word, requestWordOf q.kind q.argument r))

/-- The grant of a result write: the request leaves the queue, and the next is taken (R165, R185). -/
def State.grantResult (s : State) (r : Result) : State :=
  let d := s.device
  { s with
    mem := match d.resultWord r with
      | none => s.mem
      | some (off, w) => s.mem.writeWord (d.address off) w
    device := ({ d with jobs := { d.jobs with result := none },
                        port := { d.port with writesOpen := true } }).nextRequest }

/-- The grant of the consumer index write (R163, R173). -/
def State.grantConsumer (s : State) : State :=
  let d := s.device
  { s with
    mem := s.mem.writeWord (d.address consumerOffset) (BitVec.ofNat 32 d.reports.consumer)
    device := { d with jobs := { d.jobs with consumer := false } } }

/-- The grant of a report entry: its burst runs until REPORT_ENTRY_DONE (R158, R161; log 21). -/
def State.grantEntry (s : State) (r : Report) : State :=
  let d := s.device
  { s with
    mem := s.mem.writeWords (d.address (ringOffset d.reports.producer)) r.words
    device := { d with jobs := { d.jobs with entry := none }, port := { d.port with burst := some (.entry false) } } }

/-- A status record refresh puts the producer index into memory (R161, R175; log 18). -/
def Device.refreshed (s : Device) : RefreshUnit → Device
  | .status => ({ s with reports := { s.reports with producerInMemory := s.reports.producer } }).setInterrupt
  | _ => s

/-- The grant of a refresh: the mark cleared and the unit's whole content written (R160; log 8). -/
def State.grantRefresh (s : State) (u : RefreshUnit) : State :=
  let d := s.device
  { s with
    mem := s.mem.writeWords (d.address (unitOffset u)) (d.unitWords u)
    device := ({ d with marks := d.marks.clearOne u }).refreshed u }

/-- The grant of a read: its burst runs until its end is commanded (R158, R162). -/
def State.grantReadJob (s : State) (j : ReadJob) : State :=
  let d := s.device
  { s with device := { d with jobs := { d.jobs with reads := d.jobs.reads.tail },
                              port := { d.port with burst := some (.read j) } } }

/-- A job granted; the wait count returns to 0 (R157). -/
def State.grantJob (s : State) (j : Job) : State :=
  let s := { s with device := { s.device with port := { s.device.port with waitCount := 0 } } }
  match j with
  | .producer => s.grantProducer
  | .result r => s.grantResult r
  | .consumer => s.grantConsumer
  | .entry r => s.grantEntry r
  | .refresh u => s.grantRefresh u
  | .read r => s.grantReadJob r

/-- A job that can be granted now: the port is free, and no station access that waits goes first (R157, R158). -/
def Device.grantable (s : Device) : Option Job :=
  if s.port.burst.isNone = true ∧ (s.port.waiting.isEmpty = true ∨ s.stationFirst = false) then s.nextJob else none

/-- The burst that holds the port ended. -/
def Device.endBurst (s : Device) : Device := { s with port := { s.port with burst := none } }

/-- The end of a report entry's burst: the producer index advances and its write is asked (R161, R173). -/
def Device.entryDone (s : Device) : Device :=
  { s.endBurst with
    reports := { s.reports with producer := (s.reports.producer + 1) % Config.ringSlots },
    jobs := { s.jobs with producer := true } }

/-- The words of a charter read job (R162). -/
def State.charterWords (s : State) (index : Nat) : List Word := s.mem.readWords (s.device.address (0x80 * index)) 32

/-- A line's plan as its read job reads it (R162). -/
def State.planRead (s : State) (l : Line) : Plan := planOf (s.mem.readWords (s.device.address (planOffset l)) 16)

/-! ## Station reset at the station's blocks (R163, R165, R176) -/

/-- A plan read whose OPEN is dropped is discarded at its end (R165). -/
def ReadJob.discard : ReadJob → ReadJob
  | .plan l _ => .plan l true
  | .charter i => .charter i

/-- A burst across a station reset completes (R163; log 11). -/
def Burst.acrossReset : Burst → Burst
  | .entry _ => .entry true
  | .read j => .read j.discard

/-- A LOAD_CHARTER is in hand whose load has ended, its result write not granted (R165, R169). -/
def RequestUnit.loadEnded (r : RequestUnit) : Bool :=
  match r.queue with
  | [] => false
  | q :: _ => decide (r.phase = .resultWrite ∧ q.asked = some .loadCharter)

/-- The request queue emptied and the port's jobs of it removed; a LOAD_CHARTER dropped after the end of its load lets
write jobs be granted (R163, R165, R185); the restarting processor withdraws the accesses that wait (R163). -/
def Device.resetRequests (s : Device) : Device :=
  { s with requests := { queue := [], phase := .untaken },
           jobs := { s.jobs with result := none, reads := s.jobs.reads.map ReadJob.discard },
           port := { s.port with
             burst := s.port.burst.map Burst.acrossReset, waiting := [],
             writesOpen := s.port.writesOpen || s.requests.loadEnded } }

/-- The report unit at a station reset (R163, R173, R176). -/
def Device.resetReports (s : Device) : Device :=
  { s.markStatus true with
    reports := { s.reports with queue := [], placed := 0, overrun := 0, producer := 0, consumer := 0, usable := true,
                                interrupt := false },
    jobs := { s.jobs with entry := none, producer := false, consumer := true } }

/-- A station reset (R185): requests, reports, then the stops of R27, whose reports enter the emptied queue. -/
def Device.stationReset (s : Device) : Device := (s.resetRequests.resetReports).stopActive .stationReset

end Sys2Proof.Machine
end

