-- ==== Sys2Proof/Machine/Events.lean ====
section
/-! DEFINITION. The shapes that the commands' meanings share: an event taken, an event taken only when it can happen, the
arbiter's choices, an upstream access, the end of an internal burst, and a grant of the internal master. -/

namespace Sys2Proof.Machine

open Sys2Proof

/-- What a command answers. -/
abbrev Outcome := Host.Outcome State Fault Refusal

/-- An event's state once the bus mode and the report unit's decision are taken (logs 12 and 13). -/
def State.settle (s : State) : State := { s with device := s.device.finish }

/-- An event at the device. -/
def State.event (s : State) (f : Device → Device) : Outcome := .next ({ s with device := f s.device }).settle

/-- An event at the device that happens only on a condition; otherwise nothing changes (log 3). -/
def State.eventIf (s : State) (c : Bool) (f : Device → Device) : Outcome := if c then s.event f else .next s

/-- The accesses that wait. -/
def State.withWaiting (s : State) (accesses : List Access) : State :=
  { s with device := { s.device with port := { s.device.port with waiting := accesses } } }

/-- The accesses that wait granted in turn, each one event, while the choice falls to the station (R157; log 9). -/
def State.serve : List Access → State → State
  | [], s => s
  | a :: rest, s => if s.device.stationFirst then State.serve rest ((s.withWaiting rest).grantAccess a).settle else s

/-- The arbiter's choices for the accesses that wait, made when an access is raised and when the port becomes free
(R157). -/
def State.arbitrate (s : State) : State := State.serve s.device.port.waiting s

/-- An upstream access raised: it waits behind those raised before it, and the arbiter chooses (R152, R157; log 9). -/
def State.access (s : State) (a : Access) : Outcome :=
  .next (s.withWaiting (s.device.port.waiting ++ [a])).arbitrate

/-- The end of an internal burst: an event at the device, after which the arbiter chooses (R157, R158). -/
def State.portEvent (s : State) (f : Device → Device) : Outcome :=
  .next ({ s with device := f s.device } : State).settle.arbitrate

/-- The station's full write of a request word (R164; log 7). -/
def State.request (s : State) (w : RequestWord) (k : RequestKind) (argument : Byte) : Outcome :=
  s.access (fullWrite s.device.strap (requestOffset w) (requestWritten k argument))

/-- A job granted, or nothing changes (log 9); after a job that ends at its grant the arbiter chooses (R157; log 8). -/
def State.grant (s : State) (j : Option Job) : Outcome :=
  match j with
  | none => .next s
  | some x => .next (s.grantJob x).settle.arbitrate

end Sys2Proof.Machine
end

