-- ==== Sys2Proof/Machine/BusEvents.lean ====
section
/-! DEFINITION. The commands of the deck bus. -/

namespace Sys2Proof.Machine

open Sys2Proof

/-- FRAME_START (R115). -/
def execFrameStart (s : State) : Outcome := s.event Device.frameStart

/-- IDLE_SCAN_EXPIRY (R116). -/
def execIdleScanExpiry (s : State) : Outcome := s.event Device.idleScanExpired

/-- BUS_PULL (R116). -/
def execBusPull (s : State) : Outcome := s.event Device.busPull

/-- SLOT_RESULT (R107 to R113, R126 to R131). -/
def execSlotResult (seen : SlotSeen) (s : State) : Outcome := s.event (fun d => d.slotResult seen)

/-- TRAVEL_EXPIRY (R129). -/
def execTravelExpiry (n : NodeNo) (s : State) : Outcome := s.event (fun d => d.travelExpired n)

end Sys2Proof.Machine
end

