-- ==== Sys2Proof/Machine/Expiries.lean ====
section
/-! DEFINITION. The expiries of tanks and lines. Each has its effect when its time has fallen due and the state that it
limits still stands; otherwise nothing changes (R29; log 3). -/

namespace Sys2Proof.Machine

open Sys2Proof

/-- TANK_SILENCE_EXPIRY (R55). -/
def execTankSilenceExpiry (t : TankNo) (s : State) : Outcome :=
  match s.device.tank t with
  | none => .next s
  | some e => s.eventIf (s.device.due e.silenceExpiry) (fun d => d.tankSilent t e)

/-- TANK_LOST_EXPIRY (R55, R56). -/
def execTankLostExpiry (t : TankNo) (s : State) : Outcome :=
  match s.device.tank t with
  | none => .next s
  | some e => s.eventIf (s.device.due e.lostExpiry) (fun d => d.tankLost t e)

/-- CLOSE_DEADLINE_EXPIRY (R59). -/
def execCloseDeadlineExpiry (t : TankNo) (s : State) : Outcome :=
  match s.device.tank t with
  | none => .next s
  | some e => s.eventIf (s.device.due e.closeDeadline) (fun d => d.closeOverdue t e)

/-- GOVERNOR_STEP (R31, R35, R36, R38). -/
def execGovernorStep (l : Line) (s : State) : Outcome :=
  match (s.device.governor l).expiry with
  | none => .next s
  | some due => s.eventIf (s.device.reached due) (fun d => d.governorStep l due)

/-- The line stands in a state at a step, and its step deadline has fallen due. -/
def Device.expires (s : Device) (l : Line) (st : LineState) (step : Step) : Bool :=
  decide ((s.line l).state = st ∧ (s.line l).step = step) && s.deadlineDue l

/-- LINEUP_LIMIT_EXPIRY (R7): it runs through all three steps of LINEUP. -/
def execLineupLimitExpiry (l : Line) (s : State) : Outcome :=
  s.eventIf (decide ((s.device.line l).state = .lineup) && s.device.deadlineDue l) (fun d => d.lineupExpired l)

/-- PRIME_LIMIT_EXPIRY (R10). -/
def execPrimeLimitExpiry (l : Line) (s : State) : Outcome :=
  s.eventIf (s.device.expires l .priming .prime) (fun d => d.stopTrigger l .primeFailed false)

/-- HOLD_LIMIT_EXPIRY (R16). -/
def execHoldLimitExpiry (l : Line) (s : State) : Outcome :=
  s.eventIf (s.device.expires l .held .hold) (fun d => d.stopTrigger l .holdTooLong false)

/-- PUMP_STOP_EXPIRY (R22). -/
def execPumpStopExpiry (l : Line) (s : State) : Outcome :=
  s.eventIf (s.device.expires l .stopping .pumpStopping) (fun d => d.leaveStopping l)

/-- STRIP_LIMIT_EXPIRY (R23). -/
def execStripLimitExpiry (l : Line) (s : State) : Outcome :=
  s.eventIf (s.device.expires l .stripping .strip) (fun d => d.stripExpired l)

/-- ESD_PUMP_DEADLINE_EXPIRY (R92). -/
def execEsdPumpDeadlineExpiry (l : Line) (s : State) : Outcome :=
  s.eventIf (decide (s.device.shutdown.sequence.get l = .esdPumpStop) && s.device.due (s.device.shutdown.pumpDeadline.get l))
    (fun d => d.esdManifold l)

end Sys2Proof.Machine
end

