-- ==== Sys2Proof/Machine/LinkEvents.lean ====
section
/-! DEFINITION. The commands of the ship link. The bytes of a command arrive one after another without a gap. -/

namespace Sys2Proof.Machine

open Sys2Proof

/-- SHIP_STATUS: the bytes of a SHIP_STATUS frame arrive (R138 to R142). -/
def execShipStatus (bytes : List Byte) (s : State) : Outcome := s.event (fun d => d.takeBytes bytes)

/-- TANK_REPORT: the bytes of a TANK_REPORT frame arrive (R138, R139, R143). -/
def execTankReport (bytes : List Byte) (s : State) : Outcome := s.event (fun d => d.takeBytes bytes)

/-- FRAME_DISCARDED: the bytes of a frame that is not valid arrive (R138, R139). -/
def execFrameDiscarded (bytes : List Byte) (s : State) : Outcome := s.event (fun d => d.takeBytes bytes)

/-- FRAME_INCOMPLETE: the first bytes of a frame arrive, and then more than 5 ms pass (R138). -/
def execFrameIncomplete (bytes : List Byte) (s : State) : Outcome := s.event (fun d => (d.takeBytes bytes).byteGap)

/-- SHIP_SILENT: the silence expiry in ACTIVE (R144, R145). -/
def execShipSilent (s : State) : Outcome :=
  s.eventIf (decide (s.device.link.state = .active) && s.device.due s.device.link.silenceExpiry) Device.shipSilence

/-- SHIP_LOST: the loss expiry in SILENT (R144, R145). -/
def execShipLost (s : State) : Outcome :=
  s.eventIf (decide (s.device.link.state = .silent) && s.device.due s.device.link.lossExpiry) Device.shipLoss

/-- STATUS_EXPIRY (R148). -/
def execStatusExpiry (s : State) : Outcome :=
  match s.device.link.statusExpiry with
  | none => .next s
  | some d => s.eventIf (s.device.reached d) (fun x => x.statusFallsDue d)

/-- FRAME_SENT (R146). -/
def execFrameSent (s : State) : Outcome := s.event Device.frameLeft

end Sys2Proof.Machine
end

