-- ==== Sys2Proof/Machine/PortJobs.lean ====
section
/-! DEFINITION. The commands of the internal master: its grants, and the ends of its bursts. -/

namespace Sys2Proof.Machine

open Sys2Proof

/-- INTERNAL_JOB_GRANT: the first pending job of the list (R157, R159). -/
def execInternalJobGrant (s : State) : Outcome := s.grant s.device.grantable

/-- The job is a result write. -/
def Job.isResult : Job → Bool
  | .result _ => true
  | _ => false

/-- The job is a producer index write. -/
def Job.isProducer : Job → Bool
  | .producer => true
  | _ => false

/-- RESULT_WRITE: the grant of a result write, when it is the first job (R159, R165). -/
def execResultWrite (s : State) : Outcome := s.grant (s.device.grantable.filter Job.isResult)

/-- PRODUCER_INDEX_WRITE: the grant of the producer index write, when it is the first job (R159, R161, R175). -/
def execProducerIndexWrite (s : State) : Outcome := s.grant (s.device.grantable.filter Job.isProducer)

/-- PLAN_READ_DONE: the end of a line plan read; OPEN is judged, unless a station reset has dropped it (R165, R167). -/
def execPlanReadDone (s : State) : Outcome :=
  match s.device.port.burst with
  | some (.read (.plan l false)) => s.portEvent (fun d => d.endBurst.judgeOpen l (s.planRead l))
  | some (.read (.plan _ true)) => s.portEvent Device.endBurst
  | _ => .next s

/-- CHARTER_READ_DONE: the end of a charter read job; after the 32nd the load is judged (R179 to R183). -/
def execCharterReadDone (s : State) : Outcome :=
  match s.device.port.burst with
  | some (.read (.charter i)) => s.portEvent (fun d => d.endBurst.charterRead i (s.charterWords i))
  | _ => .next s

/-- REPORT_ENTRY_DONE: the end of a report entry's burst; across a station reset it advances nothing (R161, R163; log
11). -/
def execReportEntryDone (s : State) : Outcome :=
  match s.device.port.burst with
  | some (.entry false) => s.portEvent Device.entryDone
  | some (.entry true) => s.portEvent Device.endBurst
  | _ => .next s

end Sys2Proof.Machine
end

