-- ==== Sys2Proof/Machine/Resets.lean ====
section
/-! DEFINITION. The commands of the reset inputs and of the ship shutdown loop. -/

namespace Sys2Proof.Machine

open Sys2Proof

/-- POWER_ON_RESET (R185, R151): every block restarts with the straps sampled, and the accesses that wait at the port are
dropped (log 50); memory and the commands that wait are outside the device (logs 22 and 31). -/
def execPowerOnReset (straps : BitVec 8) (s : State) : Outcome := .next { s with device := .reset straps }

/-- STATION_RESET (R185, R27, R163, R165, R176). -/
def execStationReset (s : State) : Outcome := s.event Device.stationReset

/-- SHIP_LOOP_CHANGE (R86). -/
def execShipLoopChange (condition : Loop) (s : State) : Outcome := s.event (fun d => d.takeShipLoop condition)

end Sys2Proof.Machine
end

