-- ==== Sys2Proof/Machine/StationWrites.lean ====
section
/-! DEFINITION. The commands of the station: upstream accesses, and the writes of request words, demand words and the
consumer index, each the grant of the station's full write of that word (log 7). -/

namespace Sys2Proof.Machine

open Sys2Proof

/-- UPSTREAM_GRANT (R150 to R157). -/
def execUpstreamGrant (a : Access) (s : State) : Outcome := s.access a

/-- OPEN (R164 to R167). -/
def execOpenLine (l : Line) (argument : Byte) (s : State) : Outcome := s.request (.line l) .openLine argument

/-- HOLD (R164, R168). -/
def execHold (l : Line) (argument : Byte) (s : State) : Outcome := s.request (.line l) .hold argument

/-- RESUME (R164, R168). -/
def execResume (l : Line) (argument : Byte) (s : State) : Outcome := s.request (.line l) .resume argument

/-- STOP (R164, R168); bit 0 of the argument asks for stripping (R186). -/
def execStop (l : Line) (argument : Byte) (s : State) : Outcome := s.request (.line l) .stop argument

/-- LOAD_CHARTER (R164, R169, R179). -/
def execLoadCharter (argument : Byte) (s : State) : Outcome := s.request .general .loadCharter argument

/-- LOCK_LIMITS (R164, R184). -/
def execLockLimits (argument : Byte) (s : State) : Outcome := s.request .general .lockLimits argument

/-- TRIP (R164, R96). -/
def execTrip (argument : Byte) (s : State) : Outcome := s.request .general .trip argument

/-- TRIP_RESET (R164, R97, R98). -/
def execTripReset (argument : Byte) (s : State) : Outcome := s.request .general .tripReset argument

/-- SILENCE (R164, R101). -/
def execSilence (argument : Byte) (s : State) : Outcome := s.request .general .silence argument

/-- RATE_DEMAND_WRITE (R43, R44). -/
def execRateDemandWrite (l : Line) (value : Word) (s : State) : Outcome :=
  s.access (fullWrite s.device.strap (rateOffset l) value)

/-- VALVE_DEMAND_WRITE (R170, R171). -/
def execValveDemandWrite (l : Line) (r : Role) (value : Word) (s : State) : Outcome :=
  s.access (fullWrite s.device.strap (valveOffset l r) value)

/-- CONSUMER_INDEX_WRITE (R174). -/
def execConsumerIndexWrite (value : Word) (s : State) : Outcome :=
  s.access (fullWrite s.device.strap consumerOffset value)

end Sys2Proof.Machine
end

