-- ==== Sys2Proof/Machine/Dispatch.lean ====
section
/-! DEFINITION. The meaning of every command: one arm per constructor. -/

namespace Sys2Proof.Machine

open Sys2Proof

def exec (i : Instr) (s : State) : Host.Outcome State Fault Refusal :=
  match i with
  | .powerOnReset straps => Sys2Proof.Machine.execPowerOnReset straps s
  | .stationReset => Sys2Proof.Machine.execStationReset s
  | .shipLoopChange condition => Sys2Proof.Machine.execShipLoopChange condition s
  | .upstreamGrant access => Sys2Proof.Machine.execUpstreamGrant access s
  | .openLine line argument => Sys2Proof.Machine.execOpenLine line argument s
  | .hold line argument => Sys2Proof.Machine.execHold line argument s
  | .resume line argument => Sys2Proof.Machine.execResume line argument s
  | .stop line argument => Sys2Proof.Machine.execStop line argument s
  | .loadCharter argument => Sys2Proof.Machine.execLoadCharter argument s
  | .lockLimits argument => Sys2Proof.Machine.execLockLimits argument s
  | .trip argument => Sys2Proof.Machine.execTrip argument s
  | .tripReset argument => Sys2Proof.Machine.execTripReset argument s
  | .silence argument => Sys2Proof.Machine.execSilence argument s
  | .rateDemandWrite line value => Sys2Proof.Machine.execRateDemandWrite line value s
  | .valveDemandWrite line role value => Sys2Proof.Machine.execValveDemandWrite line role value s
  | .consumerIndexWrite value => Sys2Proof.Machine.execConsumerIndexWrite value s
  | .internalJobGrant => Sys2Proof.Machine.execInternalJobGrant s
  | .resultWrite => Sys2Proof.Machine.execResultWrite s
  | .planReadDone => Sys2Proof.Machine.execPlanReadDone s
  | .charterReadDone => Sys2Proof.Machine.execCharterReadDone s
  | .reportEntryDone => Sys2Proof.Machine.execReportEntryDone s
  | .producerIndexWrite => Sys2Proof.Machine.execProducerIndexWrite s
  | .frameStart => Sys2Proof.Machine.execFrameStart s
  | .idleScanExpiry => Sys2Proof.Machine.execIdleScanExpiry s
  | .busPull => Sys2Proof.Machine.execBusPull s
  | .slotResult seen => Sys2Proof.Machine.execSlotResult seen s
  | .travelExpiry node => Sys2Proof.Machine.execTravelExpiry node s
  | .shipStatus bytes => Sys2Proof.Machine.execShipStatus bytes s
  | .tankReport bytes => Sys2Proof.Machine.execTankReport bytes s
  | .frameDiscarded bytes => Sys2Proof.Machine.execFrameDiscarded bytes s
  | .frameIncomplete bytes => Sys2Proof.Machine.execFrameIncomplete bytes s
  | .shipSilent => Sys2Proof.Machine.execShipSilent s
  | .shipLost => Sys2Proof.Machine.execShipLost s
  | .statusExpiry => Sys2Proof.Machine.execStatusExpiry s
  | .frameSent => Sys2Proof.Machine.execFrameSent s
  | .tankSilenceExpiry tank => Sys2Proof.Machine.execTankSilenceExpiry tank s
  | .tankLostExpiry tank => Sys2Proof.Machine.execTankLostExpiry tank s
  | .closeDeadlineExpiry tank => Sys2Proof.Machine.execCloseDeadlineExpiry tank s
  | .governorStep line => Sys2Proof.Machine.execGovernorStep line s
  | .lineupLimitExpiry line => Sys2Proof.Machine.execLineupLimitExpiry line s
  | .primeLimitExpiry line => Sys2Proof.Machine.execPrimeLimitExpiry line s
  | .holdLimitExpiry line => Sys2Proof.Machine.execHoldLimitExpiry line s
  | .pumpStopExpiry line => Sys2Proof.Machine.execPumpStopExpiry line s
  | .stripLimitExpiry line => Sys2Proof.Machine.execStripLimitExpiry line s
  | .esdPumpDeadlineExpiry line => Sys2Proof.Machine.execEsdPumpDeadlineExpiry line s

end Sys2Proof.Machine
end

