-- ==== Sys2Proof/Machine/Step.lean ====
section
/-! DEFINITION. One step of the machine: the command at the front of the queue, or the passing of 50 ms on an empty
queue (log 2). -/

namespace Sys2Proof.Machine

open Sys2Proof

/-- One step: the command at the front runs on the state with the rest of the queue; on an empty queue 50 ms of the time
base pass (R178; DESIGN CHOICE, log 2). -/
def step (s : State) : Host.Outcome State Fault Refusal :=
  match s.pending with
  | [] => .next { s with device := s.device.tick }
  | c :: rest => exec c { s with pending := rest }

/-- The command that a word spells put at the front of the queue; the table's rows have no words. -/
def State.withFetchWord (s : State) (nbits w : Nat) : State :=
  match decodeTableWord nbits w with
  | none => s
  | some c => { s with pending := c :: s.pending }

end Sys2Proof.Machine
end

