-- ==== Sys2Proof/WellFormed.lean ====
section
/-! DEFINITION. The well-formed commands: the operands whose width does not already give every value they may take.
A command that is not well-formed still runs; these are the commands as the manual's rows name them. -/

namespace Sys2Proof

/-- The bytes of a complete received frame: the lead byte, a known kind and the length of that kind (R138). -/
def completeFrame (bytes : List Byte) : Bool :=
  match bytes with
  | lead :: kind :: _ =>
    decide (lead = Machine.leadByte) && decide (Machine.receivedLength kind = some bytes.length)
  | _ => false

/-- A valid SHIP_STATUS frame (R139, R140). -/
def isStatusFrame (bytes : List Byte) : Bool :=
  completeFrame bytes && match Machine.decodeShipFrame bytes with
    | some (.status _) => true
    | _ => false

/-- A valid TANK_REPORT frame (R139, R143). -/
def isTankFrame (bytes : List Byte) : Bool :=
  completeFrame bytes && match Machine.decodeShipFrame bytes with
    | some (.tank _) => true
    | _ => false

/-- A frame that is discarded: a complete frame that is not valid, or a lead byte and a kind that is not received (R138,
R139). -/
def isDiscardedFrame (bytes : List Byte) : Bool :=
  (completeFrame bytes && (Machine.decodeShipFrame bytes).isNone) ||
    match bytes with
    | [lead, kind] => decide (lead = Machine.leadByte) && (Machine.receivedLength kind).isNone
    | _ => false

/-- The first bytes of a frame, not all of them (R138). -/
def isPartialFrame (bytes : List Byte) : Bool :=
  match bytes with
  | [] => false
  | [lead] => decide (lead = Machine.leadByte)
  | lead :: kind :: _ =>
    decide (lead = Machine.leadByte) && match Machine.receivedLength kind with
      | none => false
      | some n => decide (bytes.length < n)

/-- The command is one that the manual's rows name: an access addresses a word by its low two address bits 0 (R150), and
the bytes of a ship link command are those of its frame. -/
def Instr.wellFormed : Instr → Bool
  | .upstreamGrant a => decide (a.addr.toNat % 4 = 0)
  | .shipStatus bytes => isStatusFrame bytes
  | .tankReport bytes => isTankFrame bytes
  | .frameDiscarded bytes => isDiscardedFrame bytes
  | .frameIncomplete bytes => isPartialFrame bytes
  | _ => true

end Sys2Proof
end

