-- ==== Sys2Proof/Safety.lean ====
section
/-! DEFINITION. What the statements speak of: what a store changes, what an event leaves unchanged, the conditions under
which a command has its effect, and the invariants of the machine. -/

namespace Sys2Proof.Machine

open Sys2Proof

/-! ## Stores -/

/-- The words stand at an address, and every byte outside them reads as before. -/
def storesOnly (before after : Memory) (address : Nat) (words : List Word) : Prop :=
  after.readWords address words.length = words ∧
  ∀ b, b < address ∨ address + 4 * words.length ≤ b → after.read b = before.read b

/-! ## Frames -/

/-- A node record but for its valve state and its two transaction slots. -/
def Node.still (nd : Node) : Node := { nd with valve := .closed, inFlight := none, queued := none }

/-- Every node's record but for valve state and slots. -/
def Device.stills (s : Device) : NodeNo → Node := fun n => (s.node n).still

/-- Every node's valve state. -/
def Device.valves (s : Device) : NodeNo → ValveState := fun n => (s.node n).valve

/-- A tank's entry but for what an assignment, advice and a release set. -/
def Tank.still (e : Tank) : Tank :=
  { e with assigned := none, state := .unknown, advice := .none, closeDeadline := none }

/-- Every tank's entry but for what an assignment, advice and a release set. -/
def Device.tankStills (s : Device) : TankNo → Option Tank := fun k => (s.tank k).map Tank.still

/-- The node whose slot is in progress. -/
def Device.slotNode (s : Device) : Option NodeNo := s.bus.slot.map Slot.node

/-- The time base and the straps are unchanged. -/
def Device.SameClock (s t : Device) : Prop := t.time = s.time ∧ t.half = s.half ∧ t.strap = s.strap

/-- The report ring's indices, the interrupt and whether the ring is usable are unchanged. -/
def Device.SameRing (s t : Device) : Prop :=
  t.reports.usable = s.reports.usable ∧ t.reports.producer = s.reports.producer ∧
  t.reports.consumer = s.reports.consumer ∧ t.reports.producerInMemory = s.reports.producerInMemory ∧
  t.reports.interrupt = s.reports.interrupt ∧ t.jobs.producer = s.jobs.producer ∧ t.jobs.consumer = s.jobs.consumer

/-- The station's side is unchanged: clock, ring, port, request queue, result and read jobs. -/
def Device.SameStation (s t : Device) : Prop :=
  s.SameClock t ∧ s.SameRing t ∧ t.port = s.port ∧ t.requests = s.requests ∧ t.jobs.result = s.jobs.result ∧
  t.jobs.reads = s.jobs.reads

/-- The context, governor, hose and tank watch items of every line but one are unchanged. -/
def Device.SameOtherLines (l : Line) (s t : Device) : Prop :=
  ∀ m, m ≠ l → t.line m = s.line m ∧ t.governor m = s.governor m ∧ t.hose m = s.hose m ∧ t.topOff m = s.topOff m

/-- Every line's items are unchanged. -/
def Device.SameLines (s t : Device) : Prop :=
  t.lines = s.lines ∧ t.memory = s.memory ∧ t.governors = s.governors ∧ t.hoses = s.hoses ∧ t.topOffs = s.topOffs

/-- The plant is unchanged: lines, tanks, shutdown unit, nodes and their targets, and the ship link. -/
def Device.SamePlant (s t : Device) : Prop :=
  s.SameLines t ∧ t.tanks = s.tanks ∧ t.shutdown = s.shutdown ∧ t.nodes = s.nodes ∧ t.targets = s.targets ∧
  t.link = s.link

/-! ## Conditions -/

/-- The report unit can take a report and keep it: the ring is usable and not full, the queue has room, and no report
was lost. -/
def Device.reportsFlow (s : Device) : Prop :=
  s.reports.usable = true ∧ s.reports.queue = [] ∧ s.reports.overrun = 0 ∧ s.reports.full = false

/-- A report waits: in the queue, or given to the internal master as its entry. -/
def Device.reportWaits (s : Device) (r : Report) : Prop := r ∈ s.reports.queue ∨ s.jobs.entry = some r

/-- A station write of a request word is granted now, and its request taken at once. -/
def State.takesRequest (s : State) : Prop :=
  s.mem.wf = true ∧ s.device.upstreamFree = true ∧ s.device.requests.queue = [] ∧ s.device.requests.phase = .untaken

/-- A request was granted and queued, its word rewritten with PENDING (R164). -/
def State.requestStored (s t : State) (w : RequestWord) (k : RequestKind) (argument : Byte) : Prop :=
  storesOnly s.mem t.mem (s.device.address (requestOffset w)) [requestWordOf (kindCode k) argument .pending] ∧
  t.device.port.reply = some ⟨.rewrite, 0⟩ ∧
  t.device.requests.queue = [⟨w, kindCode k, argument, s.device.time⟩]

/-- The request in hand has its result decided, and the result write is asked (R165). -/
def Device.answered (s : Device) (r : Result) : Prop :=
  s.requests.phase = .resultWrite ∧ s.jobs.result = some r

/-! ## Claims -/

/-- The transaction that a claim puts in flight (R120). -/
def Claim.started (c : Claim) (now : Time) : Transaction := ⟨c.act, c.origin, .send, 0, now, none, none⟩

/-- An ESD claim waits in a queued slot. -/
def esdWaits (q : Option Claim) : Bool := q.any (fun c => decide (c.origin = .esd))

/-- The two slots of a node after a claim that meets a transaction in flight: a MOVE is merged, queued or dropped (R121), an
ESD MOVE adopts, abandons, merges or queues (R123); a SPEED supersedes, queues or is dropped (R122), and an ESD SPEED
supersedes or is merged (R124). -/
def slotsAfter (c : Claim) (now : Time) (x : Transaction) (q : Option Claim) : Transaction × Option Claim :=
  match c.act with
  | .move _ =>
    if c.origin = .esd then
      if x.origin = .esd then (x, if x.act = c.act then none else some c)
      else (if x.act = c.act then { x with origin := .esd } else c.started now, none)
    else (x, if esdWaits q = true then q else if x.act = c.act then none else some c)
  | .speed _ =>
    if c.origin = .esd then (if x.origin = .esd then x else c.started now, none)
    else if x.origin = .esd then (x, if esdWaits q = true then q else some c)
    else if x.phase = .travel then (c.started now, none)
    else (x, some c)

/-- A node took a claim: on empty slots it has gone in flight (R120), and otherwise the slots are what the transaction in
flight and the claim queued make of it (R121 to R124). -/
def Node.claimTaken (before after : Node) (c : Claim) (now : Time) : Prop :=
  match before.inFlight with
  | none => before.queued = none → after.inFlight = some (c.started now) ∧ after.queued = none
  | some x =>
    after.inFlight = some (slotsAfter c now x before.queued).1 ∧ after.queued = (slotsAfter c now x before.queued).2

/-- A claim was made on a node in the event. -/
def Device.claimTaken (s t : Device) (node : Option NodeNo) (c : Claim) : Prop :=
  ∀ n, node = some n → (s.node n).claimTaken (t.node n) c s.time

/-- The CLAIM_DROPPED report of a claim on a node (R125). -/
def Device.dropReport (s : Device) (n : NodeNo) (c : Claim) (cause : DropCause) : Report :=
  ⟨.claimDropped, s.nodeLine n, nodeAddress n, .dropped cause, BitVec.ofNat 32 (actNumber c.act), 0, s.time, .none⟩

/-- What a claim that meets a transaction in flight reports: the claim dropped behind a queued ESD claim, or the queued claim
that it displaces or withdraws; and the MOVE in flight that an ESD MOVE to the other target abandons (R121 to R125). -/
def Device.claimReported (s t : Device) (node : Option NodeNo) (c : Claim) : Prop :=
  ∀ n x, node = some n → (s.node n).inFlight = some x →
    (∀ q, (s.node n).queued = some q →
      if q.origin = .esd ∧ c.origin ≠ .esd ∧ (x.origin = .esd ∨ (s.node n).kind = .valve) then
        t.reportWaits (s.dropReport n c .esdAhead)
      else t.reportWaits
        (s.dropReport n q (if c.origin = .esd ∧ q.origin ≠ .esd then .withdrawn else .replaced))) ∧
    ((s.node n).kind = .valve → c.origin = .esd → x.origin ≠ .esd → x.act ≠ c.act →
      t.reportWaits ⟨.valveDone, s.nodeLine n, nodeAddress n, .outcome .abandoned,
        BitVec.ofNat 32 (actNumber x.act), BitVec.ofNat 32 (s.node n).readingA, s.time, .none⟩)

/-- A MOVE of a line's valve was claimed in the event. -/
def Device.moveClaimed (s t : Device) (l : Line) (r : Role) (g : Target) (o : Origin) : Prop :=
  s.claimTaken t (s.valveOf l r) ⟨.move g, o⟩

/-- A SPEED of a line's pump was claimed in the event. -/
def Device.speedClaimed (s t : Device) (l : Line) (v : Nat) (o : Origin) : Prop :=
  s.claimTaken t (s.deviceOf l .pump) ⟨.speed v, o⟩

/-- The claims of each line that trips are reported as they met its pump and its RETURN (R91, R123 to R125). -/
def Device.tripsReported (s t : Device) : Prop :=
  s.reportsFlow → ∀ l, (s.line l).state.trips = true →
    s.claimReported t (s.deviceOf l .pump) ⟨.speed 0, .esd⟩ ∧
    (s.atRest l .returnValve .opened = false →
      s.claimReported t (s.valveOf l .returnValve) ⟨.move .opened, .esd⟩)

/-- The latch was set by a cause (R89): what is recorded, the barge loop, the horn, and the lines, each of which trips with
the claims and the pump deadline of its ESD sequence's start (R91). -/
def Device.latchSet (s t : Device) (cause : Cause) (line subject : Nat) : Prop :=
  t.shutdown.latch = true ∧ t.shutdown.first = some ⟨cause, s.time⟩ ∧ t.shutdown.firstLine = line ∧
  t.shutdown.firstSubject = subject ∧ t.shutdown.bargeLoop = .broken ∧ t.shutdown.hornSounding = true ∧
  t.shutdown.alarmPending = true ∧
  ∀ l, if (s.line l).state.trips = true then
      (t.line l).state = .tripping ∧ (t.line l).step = .esdPumpStop ∧ (t.line l).stopCause = some cause ∧
      t.shutdown.sequence.get l = .esdPumpStop ∧
      t.shutdown.pumpDeadline.get l = some (s.secondsOn (s.limits l).pumpStop) ∧ s.speedClaimed t l 0 .esd ∧
      (s.atRest l .returnValve .opened = false → s.moveClaimed t l .returnValve .opened .esd)
    else t.line l = s.line l

/-! ## Where a stop and a hold take a line -/

/-- A closing claim that CLOSING makes and awaits: the valve is not at rest CLOSED, and its claim is not dropped on
arrival (R24, R125). -/
def Device.closesValve (s : Device) (l : Line) (r : Role) : Bool :=
  !s.atRest l r .closed && !s.claimWouldDrop l r .closed .sequence

/-- A line is FREE, its context cleared, its hose items reset, and no tank assigned to it (R28, R66, R84). -/
def Device.freed (t : Device) (l : Line) : Prop :=
  (t.line l).state = .free ∧ (t.line l).step = .none ∧ (t.line l).stopCause = none ∧ t.hose l = .reset ∧
  ∀ k, t.tankHas k (fun e => decide (e.assigned = some l)) = false

/-- A line entered step VALVES_CLOSING: it has claimed those of its three valves that close and awaits them, else it has
gone on to FREE (R24, R28). -/
def Device.valvesClosingTaken (s t : Device) (l : Line) (cause : Option Cause) : Prop :=
  if s.closesValve l .discharge = true ∨ s.closesValve l .returnValve = true ∨ s.closesValve l .strip = true then
    (t.line l).state = .closing ∧ (t.line l).step = .valvesClosing ∧ (t.line l).stopCause = cause ∧
    ∀ r, r ≠ .manifold → s.closesValve l r = true → s.moveClaimed t l r .closed .sequence
  else t.freed l

/-- A line entered CLOSING: it has claimed MANIFOLD CLOSED and awaits it, else it has gone on to step VALVES_CLOSING (R24). -/
def Device.closingTaken (s t : Device) (l : Line) (cause : Option Cause) : Prop :=
  if s.closesValve l .manifold = true then
    (t.line l).state = .closing ∧ (t.line l).step = .manifoldClosing ∧ (t.line l).stopCause = cause ∧
    s.moveClaimed t l .manifold .closed .sequence
  else s.valvesClosingTaken t l cause

/-- A stop trigger took a line from PRIMING, DELIVERING, TOPPING or HELD (R18, R19, R21, R23): it ramps down from a rate
above 0; at rate 0 it awaits the pump stop while the pump has a claim, and leaves STOPPING at once otherwise. -/
def Device.stopTaken (s t : Device) (l : Line) (cause : Cause) (strip : Bool) : Prop :=
  (t.governor l).allowed = (s.governor l).allowed ∧
  if 0 < (s.governor l).allowed then
    (t.line l).state = .stopping ∧ (t.line l).step = .ramp ∧ (t.line l).stopCause = some cause ∧
    (t.line l).stripFlag = strip ∧ (t.line l).hold = .empty ∧ (t.line l).entry = s.time ∧ (t.line l).deadline = none
  else if s.idleNode (s.deviceOf l .pump) = false then
    (t.line l).state = .stopping ∧ (t.line l).step = .pumpStopping ∧ (t.line l).stopCause = some cause ∧
    (t.line l).stripFlag = strip ∧ (t.line l).hold = .empty ∧ (t.line l).entry = s.time ∧
    (t.line l).deadline = some (s.secondsOn (s.limits l).pumpStop)
  else if strip = true then
    (t.line l).state = .stripping ∧ (t.line l).step = .strip ∧ (t.line l).stopCause = some cause ∧
    (t.line l).stripFlag = true ∧ (t.line l).entry = s.time ∧
    (t.line l).deadline = some (s.secondsOn (s.limits l).stripLimit) ∧ s.moveClaimed t l .strip .opened .sequence
  else s.closingTaken t l (some cause)

/-- A stop trigger took a line from LINEUP (R19, R20): its queued SEQUENCE claims are withdrawn; it stands in CLOSING at
step HOLD_OFF while a transaction of one of its valves is in flight, and closes its valves otherwise. -/
def Device.lineupStopped (s t : Device) (l : Line) (cause : Cause) : Prop :=
  if s.valveInFlight l = true then
    (t.line l).state = .closing ∧ (t.line l).step = .holdOff ∧ (t.line l).stopCause = some cause ∧
    (t.line l).hold = .empty ∧ (t.line l).entry = s.time ∧ (t.line l).deadline = none ∧
    ∀ n, (s.node n).line = some l →
      (t.node n).inFlight = (s.node n).inFlight ∧ (t.node n).queued = ((s.withdrawLine l).node n).queued
  else (s.withdrawLine l).closingTaken t l (some cause)

/-- The prime speed was claimed: step PRIME with its deadline, the allowed rate, and priming armed (R8, R36, R80). -/
def Device.primeClaimed (s t : Device) (l : Line) : Prop :=
  (t.line l).step = .prime ∧ (t.line l).deadline = some (s.secondsOn (s.limits l).primeLimit) ∧
  (t.governor l).allowed = (s.limits l).prime ∧ (t.hose l).armed = true ∧
  s.speedClaimed t l (speedFor (s.limits l).prime (s.limits l).peak) .sequence

/-- A hold cause was removed from a HELD line: with another cause the line stays HELD; with none it primes again, closing
RETURN first unless it is at rest CLOSED (R14, R15, R36). -/
def Device.holdCleared (s t : Device) (l : Line) (cause : HoldCause) : Prop :=
  (t.line l).hold = (s.line l).hold.put cause false ∧
  if ((s.line l).hold.put cause false).isEmpty = true then
    (t.line l).state = .priming ∧
    (if s.atRest l .returnValve .closed = true then s.primeClaimed t l
     else (t.line l).step = .returnClosing ∧ s.moveClaimed t l .returnValve .closed .sequence)
  else (t.line l).state = .held

/-- A hold trigger put its cause on a line in PRIMING, DELIVERING, TOPPING or HELD: the line's items (R12, R13). -/
def Device.holdEntered (s t : Device) (l : Line) (cause : HoldCause) : Prop :=
  (t.line l).state = .held ∧ (t.line l).hold = (s.line l).hold.put cause true ∧
  ((s.line l).state.holdable = true → (t.line l).step = .hold ∧ (t.line l).entry = s.time ∧
    (t.line l).deadline = some (s.secondsOn (s.limits l).holdLimit) ∧ (t.governor l).allowed = 0)

/-- A hold trigger took a line in PRIMING, DELIVERING, TOPPING or HELD; entering HELD it claims SPEED 0 and RETURN OPEN (R12,
R13). -/
def Device.holdTaken (s t : Device) (l : Line) (cause : HoldCause) : Prop :=
  s.holdEntered t l cause ∧
  ((s.line l).state.holdable = true →
    s.speedClaimed t l 0 .sequence ∧ s.moveClaimed t l .returnValve .opened .sequence)

/-- A line at step START_WAIT tested its start condition: it primes when the condition holds, and waits otherwise (R6, R8,
R80). -/
def Device.startTested (s t : Device) (l : Line) : Prop :=
  if s.startCondition l = true then
    (t.line l).state = .priming ∧ s.primeClaimed t l ∧ (t.hose l).primingCount = 0
  else t.line l = { s.line l with step := .startWait }

/-! ## Requests, SPEED transactions and the send queue -/

/-- The result that a request taken in WATCH is given at once (R97, R168, R169, R184); none for an OPEN, which waits for
its plan read, and for a LOAD_CHARTER that is taken. -/
def Device.resultInWatch (s : Device) : Asked → Option Result
  | .openLine _ => none
  | .hold l => some (if (s.line l).state.holdable = true ∨ (s.line l).state = .held then .done else .wrongState)
  | .resume l =>
    some (if (s.line l).state = .held ∧ (s.line l).hold.stationHold = true then .done else .wrongState)
  | .stop l _ => some (if (s.line l).state.active = true ∨ (s.line l).state = .stopping then .done else .wrongState)
  | .loadCharter =>
    if s.allFree = false then some .linesActive else if s.allNodesIdle = false then some .nodesBusy else none
  | .lockLimits => some .done
  | .trip => some .done
  | .tripReset =>
    some (if s.shutdown.latch = false then .wrongState
      else if s.shutdown.shipLoop = .broken then .loopBroken
      else if (s.line .l1).state = .tripping ∨ (s.line .l2).state = .tripping ∨ (s.line .l3).state = .tripping then
        .linesActive
      else .done)
  | .silence => some .done

/-- What a request taken in WATCH with result DONE, or without a result yet, brings about (R12, R14, R15, R18 to R21, R90,
R96, R98, R101, R162, R168, R179, R184). -/
def Device.requestTaken (s t : Device) : Asked → Prop
  | .openLine l => t.requests.phase = .planRead ∧ t.jobs.reads = s.jobs.reads ++ [.plan l false] ∧
      s.SamePlant t ∧ t.charter = s.charter
  | .hold l => s.holdTaken t l .stationHold
  | .resume l => s.holdCleared t l .stationHold
  | .stop l strip =>
    ((s.line l).state.running = true → s.stopTaken t l .stationStop strip) ∧
    ((s.line l).state = .lineup → s.lineupStopped t l .stationStop) ∧
    ((s.line l).state = .stopping → t.line l = { s.line l with stripFlag := (s.line l).stripFlag || strip })
  | .loadCharter => t.requests.phase = .load ∧ t.charter.mode = .loading ∧ t.charter.progress = 0 ∧
      t.jobs.reads = s.jobs.reads ++ charterReads ∧ t.bus.mode = .off ∧ t.link.taking = false ∧
      t.shutdown.bargeLoop = .broken ∧ s.SameLines t
  | .lockLimits => t.charter = { s.charter with lock := true } ∧ s.SamePlant t
  | .trip => if s.shutdown.latch = true then t.shutdown = s.shutdown ∧ s.SameLines t
      else s.latchSet t .stationTrip 0 0
  | .tripReset => t.shutdown.latch = false ∧ t.shutdown.first = none ∧ t.shutdown.bargeLoop = .healthy ∧
      ∀ l, if (s.line l).state = .tripped then s.closingTaken t l (s.line l).stopCause
        else t.line l = s.line l
  | .silence => t.shutdown = { s.shutdown with hornSounding := false } ∧ s.SameLines t

/-- The outcome with which a slot result ends its SPEED transaction: REFUSED at that answer, DONE at a refreshing answer
within 2 of the speed, and FAILED at the third failed slot in a row (R126, R128, R130). -/
def speedEnd (x : Transaction) (v : Nat) : SlotOutcome → Option TxOutcome
  | .answer a =>
    if x.phase ≠ .travel ∧ a.code = .refused then some .refused
    else if a.fault = false ∧ (x.phase = .travel ∨ x.phase = .send ∧ a.code = .taken) ∧ a.readingA ≤ v + 2 ∧
      v ≤ a.readingA + 2 then some .done
    else none
  | _ => if x.phase ≠ .travel ∧ 2 ≤ x.errors then some .failed else none

/-- A line's ESD sequence ended with the line TRIPPED (R93). -/
def Device.esdFinished (s t : Device) (l : Line) : Prop :=
  t.shutdown.sequence.get l = .none ∧ (t.line l).state = .tripped ∧ (t.line l).step = .none ∧
  (t.line l).stopCause = (s.line l).stopCause ∧ (t.line l).stripResult = (s.line l).stripResult ∧
  (t.line l).entry = s.time

/-- Step ESD_MANIFOLD of a line's ESD sequence ended: DISCHARGE CLOSED is claimed in step ESD_DISCHARGE, and with DISCHARGE at
rest CLOSED the sequence ends (R93). -/
def Device.esdDischargeTaken (s t : Device) (l : Line) : Prop :=
  if s.atRest l .discharge .closed = false then
    t.shutdown.sequence.get l = .esdDischarge ∧ t.line l = { s.line l with step := .esdDischarge } ∧
    s.moveClaimed t l .discharge .closed .esd
  else s.esdFinished t l

/-- Step ESD_PUMP_STOP of a line's ESD sequence ended: STRIP CLOSED is claimed unless at rest, and MANIFOLD CLOSED in step
ESD_MANIFOLD; with MANIFOLD at rest CLOSED that step ends at once (R92, R93). -/
def Device.esdClosed (s t : Device) (l : Line) : Prop :=
  (s.atRest l .strip .closed = false → s.moveClaimed t l .strip .closed .esd) ∧
  if s.atRest l .manifold .closed = false then
    t.shutdown.sequence.get l = .esdManifold ∧ t.line l = { s.line l with step := .esdManifold } ∧
    s.moveClaimed t l .manifold .closed .esd
  else s.esdDischargeTaken t l

/-- The LINE_SUMMARY report of a line stands in the ring or the queue (R28). -/
def Device.summaryGiven (s t : Device) (l : Line) : Prop :=
  t.reportWaits ⟨.lineSummary, lineNumber l, 0,
    (match (s.line l).stopCause with
      | none => .none
      | some k => .line k),
    (s.line l).nominated, (s.governor l).delivered, s.time, (s.line l).stripResult⟩

/-- A MOVE of a line's valve ended DONE or REFUSED, and in TRIPPING or TRIPPED in any way, in an event that takes S to T: what
its end brings about in the line's sequence. The end finds the in-flight slot emptied, the valve state set, and a queued claim
gone in flight (R132 steps 1, 5 and 6). In LINEUP the next step follows a DONE of DISCHARGE or MANIFOLD, and START_WAIT tests
its condition (R5, R6, R8); in PRIMING the closing of RETURN is followed by the prime speed (R15); in CLOSING the steps follow
one another to FREE (R20, R24, R28); in TRIPPING MANIFOLD's ESD end brings ESD_DISCHARGE, and DISCHARGE's TRIPPED (R93). -/
def Device.moveEnded (s t : Device) (n : NodeNo) (l : Line) (x : Transaction) (o : TxOutcome) : Prop :=
  let e := (s.emptyInFlight n x.act o).promote n
  let c := s.line l
  let r := (s.node n).role
  match c.state with
  | .lineup =>
    if o = .done ∧ r = .discharge ∧ c.step = .dischargeOpening then
      if e.valveIs l .manifold .opened = true then e.startTested t l
      else t.line l = { c with step := .manifoldOpening } ∧ e.moveClaimed t l .manifold .opened .sequence
    else if o = .done ∧ r = .manifold ∧ c.step = .manifoldOpening then e.startTested t l
    else if c.step = .startWait then s.startCondition l = false → e.startTested t l
    else t.line l = c
  | .priming =>
    o = .done → if c.step = .returnClosing ∧ r = .returnValve ∧ x.act = .move .closed then
        (t.line l).state = .priming ∧ e.primeClaimed t l ∧ (t.hose l).primingCount = 0
      else t.line l = c
  | .closing =>
    match c.step with
    | .holdOff => if e.valveInFlight l = true then t.line l = c else e.closingTaken t l c.stopCause
    | .manifoldClosing =>
      if r = .manifold ∧ (e.node n).idle = true then e.valvesClosingTaken t l c.stopCause else t.line l = c
    | .valvesClosing =>
      if (s.sequenceMemory l).awaited.get r = true ∧ (e.node n).idle = true then
        if (s.sequenceMemory l).awaited.set r false = .all false then t.freed l
        else t.line l = c ∧ (t.sequenceMemory l).awaited.get r = false
      else t.line l = c
    | _ => t.line l = c
  | .tripping =>
    if x.origin = .esd ∧ s.shutdown.sequence.get l = .esdManifold ∧ r = .manifold then e.esdDischargeTaken t l
    else if x.origin = .esd ∧ s.shutdown.sequence.get l = .esdDischarge ∧ r = .discharge then
      e.esdFinished t l ∧ (s.reportsFlow → s.summaryGiven t l)
    else t.line l = c ∧ t.shutdown.sequence.get l = s.shutdown.sequence.get l
  | .delivering | .topping => o = .done → t.line l = c
  | .stopping | .stripping | .tripped => t.line l = c
  | .free | .held => True

/-- A node with its transaction in flight given. -/
def Device.withTransaction (s : Device) (n : NodeNo) (x : Transaction) : Device :=
  s.setNode n { s.node n with inFlight := some x }

/-- The node as it is once it is FRESH. -/
def Device.freshened (s : Device) (n : NodeNo) : Device := s.setNode n { s.node n with stale := false }

/-- A STALE node that becomes FRESH moves its line: it clears STALE_READING, which holds it, or lets it start (R6, R83,
R109). -/
def Device.freshMoves (s : Device) (n : NodeNo) (l : Line) : Bool :=
  match (s.line l).state with
  | .held => (s.line l).hold.staleReading && (s.freshened n).readingsFresh l
  | .lineup => decide ((s.line l).step = .startWait) && (s.freshened n).startCondition l
  | _ => false

/-- The device after a STALE node's becoming FRESH has moved its line: STALE_READING cleared, or the line started. -/
def Device.freshMoved (s : Device) (n : NodeNo) (l : Line) : Device :=
  if (s.line l).state = .held then (s.freshened n).clearHold l .staleReading else (s.freshened n).startTest l

/-- A SPEED transaction of a line's pump ended (R21, R23, R41, R92, R132, R136): its VALVE_DONE report; on a FREE line
nothing else; in step PUMP_STOPPING the pump stop; in PRIMING, DELIVERING and TOPPING the reclaim mark, when it did not end
DONE; and in TRIPPING the end of step ESD_PUMP_STOP, when it is the ESD sequence's own. -/
def Device.speedEnded (s t : Device) (n : NodeNo) (l : Line) (x : Transaction) (v : Nat) (o : TxOutcome)
    (reading : Nat) : Prop :=
  (s.reportsFlow → t.reportWaits ⟨.valveDone, lineNumber l, nodeAddress n, .outcome o, BitVec.ofNat 32 v,
    BitVec.ofNat 32 reading, s.time, .none⟩) ∧
  ((s.line l).state = .free → (s.node n).queued = none → (t.node n).idle = true ∧ s.SameLines t) ∧
  (v = 0 → (s.node n).queued = none → (s.line l).state = .stopping → (s.line l).step = .pumpStopping →
    if (s.line l).stripFlag = true then
      (t.line l).state = .stripping ∧ (t.line l).step = .strip ∧ (t.line l).stopCause = (s.line l).stopCause ∧
      (t.line l).entry = s.time ∧ (t.line l).deadline = some (s.secondsOn (s.limits l).stripLimit) ∧
      s.moveClaimed t l .strip .opened .sequence
    else s.closingTaken t l (s.line l).stopCause) ∧
  ((s.line l).state.reclaims = true → (t.line l).state = (s.line l).state → (s.node n).queued = none →
    v = (s.governor l).lastSpeed →
    (t.governor l).reclaim = if o = .done then (s.governor l).reclaim else true) ∧
  (x.origin = .esd → s.shutdown.sequence.get l = .esdPumpStop →
    t.shutdown.pumpDeadline.get l = none ∧
    s.esdClosed t l)

/-- What is handed to the ship link in an event: while a frame is on the line it leaves the queue Q; a free transmitter
with nothing queued, on an ACTIVE link in WATCH, begins the frame of Q's first entry (R146, R147). -/
def Device.handed (s t : Device) (q : List SendEntry) : Prop :=
  (s.link.sending.isSome = true → t.link.queue = q ∧ t.link.sending = s.link.sending) ∧
  (s.link.sending = none → s.link.queue = [] → s.link.state = .active → s.charter.mode = .watch →
    match q with
    | [] => t.link.queue = []
    | e :: rest => t.link.sending = some e.frame ∧ t.link.queue = rest)

/-! ## Invariants -/

/-- The barge loop output is HEALTHY in WATCH with the latch CLEAR, and BROKEN in every other case (R87). -/
def Device.bargeLoopHolds (s : Device) : Prop :=
  s.shutdown.bargeLoop = if s.charter.mode = .watch ∧ s.shutdown.latch = false then .healthy else .broken

/-- While the latch is SET no line stands in a state in which it could deliver; a line is TRIPPING or TRIPPED only then;
and only a TRIPPING line has an ESD sequence (R25, R89, R91, R98). -/
def Device.latchHolds (s : Device) : Prop :=
  ∀ l, (if s.shutdown.latch = true then (s.line l).state.trips = false
      else (s.line l).state ≠ .tripping ∧ (s.line l).state ≠ .tripped) ∧
    (s.shutdown.sequence.get l ≠ .none → (s.line l).state = .tripping)

/-- The horn sounds only while alarm-pending is set (R99, R100). -/
def Device.hornHolds (s : Device) : Prop := s.shutdown.hornSounding = true → s.shutdown.alarmPending = true

end Sys2Proof.Machine
end

