-- ==== Sys2Proof/Certificates/Slice0/Obligations.lean ====
section
/-! DEFINITION. The statements for the provers. -/

open Sys2Proof Sys2Proof.Machine

/-! ## The step, the queue of commands and the resets -/

/-- A step runs the command at the front of the queue on the state with the rest of the queue. -/
def Obligations.StepRunsTheFrontCommand : Prop :=
  ∀ (s : State) (c : Instr) (rest : List Instr), s.pending = c :: rest →
    step s = exec c { s with pending := rest }

/-- With no command waiting, a step lets 50 ms pass and changes nothing else; the time base steps once each 0.1 s (R178).
The step of 50 ms is the model's choice (log 2). -/
def Obligations.StepOnAnEmptyQueueLetsTimePass : Prop :=
  ∀ s : State, s.pending = [] →
    ∃ t, step s = .next t ∧ t.mem = s.mem ∧ t.pending = [] ∧
      t.device = { s.device with time := t.device.time, half := t.device.half } ∧
      (s.device.half = false → t.device.half = true ∧ t.device.time = s.device.time) ∧
      (s.device.half = true → t.device.half = false ∧ t.device.time = s.device.time + 1)

/-- Every command answers a next state, and changes no command that waits. That a command whose event cannot happen now
answers the state it found is the model's choice (logs 3 and 9), and so is that POWER_ON_RESET leaves the commands that
wait (log 31). -/
def Obligations.EveryCommandAnswersANextState : Prop :=
  ∀ (c : Instr) (s : State), ∃ t, exec c s = .next t ∧ t.pending = s.pending

/-- What State.reset holds: the values that the rules give for power-on reset, and two of the model's own: memory with
nothing listed (log 1) and no command waiting (log 31). -/
def Obligations.ResetStateHoldsThePowerOnValues : Prop :=
  let d := State.reset.device
  d.time = 0 ∧ d.charter.mode = .passive ∧ d.charter.inForce = none ∧ d.charter.crc = 0 ∧ d.charter.result = .none ∧
  d.charter.detail = 0 ∧ d.charter.lock = false ∧ d.requests.queue = [] ∧ d.reports.queue = [] ∧
  d.reports.overrun = 0 ∧ d.reports.producer = 0 ∧ d.reports.consumer = 0 ∧ d.reports.usable = false ∧
  d.reports.interrupt = false ∧ d.bus.mode = .off ∧ d.bus.slot = none ∧ d.link.state = .idle ∧
  d.link.taking = false ∧ d.link.status = none ∧ d.shutdown.latch = false ∧ d.shutdown.first = none ∧
  d.shutdown.shipLoop = .broken ∧ d.shutdown.bargeLoop = .broken ∧ d.shutdown.hornSounding = false ∧
  d.shutdown.alarmPending = false ∧ (∀ t, d.tank t = none) ∧ (∀ n, (d.node n).kind = .none) ∧
  (∀ l, (d.line l).state = .free ∧ (d.line l).fitted = false ∧ (d.governor l).allowed = 0 ∧
    (d.governor l).requested = 0 ∧ (d.hose l).pressure = none ∧ (d.topOff l).order = []) ∧
  State.reset.mem = [] ∧ State.reset.pending = []

/-- POWER_ON_RESET restarts every block with the straps sampled, whatever the state (R185). That memory stands
is DEDUCED (log 22); the values the manual does not give are those of State.reset (logs 5, 6, 52 and 53), and that a station
access which waits is dropped is the model's choice (log 50). -/
def Obligations.PowerOnResetRestartsTheDevice : Prop :=
  ∀ (straps : BitVec 8) (s : State),
    ∃ t, exec (.powerOnReset straps) s = .next t ∧ t.mem = s.mem ∧ t.device.strap = straps ∧
      t.device = { State.reset.device with strap := straps }

/-- STATION_RESET empties the request queue, puts both ring indices to 0, drives the interrupt low, stops every active line
with STATION_RESET, and leaves every other line, the mode, the charter, the lock, the latch, the settings of the tank and
node tables, the tanks of every other line and memory as they were; the accesses that wait are withdrawn (R19 to R21, R27,
R163, R165, R176, R185). -/
def Obligations.StationResetStopsActiveLines : Prop :=
  ∀ s : State, ∃ t, exec .stationReset s = .next t ∧ t.mem = s.mem ∧
    t.device.requests = ⟨[], .untaken⟩ ∧ t.device.jobs.result = none ∧ t.device.jobs.consumer = true ∧
    t.device.reports.usable = true ∧ t.device.reports.producer = 0 ∧ t.device.reports.consumer = 0 ∧
    t.device.reports.interrupt = false ∧ t.device.port.waiting = [] ∧
    t.device.port.writesOpen = (s.device.port.writesOpen || s.device.requests.loadEnded) ∧
    (∀ l, (s.device.line l).state.active = false → t.device.line l = s.device.line l ∧
      t.device.governor l = s.device.governor l ∧ t.device.hose l = s.device.hose l ∧
      t.device.topOff l = s.device.topOff l) ∧
    (∀ l, (s.device.line l).state.running = true → s.device.stopTaken t.device l .stationReset false) ∧
    (∀ l, (s.device.line l).state = .lineup → s.device.lineupStopped t.device l .stationReset) ∧
    (∀ l, (t.device.line l).state.active = false) ∧
    (∀ k e, s.device.tank k = some e → (∀ l, e.assigned = some l → (s.device.line l).state.active = false) →
      t.device.tank k = some e) ∧
    t.device.tankStills = s.device.tankStills ∧
    t.device.charter = s.device.charter ∧ t.device.shutdown = s.device.shutdown ∧ s.device.SameClock t.device ∧
    t.device.stills = s.device.stills ∧ t.device.valves = s.device.valves

/-- A change of the ship loop is taken (R86). -/
def Obligations.ShipLoopIsTaken : Prop :=
  ∀ (c : Loop) (s : State), ∃ t, exec (.shipLoopChange c) s = .next t ∧ t.device.shutdown.shipLoop = c ∧
    t.mem = s.mem ∧ s.device.SameStation t.device ∧ t.device.charter = s.device.charter ∧
    t.device.tanks = s.device.tanks ∧ t.device.stills = s.device.stills ∧ t.device.valves = s.device.valves ∧
    ((c = .healthy ∨ s.device.charter.mode ≠ .watch) → s.device.SameLines t.device ∧
      t.device.shutdown.latch = s.device.shutdown.latch ∧ t.device.shutdown.first = s.device.shutdown.first)

/-- A break of the ship loop in WATCH with the latch CLEAR sets the latch with SHIP_LOOP and trips every line that could
deliver, claiming SPEED 0, and RETURN OPEN unless it is at rest OPEN, and setting the pump deadline (R86, R89, R91); where a
claim meets a transaction, the slots and the reports are as R123 to R125 give (a queued claim that an ESD merge takes away is
reported WITHDRAWN: DEDUCED, log 34). -/
def Obligations.ShipLoopBreakSetsTheLatch : Prop :=
  ∀ s : State, s.device.charter.mode = .watch → s.device.shutdown.shipLoop = .healthy →
    s.device.shutdown.latch = false →
    ∃ t, exec (.shipLoopChange .broken) s = .next t ∧ t.device.shutdown.shipLoop = .broken ∧
      s.device.latchSet t.device .shipLoop 0 0 ∧ s.device.tripsReported t.device ∧ t.mem = s.mem ∧
      s.device.SameStation t.device ∧
      t.device.charter = s.device.charter ∧ t.device.tanks = s.device.tanks ∧ t.device.stills = s.device.stills ∧
      t.device.valves = s.device.valves

/-! ## Requests in WATCH and PASSIVE (R96 to R98, R101, R164 to R169, R179, R184) -/

/-- OPEN in WATCH asks the line's plan read and is marked as being handled; nothing of the plant changes (R162, R167). -/
def Obligations.OpenAsksThePlanRead : Prop :=
  ∀ (l : Line) (a : Byte) (s : State), s.takesRequest → s.device.charter.mode = .watch →
    ∃ t, exec (.openLine l a) s = .next t ∧ s.requestStored t (.line l) .openLine a ∧
      t.device.requests.phase = .planRead ∧ t.device.jobs.reads = s.device.jobs.reads ++ [.plan l false] ∧
      t.device.openHandled l = true ∧ s.device.SamePlant t.device ∧ t.device.charter = s.device.charter ∧
      s.device.SameClock t.device ∧ s.device.SameRing t.device

/-- HOLD in WATCH of a line in PRIMING, DELIVERING, TOPPING or HELD holds it with STATION_HOLD and answers DONE (R12, R13,
R168); entering HELD sets the allowed rate to 0 and claims SPEED 0 and RETURN OPEN, and a claim that meets a transaction is
taken and reported as R121, R122 and R125 give. -/
def Obligations.HoldHoldsTheLine : Prop :=
  ∀ (l : Line) (a : Byte) (s : State), s.takesRequest → s.device.charter.mode = .watch →
    ((s.device.line l).state.holdable = true ∨ (s.device.line l).state = .held) →
    ∃ t, exec (.hold l a) s = .next t ∧ s.requestStored t (.line l) .hold a ∧ t.device.answered .done ∧
      (t.device.line l).state = .held ∧ (t.device.line l).hold = { (s.device.line l).hold with stationHold := true } ∧
      (t.device.line l).stopCause = (s.device.line l).stopCause ∧
      (t.device.line l).nominated = (s.device.line l).nominated ∧ (t.device.line l).base = (s.device.line l).base ∧
      ((s.device.line l).state.holdable = true → (t.device.line l).step = .hold ∧
        (t.device.line l).holdStart = some s.device.time ∧ (t.device.line l).entry = s.device.time ∧
        (t.device.line l).deadline = some (s.device.secondsOn (s.device.limits l).holdLimit) ∧
        (t.device.governor l).allowed = 0 ∧ s.device.speedClaimed t.device l 0 .sequence ∧
        s.device.moveClaimed t.device l .returnValve .opened .sequence ∧
        (s.device.reportsFlow →
          s.device.claimReported t.device (s.device.deviceOf l .pump) ⟨.speed 0, .sequence⟩ ∧
          s.device.claimReported t.device (s.device.valveOf l .returnValve) ⟨.move .opened, .sequence⟩)) ∧
      s.device.SameOtherLines l t.device ∧ t.device.stills = s.device.stills ∧ t.device.valves = s.device.valves ∧
      t.device.tanks = s.device.tanks ∧ t.device.shutdown = s.device.shutdown ∧
      t.device.charter = s.device.charter ∧ s.device.SameClock t.device ∧ s.device.SameRing t.device

/-- RESUME in WATCH of a HELD line that STATION_HOLD holds removes that cause and answers DONE: with another cause the line
stays HELD, with none it primes again, claiming RETURN CLOSED, or the prime speed when RETURN is at rest CLOSED (R14, R15,
R36, R168). -/
def Obligations.ResumeRemovesStationHold : Prop :=
  ∀ (l : Line) (a : Byte) (s : State), s.takesRequest → s.device.charter.mode = .watch →
    (s.device.line l).state = .held → (s.device.line l).hold.stationHold = true →
    ∃ t, exec (.resume l a) s = .next t ∧ s.requestStored t (.line l) .resume a ∧ t.device.answered .done ∧
      (t.device.line l).hold = { (s.device.line l).hold with stationHold := false } ∧
      (if ({ (s.device.line l).hold with stationHold := false } : HoldSet).isEmpty = true then
        (t.device.line l).state = .priming
       else t.device.line l = { s.device.line l with hold := { (s.device.line l).hold with stationHold := false } }) ∧
      s.device.holdCleared t.device l .stationHold ∧
      s.device.SameOtherLines l t.device ∧ t.device.stills = s.device.stills ∧ t.device.valves = s.device.valves ∧
      t.device.tanks = s.device.tanks ∧ t.device.shutdown = s.device.shutdown ∧
      t.device.charter = s.device.charter ∧ s.device.SameClock t.device ∧ s.device.SameRing t.device

/-- STOP in WATCH of a line in PRIMING, DELIVERING, TOPPING or HELD stops it with STATION_STOP and the strip flag of the
request: above rate 0 it ramps down, and at rate 0 it awaits the pump stop or leaves STOPPING at once. STOP of a line in
LINEUP takes it to CLOSING (R18 to R21, R23, R24, R168). -/
def Obligations.StopRampsTheLineDown : Prop :=
  ∀ (l : Line) (a : Byte) (s : State), s.takesRequest → s.device.charter.mode = .watch →
    ((s.device.line l).state.running = true ∨ (s.device.line l).state = .lineup) →
    ∃ t, exec (.stop l a) s = .next t ∧ s.requestStored t (.line l) .stop a ∧ t.device.answered .done ∧
      ((s.device.line l).state.running = true →
        s.device.stopTaken t.device l .stationStop (a.getLsbD 0) ∧
        (0 < (s.device.governor l).allowed → t.device.nodes = s.device.nodes ∧ t.device.tanks = s.device.tanks)) ∧
      ((s.device.line l).state = .lineup → s.device.lineupStopped t.device l .stationStop) ∧
      s.device.SameOtherLines l t.device ∧ t.device.tankStills = s.device.tankStills ∧
      t.device.stills = s.device.stills ∧ t.device.valves = s.device.valves ∧
      t.device.shutdown = s.device.shutdown ∧ t.device.charter = s.device.charter ∧ s.device.SameClock t.device ∧
      s.device.SameRing t.device

/-- HOLD, RESUME and STOP in WATCH of a line in a state that R168 does not name answer WRONG_STATE and change nothing of
the plant; a STOP that asks for stripping of a line in STOPPING only sets the strip flag (R168). -/
def Obligations.LineRequestsInAWrongState : Prop :=
  ∀ (l : Line) (a : Byte) (s : State), s.takesRequest → s.device.charter.mode = .watch →
    ((s.device.line l).state.holdable = false → (s.device.line l).state ≠ .held →
      ∃ t, exec (.hold l a) s = .next t ∧ t.device.answered .wrongState ∧ s.device.SamePlant t.device ∧
        t.device.charter = s.device.charter) ∧
    (¬((s.device.line l).state = .held ∧ (s.device.line l).hold.stationHold = true) →
      ∃ t, exec (.resume l a) s = .next t ∧ t.device.answered .wrongState ∧ s.device.SamePlant t.device ∧
        t.device.charter = s.device.charter) ∧
    ((s.device.line l).state.active = false → (s.device.line l).state ≠ .stopping →
      ∃ t, exec (.stop l a) s = .next t ∧ t.device.answered .wrongState ∧ s.device.SamePlant t.device ∧
        t.device.charter = s.device.charter) ∧
    ((s.device.line l).state = .stopping →
      ∃ t, exec (.stop l a) s = .next t ∧ t.device.answered .done ∧
        t.device.line l = { s.device.line l with
          stripFlag := (s.device.line l).stripFlag || a.getLsbD 0 } ∧
        s.device.SameOtherLines l t.device ∧ t.device.nodes = s.device.nodes ∧
        t.device.shutdown = s.device.shutdown ∧ t.device.charter = s.device.charter)

/-- LOAD_CHARTER enters LOADING from PASSIVE, and from WATCH with every line FREE and no node transaction (R117, R149,
R169, R179). -/
def Obligations.LoadCharterEntersLoading : Prop :=
  ∀ (a : Byte) (s : State), s.takesRequest →
    (s.device.charter.mode = .passive ∨
      s.device.charter.mode = .watch ∧ s.device.allFree = true ∧ s.device.allNodesIdle = true) →
    ∃ t, exec (.loadCharter a) s = .next t ∧ s.requestStored t .general .loadCharter a ∧
      t.device.requests.phase = .load ∧ t.device.charter.mode = .loading ∧ t.device.charter.progress = 0 ∧
      t.device.charter.runningCrc = 0xFFFFFFFF#32 ∧ t.device.charter.inForce = s.device.charter.inForce ∧
      t.device.charter.crc = s.device.charter.crc ∧ t.device.charter.lock = s.device.charter.lock ∧
      t.device.charter.result = s.device.charter.result ∧
      t.device.jobs.reads = s.device.jobs.reads ++ charterReads ∧ t.device.bus.mode = .off ∧
      t.device.bus.idleScan = none ∧ t.device.link.taking = false ∧ t.device.link.silenceExpiry = none ∧
      t.device.link.lossExpiry = none ∧ t.device.link.statusExpiry = none ∧ t.device.link.queue = [] ∧
      t.device.shutdown.bargeLoop = .broken ∧ t.device.shutdown.latch = s.device.shutdown.latch ∧
      t.device.reports.interrupt = false ∧ s.device.SameLines t.device ∧ t.device.nodes = s.device.nodes ∧
      s.device.SameClock t.device

/-- LOAD_CHARTER in WATCH is refused with LINES_ACTIVE, else with NODES_BUSY; in PASSIVE every other known request is
refused with NOT_LOADED (R166, R169). -/
def Obligations.RequestsAreRefusedByMode : Prop :=
  ∀ (a : Byte) (s : State), s.takesRequest →
    (s.device.charter.mode = .watch → s.device.allFree = false →
      ∃ t, exec (.loadCharter a) s = .next t ∧ t.device.answered .linesActive ∧ s.device.SamePlant t.device ∧
        t.device.charter = s.device.charter) ∧
    (s.device.charter.mode = .watch → s.device.allFree = true → s.device.allNodesIdle = false →
      ∃ t, exec (.loadCharter a) s = .next t ∧ t.device.answered .nodesBusy ∧ s.device.SamePlant t.device ∧
        t.device.charter = s.device.charter) ∧
    (s.device.charter.mode = .passive →
      ∀ c ∈ ([.lockLimits a, .trip a, .tripReset a, .silence a] : List Instr),
        ∃ t, exec c s = .next t ∧ t.device.answered .notLoaded ∧ s.device.SamePlant t.device ∧
          t.device.charter = s.device.charter) ∧
    (s.device.charter.mode = .passive →
      ∀ l, ∀ c ∈ ([.openLine l a, .hold l a, .resume l a, .stop l a] : List Instr),
        ∃ t, exec c s = .next t ∧ t.device.answered .notLoaded ∧ s.device.SamePlant t.device ∧
          t.device.charter = s.device.charter)

/-- LOCK_LIMITS in WATCH sets the limit lock and answers DONE (R184). -/
def Obligations.LockLimitsSetsTheLock : Prop :=
  ∀ (a : Byte) (s : State), s.takesRequest → s.device.charter.mode = .watch →
    ∃ t, exec (.lockLimits a) s = .next t ∧ s.requestStored t .general .lockLimits a ∧ t.device.answered .done ∧
      t.device.charter = { s.device.charter with lock := true } ∧ s.device.SamePlant t.device ∧
      s.device.SameClock t.device ∧ s.device.SameRing t.device

/-- TRIP in WATCH sets the latch with STATION_TRIP when it is CLEAR, with the claims and the pump deadline of each line that
trips, as they meet its transactions (R123 to R125; log 34), leaves it and its first cause when it is SET, and answers DONE
(R89 to R91, R96). -/
def Obligations.TripSetsTheLatch : Prop :=
  ∀ (a : Byte) (s : State), s.takesRequest → s.device.charter.mode = .watch →
    ∃ t, exec (.trip a) s = .next t ∧ s.requestStored t .general .trip a ∧ t.device.answered .done ∧
      (if s.device.shutdown.latch = true then t.device.shutdown = s.device.shutdown ∧ s.device.SameLines t.device
       else s.device.latchSet t.device .stationTrip 0 0 ∧ s.device.tripsReported t.device) ∧
      t.device.tanks = s.device.tanks ∧ t.device.stills = s.device.stills ∧ t.device.valves = s.device.valves ∧
      t.device.charter = s.device.charter ∧ s.device.SameClock t.device ∧ s.device.SameRing t.device

/-- TRIP_RESET in WATCH with the latch SET, the ship loop HEALTHY and no line TRIPPING clears the latch, drives the barge
loop HEALTHY, and sends every TRIPPED line to CLOSING, with the claims of its valves, from where it may go on to FREE (R24,
R26, R28, R97, R98). -/
def Obligations.TripResetClearsTheLatch : Prop :=
  ∀ (a : Byte) (s : State), s.takesRequest → s.device.charter.mode = .watch → s.device.shutdown.latch = true →
    s.device.shutdown.shipLoop = .healthy → (∀ l, (s.device.line l).state ≠ .tripping) →
    ∃ t, exec (.tripReset a) s = .next t ∧ s.requestStored t .general .tripReset a ∧ t.device.answered .done ∧
      t.device.shutdown.latch = false ∧ t.device.shutdown.first = none ∧ t.device.shutdown.firstLine = 0 ∧
      t.device.shutdown.firstSubject = 0 ∧ t.device.shutdown.bargeLoop = .healthy ∧
      (∀ l, if (s.device.line l).state = .tripped then
          s.device.closingTaken t.device l (s.device.line l).stopCause
        else t.device.line l = s.device.line l) ∧
      (s.device.shutdown.tankAlarm = false → s.device.shutdown.valveAlarm = false →
        t.device.shutdown.alarmPending = false ∧ t.device.shutdown.hornSounding = false) ∧
      t.device.stills = s.device.stills ∧ t.device.valves = s.device.valves ∧
      t.device.charter = s.device.charter ∧ s.device.SameClock t.device ∧ s.device.SameRing t.device

/-- TRIP_RESET, handled in a mode other than LOADING, is refused with the first of R97's conditions that fails, and
changes no shutdown unit item then; it is taken when all of them hold (R97). -/
def Obligations.TripResetIsJudged : Prop :=
  ∀ (a : Byte) (r : Result) (s : State), s.takesRequest → s.device.charter.mode ≠ .loading →
    r = (if s.device.charter.mode ≠ .watch then .notLoaded
      else if s.device.shutdown.latch = false then .wrongState
      else if s.device.shutdown.shipLoop = .broken then .loopBroken
      else if (s.device.line .l1).state = .tripping ∨ (s.device.line .l2).state = .tripping ∨
        (s.device.line .l3).state = .tripping then .linesActive
      else .done) →
    ∃ t, exec (.tripReset a) s = .next t ∧ t.device.answered r ∧
      (r ≠ .done → s.device.SamePlant t.device ∧ t.device.charter = s.device.charter) ∧ s.device.SameClock t.device

/-- SILENCE in WATCH turns the horn OFF, leaves alarm-pending and everything else of the plant, and answers DONE, also when
the horn was OFF; in PASSIVE it answers NOT_LOADED, and in LOADING it waits in the queue (R101). -/
def Obligations.SilenceTurnsTheHornOff : Prop :=
  ∀ (a : Byte) (s : State), s.takesRequest →
    (s.device.charter.mode = .watch →
      ∃ t, exec (.silence a) s = .next t ∧ s.requestStored t .general .silence a ∧ t.device.answered .done ∧
        t.device.shutdown = { s.device.shutdown with hornSounding := false } ∧ s.device.SameLines t.device ∧
        t.device.tanks = s.device.tanks ∧ t.device.nodes = s.device.nodes ∧ t.device.link = s.device.link ∧
        t.device.charter = s.device.charter ∧ s.device.SameClock t.device ∧ s.device.SameRing t.device) ∧
    (s.device.charter.mode = .passive →
      ∃ t, exec (.silence a) s = .next t ∧ t.device.answered .notLoaded ∧ s.device.SamePlant t.device ∧
        t.device.charter = s.device.charter) ∧
    (s.device.charter.mode = .loading →
      ∃ t, exec (.silence a) s = .next t ∧ s.requestStored t .general .silence a ∧
        t.device.requests.phase = .untaken ∧ t.device.jobs.result = s.device.jobs.result ∧
        s.device.SamePlant t.device ∧ t.device.charter = s.device.charter)

/-! ## Demand words, the consumer index and upstream accesses (R43, R150 to R157, R170, R174, R175) -/

/-- A rate demand of a fitted line in WATCH is clamped, taken as the requested rate, and stored as taken (R43). -/
def Obligations.RateDemandIsTaken : Prop :=
  ∀ (l : Line) (v : Word) (s : State), s.mem.wf = true → s.device.upstreamFree = true →
    s.device.charter.mode = .watch → (s.device.line l).fitted = true →
    ∃ t, exec (.rateDemandWrite l v) s = .next t ∧
      t.device.governor l = { s.device.governor l with requested := (s.device.limits l).clampRate v } ∧
      storesOnly s.mem t.mem (s.device.address (rateOffset l)) [BitVec.ofNat 32 ((s.device.limits l).clampRate v)] ∧
      t.device.port.reply = some ⟨.rewrite, 0⟩ ∧ s.device.SameOtherLines l t.device ∧
      t.device.lines = s.device.lines ∧ t.device.nodes = s.device.nodes ∧ t.device.tanks = s.device.tanks ∧
      t.device.shutdown = s.device.shutdown ∧ t.device.requests = s.device.requests ∧
      t.device.charter = s.device.charter ∧ s.device.SameClock t.device ∧ s.device.SameRing t.device

/-- A demand that is refused in WATCH is suppressed: memory and the plant are unchanged, and DEMAND_REFUSED gives the
line, the valve's node, the cause, the value and the target in force (R43, R170). -/
def Obligations.RefusedDemandsAreSuppressed : Prop :=
  ∀ (l : Line) (r : Role) (v : Word) (s : State), s.device.upstreamFree = true → s.device.charter.mode = .watch →
    s.device.reportsFlow →
    ((s.device.line l).fitted = false →
      ∃ t, exec (.rateDemandWrite l v) s = .next t ∧ t.mem = s.mem ∧ t.device.port.reply = some ⟨.suppress, 0⟩ ∧
        s.device.SamePlant t.device ∧ t.device.charter = s.device.charter ∧
        t.device.reportWaits ⟨.demandRefused, lineNumber l, 0, .refusal .notFitted, v, 0, s.device.time, .none⟩) ∧
    (∀ cause, s.device.valveRefusal l v = some cause →
      ∃ t, exec (.valveDemandWrite l r v) s = .next t ∧ t.mem = s.mem ∧ t.device.port.reply = some ⟨.suppress, 0⟩ ∧
        s.device.SamePlant t.device ∧ t.device.charter = s.device.charter ∧
        t.device.reportWaits ⟨.demandRefused, lineNumber l, s.device.valveSubject l r, .refusal cause, v,
          s.device.shownTarget l r, s.device.time, .none⟩)

/-- A valve demand of 0 or 100 for a fitted FREE line in WATCH, with the latch CLEAR or the value 0, is passed, and makes its
STATION MOVE claim (R170). With both of the valve's slots empty the MOVE goes in flight and gives the target in force; behind a
transaction in flight it is merged, queued in the place of a queued claim, or dropped behind a queued ESD claim, with the
CLAIM_DROPPED report, and the target in force stands (R119 to R121, R125). A claim waits only behind a transaction in flight
(R132). -/
def Obligations.ValveDemandIsTaken : Prop :=
  ∀ (l : Line) (r : Role) (v : Word) (n : NodeNo) (g : Target) (s : State), s.mem.wf = true →
    s.device.upstreamFree = true → s.device.charter.mode = .watch → (s.device.line l).fitted = true →
    (s.device.line l).state = .free → (v = 0 ∨ v = 100 ∧ s.device.shutdown.latch = false) →
    s.device.valveOf l r = some n → ((s.device.node n).inFlight = none → (s.device.node n).queued = none) →
    g = (if v = 0 then .closed else .opened) →
    ∃ t, exec (.valveDemandWrite l r v) s = .next t ∧
      storesOnly s.mem t.mem (s.device.address (valveOffset l r)) [v] ∧ t.device.port.reply = some ⟨.pass, 0⟩ ∧
      s.device.moveClaimed t.device l r g .station ∧
      (s.device.reportsFlow → s.device.claimReported t.device (some n) ⟨.move g, .station⟩) ∧
      t.device.targets.get n =
        (if (s.device.node n).inFlight = none then ⟨g, false⟩ else s.device.targets.get n) ∧
      (∀ m, m ≠ n → t.device.node m = s.device.node m ∧ t.device.targets.get m = s.device.targets.get m) ∧
      t.device.stills = s.device.stills ∧ t.device.valves = s.device.valves ∧
      s.device.SameLines t.device ∧ t.device.tanks = s.device.tanks ∧ t.device.shutdown = s.device.shutdown ∧
      t.device.requests = s.device.requests ∧ t.device.charter = s.device.charter ∧ s.device.SameClock t.device ∧
      s.device.SameRing t.device

/-- A full write of the consumer index in WATCH is passed and taken when its value lies from the index in force to the
producer index, and sets the interrupt; any other value is suppressed with BAD_WRITE; outside WATCH the word is passed and
the consumer index stands (R174, R175). That an accepted write of the index in force sets the interrupt too, also while memory
shows the producer index from before a station reset, is the model's choice (log 18). -/
def Obligations.ConsumerIndexIsJudged : Prop :=
  ∀ (v : Word) (c p : Nat) (s : State), s.mem.wf = true → s.device.upstreamFree = true →
    c = s.device.reports.consumer → p = s.device.reports.producer →
    (s.device.charter.mode = .watch → v.toNat < 64 ∧ (v.toNat + 64 - c) % 64 ≤ (p + 64 - c) % 64 →
      ∃ t, exec (.consumerIndexWrite v) s = .next t ∧ t.device.reports.consumer = v.toNat ∧
        t.device.reports.interrupt = decide (s.device.reports.producerInMemory ≠ v.toNat) ∧
        storesOnly s.mem t.mem (s.device.address consumerOffset) [v] ∧ t.device.port.reply = some ⟨.pass, 0⟩ ∧
        t.device.reports.producer = p ∧ s.device.SamePlant t.device ∧
        t.device.charter = s.device.charter ∧ t.device.requests = s.device.requests) ∧
    (s.device.charter.mode = .watch → ¬(v.toNat < 64 ∧ (v.toNat + 64 - c) % 64 ≤ (p + 64 - c) % 64) →
      s.device.reportsFlow →
      ∃ t, exec (.consumerIndexWrite v) s = .next t ∧ t.mem = s.mem ∧ s.device.SameRing t.device ∧
        t.device.port.reply = some ⟨.suppress, 0⟩ ∧ s.device.SamePlant t.device ∧
        t.device.charter = s.device.charter ∧
        t.device.reportWaits ⟨.badWrite, 0, 0, .none, 0x1240, 4, s.device.time, .none⟩) ∧
    (s.device.charter.mode ≠ .watch →
      ∃ t, exec (.consumerIndexWrite v) s = .next t ∧ s.device.SameRing t.device ∧
        storesOnly s.mem t.mem (s.device.address consumerOffset) [v] ∧ t.device.port.reply = some ⟨.pass, 0⟩ ∧
        s.device.SamePlant t.device ∧ t.device.charter = s.device.charter ∧
        t.device.requests = s.device.requests)

/-- A granted upstream read is passed: memory's word comes back, and nothing is stored (R152). An access that the arbiter
cannot grant now waits behind those raised before it, and nothing else changes; when the choice falls to the station, the
accesses that wait are granted in the order they were raised, each as its own event, as a read that waits for the end of a
burst is (R157, R158). That a read's byte enables do not matter is the model's choice (log 47), and so are that a grant to
the internal master is made at its own row alone (log 9) and that a write job which R185 keeps back does not count as
waiting at the arbiter, where R159 has the internal master wait with any pending job (log 10). -/
def Obligations.UpstreamReadsArePassedOrWait : Prop :=
  (∀ (a : Access) (s : State),
    exec (.upstreamGrant a) s = .next (s.withWaiting (s.device.port.waiting ++ [a])).arbitrate ∧
    (s.device.stationFirst = false →
      exec (.upstreamGrant a) s = .next (s.withWaiting (s.device.port.waiting ++ [a]))) ∧
    (a.write = false → s.device.upstreamFree = true →
      ∃ t, exec (.upstreamGrant a) s = .next t ∧ t.mem = s.mem ∧
        t.device.port.reply = some ⟨.pass, s.mem.readWord (wordAddress a.addr)⟩ ∧ s.device.SamePlant t.device ∧
        t.device.charter = s.device.charter ∧ t.device.requests = s.device.requests ∧ s.device.SameClock t.device ∧
        s.device.SameRing t.device)) ∧
  (∀ s : State,
    (s.device.port.waiting = [] ∨ s.device.stationFirst = false → s.arbitrate = s) ∧
    (∀ a rest, s.device.port.waiting = a :: rest → s.device.stationFirst = true →
      s.arbitrate = ((s.withWaiting rest).grantAccess a).settle.arbitrate) ∧
    (s.device.stationFirst = true ↔
      s.device.port.burst = none ∧ (s.device.nextJob = none ∨ s.device.port.waitCount ≠ 4))) ∧
  ∀ (a : Access) (s : State), s.device.port.burst = some (.entry false) → s.device.port.waiting = [a] →
    a.write = false → s.device.port.waitCount < 4 → s.device.port.writesOpen = true →
    ∃ t, exec .reportEntryDone s = .next t ∧ t.mem = s.mem ∧ t.device.port.waiting = [] ∧
      t.device.port.reply = some ⟨.pass, s.mem.readWord (wordAddress a.addr)⟩ ∧
      t.device.port.waitCount = s.device.port.waitCount + 1 ∧ s.device.SamePlant t.device ∧
      t.device.charter = s.device.charter ∧ t.device.requests = s.device.requests ∧ s.device.SameClock t.device

/-- A granted upstream write is passed outside the window, and in the window to an unlocked charter, to the plan of a FREE
line whose OPEN is not being handled, to unused words, and outside WATCH to every word but the requests: it stores the
enabled bytes and no other (R152 to R155). -/
def Obligations.PassedWritesStoreTheEnabledBytes : Prop :=
  ∀ (a : Access) (s : State), a.write = true → s.mem.wf = true → s.device.upstreamFree = true →
    (match windowOffset s.device.strap (wordAddress a.addr) with
      | none => True
      | some off => match areaOf off with
        | .charter => s.device.charter.lock = false
        | .request _ => False
        | .unused => True
        | .plan l => s.device.charter.mode = .watch →
          (s.device.line l).state = .free ∧ s.device.openHandled l = false
        | _ => s.device.charter.mode ≠ .watch) →
    ∃ t, exec (.upstreamGrant a) s = .next t ∧ t.device.port.reply = some ⟨.pass, 0⟩ ∧
      (∀ b, t.mem.read b =
        if wordAddress a.addr ≤ b ∧ b ≤ wordAddress a.addr + 3 ∧ a.enables.getLsbD (b - wordAddress a.addr) = true then
          wordByte a.data (b - wordAddress a.addr)
        else s.mem.read b) ∧
      s.device.SamePlant t.device ∧ t.device.charter = s.device.charter ∧ t.device.requests = s.device.requests ∧
      s.device.SameClock t.device ∧ s.device.SameRing t.device

/-- A granted upstream write to a locked charter in every mode, and in WATCH to the plan of a line that is not FREE or whose
OPEN is being handled and to every word that the device keeps, is suppressed: nothing changes (R152, R153, R184). -/
def Obligations.SuppressedWritesStoreNothing : Prop :=
  ∀ (a : Access) (off : Nat) (s : State), a.write = true → s.device.upstreamFree = true →
    windowOffset s.device.strap (wordAddress a.addr) = some off →
    (match areaOf off with
      | .charter => s.device.charter.lock = true
      | .plan l => s.device.charter.mode = .watch ∧
        ((s.device.line l).state ≠ .free ∨ s.device.openHandled l = true)
      | .kept => s.device.charter.mode = .watch
      | _ => False) →
    ∃ t, exec (.upstreamGrant a) s = .next t ∧ t.mem = s.mem ∧ t.device.port.reply = some ⟨.suppress, 0⟩ ∧
      s.device.SamePlant t.device ∧ t.device.charter = s.device.charter ∧ t.device.requests = s.device.requests ∧
      s.device.SameClock t.device ∧ s.device.SameRing t.device

/-- A partial write to a request word in every mode, and in WATCH to a demand word or the consumer index, is suppressed,
taken by no block, and reported with its offset and its number of enabled bytes (R155). -/
def Obligations.PartialWritesAreRefused : Prop :=
  ∀ (a : Access) (off : Nat) (s : State), a.write = true → a.enables ≠ 15#4 → s.device.upstreamFree = true →
    s.device.reportsFlow → windowOffset s.device.strap (wordAddress a.addr) = some off →
    (match areaOf off with
      | .request _ => True
      | .rateDemand _ | .valveDemand _ _ | .consumer => s.device.charter.mode = .watch
      | _ => False) →
    ∃ t, exec (.upstreamGrant a) s = .next t ∧ t.mem = s.mem ∧ t.device.port.reply = some ⟨.suppress, 0⟩ ∧
      s.device.SamePlant t.device ∧ t.device.charter = s.device.charter ∧ t.device.requests = s.device.requests ∧
      s.device.SameRing t.device ∧
      t.device.reportWaits ⟨.badWrite, 0, 0, .none, BitVec.ofNat 32 off, BitVec.ofNat 32 (activeEnables a.enables),
        s.device.time, .none⟩

/-! ## The internal master (R157 to R165, R173 to R175) -/

/-- The grant of a refresh writes the unit's record at its offset, and nowhere else, and clears its changed mark (R157,
R160). The status record's mark is set again only when the end of the event changes the bus mode or the overrun count, which
it shows (DEDUCED, log 19); its refresh puts the producer index into memory (R175), and the interrupt follows it (DEDUCED,
log 18). That the whole burst is in memory and the port free at the grant is the model's choice (log 8): the accesses that
wait are chosen from next. What a record shows of absent values beyond R186 is logs 43, 44 and 51. -/
def Obligations.RefreshWritesTheUnit : Prop :=
  ∀ (u : RefreshUnit) (s : State), s.mem.wf = true → s.device.grantable = some (.refresh u) →
    ∃ t : State, exec .internalJobGrant s = .next t.arbitrate ∧
      storesOnly s.mem t.mem (s.device.address (unitOffset u)) (s.device.unitWords u) ∧
      (u ≠ .status → t.device.marks.get u = false ∧
        t.device.reports.producerInMemory = s.device.reports.producerInMemory) ∧
      (u = .status → t.device.marks.get u = decide (t.device.bus.mode ≠ s.device.bus.mode ∨
          t.device.reports.overrun ≠ s.device.reports.overrun) ∧
        t.device.reports.producerInMemory = s.device.reports.producer ∧
        t.device.reports.interrupt = decide (s.device.charter.mode = .watch ∧
          s.device.reports.producer ≠ s.device.reports.consumer)) ∧
      t.device.port = { s.device.port with waitCount := 0 } ∧ s.device.SamePlant t.device ∧
      t.device.charter = s.device.charter ∧ t.device.requests = s.device.requests ∧ s.device.SameClock t.device

/-- The grant of a report entry writes its eight words at the producer's slot of the ring; the grant of a read takes the
port; the grant of the consumer index writes it (R158, R161, R163, R173). That the entry's words reach memory at the grant
is the model's choice (log 21), and so is that the port is free after the consumer index's one word (log 8). -/
def Obligations.GrantsStartTheirBursts : Prop :=
  ∀ (s : State), s.mem.wf = true → s.device.reports.producer < Config.ringSlots →
    (∀ r, s.device.grantable = some (.entry r) →
      ∃ t, exec .internalJobGrant s = .next t ∧
        storesOnly s.mem t.mem (s.device.address (ringOffset s.device.reports.producer)) r.words ∧
        t.device.port.burst = some (.entry false) ∧ t.device.jobs.entry = none ∧ t.device.port.waitCount = 0 ∧
        t.device.port.waiting = s.device.port.waiting ∧ s.device.SamePlant t.device ∧
        t.device.charter = s.device.charter) ∧
    (∀ j, s.device.grantable = some (.read j) →
      ∃ t, exec .internalJobGrant s = .next t ∧ t.mem = s.mem ∧ t.device.port.burst = some (.read j) ∧
        t.device.jobs.reads = s.device.jobs.reads.tail ∧ t.device.port.waitCount = 0 ∧
        t.device.port.waiting = s.device.port.waiting ∧ s.device.SamePlant t.device ∧
        t.device.charter = s.device.charter) ∧
    (s.device.grantable = some .consumer →
      ∃ t : State, exec .internalJobGrant s = .next t.arbitrate ∧
        storesOnly s.mem t.mem (s.device.address consumerOffset) [BitVec.ofNat 32 s.device.reports.consumer] ∧
        t.device.jobs.consumer = false ∧ t.device.port.waitCount = 0 ∧
        t.device.port.waiting = s.device.port.waiting ∧ s.device.SamePlant t.device ∧
        t.device.charter = s.device.charter)

/-- The result write of the request in hand puts its kind, argument and result into its word; the request leaves the queue,
and the next one, whichever it is, is taken in the same event, unless the mode is LOADING: it is answered at once, or waits
for its plan read or its load, and has its effect (R97, R162, R165, R166, R168, R169, R184, R185). A request write while 8
are queued is answered QUEUE_FULL and changes nothing else (R164); one whose kind its word does not take is queued and
answered UNKNOWN_KIND (R166). That the port is free again at the grant of the one word is the model's choice (log 8). -/
def Obligations.ResultWriteAnswersTheRequest : Prop :=
  (∀ (q : Request) (rest : List Request) (r : Result) (s : State), s.mem.wf = true →
    s.device.grantable = some (.result r) → s.device.requests.queue = q :: rest →
    ∃ t : State, exec .resultWrite s = .next t.arbitrate ∧
      storesOnly s.mem t.mem (s.device.address (requestOffset q.word)) [requestWordOf q.kind q.argument r] ∧
      t.device.requests.queue = rest ∧ t.device.port.writesOpen = true ∧ t.device.port.waitCount = 0 ∧
      t.device.port.waiting = s.device.port.waiting ∧ s.device.SameClock t.device ∧
      (rest = [] ∨ s.device.charter.mode = .loading →
        t.device.requests.phase = .untaken ∧ t.device.jobs.result = none ∧ s.device.SamePlant t.device ∧
        t.device.charter = s.device.charter ∧ s.device.SameRing t.device) ∧
      (∀ next later, rest = next :: later → s.device.charter.mode ≠ .loading →
        t.device.requests.phase ≠ .untaken ∧
        (next.asked = none → t.device.answered .unknownKind ∧ s.device.SamePlant t.device ∧
          t.device.charter = s.device.charter ∧ s.device.SameRing t.device) ∧
        (s.device.charter.mode = .passive → next.asked ≠ none → next.asked ≠ some .loadCharter →
          t.device.answered .notLoaded ∧ s.device.SamePlant t.device ∧ t.device.charter = s.device.charter ∧
          s.device.SameRing t.device) ∧
        (s.device.charter.mode = .passive → next.asked = some .loadCharter →
          s.device.requestTaken t.device .loadCharter ∧ t.device.jobs.result = none) ∧
        (s.device.charter.mode = .watch → ∀ a, next.asked = some a →
          (match s.device.resultInWatch a with
            | some d => t.device.answered d ∧
              (if d = .done then s.device.requestTaken t.device a
               else s.device.SamePlant t.device ∧ t.device.charter = s.device.charter)
            | none => t.device.jobs.result = none ∧ s.device.requestTaken t.device a) ∧
          (a ≠ .loadCharter ∨ s.device.resultInWatch a ≠ none → s.device.SameRing t.device)))) ∧
  (∀ (l : Line) (a : Byte) (s : State), s.mem.wf = true → s.device.upstreamFree = true →
    8 ≤ s.device.requests.queue.length →
    ∀ x ∈ ([(.openLine l a, .line l, .openLine), (.hold l a, .line l, .hold), (.resume l a, .line l, .resume),
        (.stop l a, .line l, .stop), (.loadCharter a, .general, .loadCharter), (.lockLimits a, .general, .lockLimits),
        (.trip a, .general, .trip), (.tripReset a, .general, .tripReset), (.silence a, .general, .silence)] :
          List (Instr × RequestWord × RequestKind)),
      ∃ t, exec x.1 s = .next t ∧
        storesOnly s.mem t.mem (s.device.address (requestOffset x.2.1))
          [requestWordOf (kindCode x.2.2) a .queueFull] ∧
        t.device.port.reply = some ⟨.rewrite, 0⟩ ∧ t.device.requests = s.device.requests ∧
        t.device.jobs.result = s.device.jobs.result ∧ t.device.jobs.reads = s.device.jobs.reads ∧
        s.device.SamePlant t.device ∧ t.device.charter = s.device.charter ∧ s.device.SameClock t.device ∧
        s.device.SameRing t.device) ∧
  ∀ (w : RequestWord) (v : Word) (q : Request) (s : State), s.takesRequest → s.device.charter.mode ≠ .loading →
    q = ⟨w, wordByte v 0, wordByte v 1, s.device.time⟩ → q.asked = none →
    ∃ t, exec (.upstreamGrant (fullWrite s.device.strap (requestOffset w) v)) s = .next t ∧
      storesOnly s.mem t.mem (s.device.address (requestOffset w)) [requestWordOf q.kind q.argument .pending] ∧
      t.device.port.reply = some ⟨.rewrite, 0⟩ ∧ t.device.requests.queue = [q] ∧
      t.device.answered .unknownKind ∧ s.device.SamePlant t.device ∧ t.device.charter = s.device.charter ∧
      s.device.SameClock t.device ∧ s.device.SameRing t.device

/-- The producer index write puts the producer index into memory, and the interrupt is HIGH in WATCH exactly when the index
in memory differs from the consumer index (R161, R175). That the port is free again at the grant of the one word is the
model's choice (log 8). -/
def Obligations.ProducerIndexWriteShowsTheEntries : Prop :=
  ∀ (s : State), s.mem.wf = true → s.device.grantable = some .producer →
    ∃ t : State, exec .producerIndexWrite s = .next t.arbitrate ∧
      storesOnly s.mem t.mem (s.device.address producerOffset) [BitVec.ofNat 32 s.device.reports.producer] ∧
      t.device.reports.producerInMemory = s.device.reports.producer ∧ t.device.jobs.producer = false ∧
      t.device.port = { s.device.port with waitCount := 0 } ∧
      t.device.reports.interrupt =
        decide (s.device.charter.mode = .watch ∧ s.device.reports.producer ≠ s.device.reports.consumer) ∧
      t.device.reports.producer = s.device.reports.producer ∧
      t.device.reports.consumer = s.device.reports.consumer ∧ s.device.SamePlant t.device ∧
      t.device.charter = s.device.charter ∧ t.device.requests = s.device.requests ∧ s.device.SameClock t.device

/-- The end of a report entry advances the producer index modulo 64 and asks the producer index write; memory is unchanged
(R161, R173). The end of an entry whose burst a station reset has crossed frees the port, and advances and asks nothing
(R163; that it advances nothing is DEDUCED, log 11). -/
def Obligations.ReportEntryDoneAdvancesTheProducer : Prop :=
  (∀ (s : State), s.device.port.burst = some (.entry false) →
    ∃ t : State, exec .reportEntryDone s = .next t.arbitrate ∧ t.mem = s.mem ∧
      t.device.reports.producer = (s.device.reports.producer + 1) % 64 ∧ t.device.jobs.producer = true ∧
      t.device.port = { s.device.port with burst := none } ∧
      t.device.reports.consumer = s.device.reports.consumer ∧
      t.device.reports.producerInMemory = s.device.reports.producerInMemory ∧ s.device.SamePlant t.device ∧
      t.device.charter = s.device.charter ∧ t.device.requests = s.device.requests ∧ s.device.SameClock t.device) ∧
  ∀ (s : State), s.device.port.burst = some (.entry true) →
    ∃ t : State, exec .reportEntryDone s = .next t.arbitrate ∧ t.mem = s.mem ∧
      t.device.port = { s.device.port with burst := none } ∧ s.device.SameRing t.device ∧
      s.device.SamePlant t.device ∧ t.device.charter = s.device.charter ∧ t.device.requests = s.device.requests ∧
      s.device.SameClock t.device

/-! ## The ends of the plan read and of the charter reads (R4, R65, R165, R167, R179 to R183) -/

/-- An OPEN whose conditions all hold, for a line without tanks whose plan lists no tank that its volume or its alarm makes
HIGH or OVERFILL, and whose DISCHARGE is not OPEN, is answered DONE and starts the lineup: it claims DISCHARGE OPEN, and RETURN
CLOSED and STRIP CLOSED where they are not CLOSED (R3, R4, R5, R65, R167). -/
def Obligations.AnAcceptedOpenStartsTheLineup : Prop :=
  ∀ (l : Line) (s : State), s.device.port.burst = some (.read (.plan l false)) →
    s.device.openRefusal l (s.planRead l) = none →
    (∀ k e, s.device.tank k = some e → e.assigned ≠ some l) →
    (∀ k e, k ∈ (s.planRead l).tanks → s.device.tank k = some e →
      e.levelState (some (s.device.limits l).toppingVolume) ≠ .high ∧
      e.levelState (some (s.device.limits l).toppingVolume) ≠ .overfill) →
    s.device.valveIs l .discharge .opened = false →
    ∃ t : State, exec .planReadDone s = .next t.arbitrate ∧ t.mem = s.mem ∧ t.device.answered .done ∧
      t.device.port = { s.device.port with burst := none } ∧
      (t.device.line l).state = .lineup ∧ (t.device.line l).step = .dischargeOpening ∧
      (t.device.line l).nominated = (s.planRead l).nominated ∧ (t.device.line l).base = s.device.meterTotal l ∧
      (t.device.line l).hold = .empty ∧ (t.device.line l).stopCause = none ∧ (t.device.line l).stripFlag = false ∧
      (t.device.line l).stripResult = .none ∧ (t.device.line l).entry = s.device.time ∧
      (t.device.line l).deadline = some (s.device.secondsOn (s.device.limits l).lineupLimit) ∧
      (t.device.governor l).delivered = 0 ∧ (t.device.governor l).allowed = 0 ∧
      s.device.moveClaimed t.device l .discharge .opened .sequence ∧
      (s.device.valveIs l .returnValve .closed = false →
        s.device.moveClaimed t.device l .returnValve .closed .sequence) ∧
      (s.device.valveIs l .strip .closed = false → s.device.moveClaimed t.device l .strip .closed .sequence) ∧
      (∀ k, k ∈ (s.planRead l).tanks → t.device.tankHas k (fun e => decide (e.assigned = some l)) = true) ∧
      s.device.SameOtherLines l t.device ∧ t.device.stills = s.device.stills ∧ t.device.valves = s.device.valves ∧
      t.device.shutdown = s.device.shutdown ∧ t.device.charter = s.device.charter ∧ s.device.SameClock t.device ∧
      s.device.SameRing t.device

/-- An OPEN is refused with the first of R167's conditions that fails, and changes nothing of the plant; a plan read whose
OPEN a station reset dropped frees the port and does nothing else (R165, R167). -/
def Obligations.ARefusedOrDroppedOpenChangesNothing : Prop :=
  ∀ (l : Line) (s : State),
    (∀ r, s.device.port.burst = some (.read (.plan l false)) → s.device.openRefusal l (s.planRead l) = some r →
      ∃ t : State, exec .planReadDone s = .next t.arbitrate ∧ t.mem = s.mem ∧ t.device.answered r ∧
        t.device.port = { s.device.port with burst := none } ∧
        s.device.SamePlant t.device ∧ t.device.charter = s.device.charter ∧ s.device.SameClock t.device ∧
        s.device.SameRing t.device) ∧
    (s.device.port.burst = some (.read (.plan l true)) →
      ∃ t : State, exec .planReadDone s = .next t.arbitrate ∧ t.mem = s.mem ∧
        t.device.port = { s.device.port with burst := none } ∧ s.device.SamePlant t.device ∧
        t.device.charter = s.device.charter ∧ t.device.requests = s.device.requests ∧
        t.device.jobs.result = s.device.jobs.result ∧ s.device.SameClock t.device)

/-- A charter read job before the 32nd adds its words to the working copy and runs them through the CRC (R162, R179). -/
def Obligations.ACharterReadFillsTheWorkingCopy : Prop :=
  ∀ (i : Nat) (s : State), s.device.port.burst = some (.read (.charter i)) → i + 1 < 32 →
    ∃ t : State, exec .charterReadDone s = .next t.arbitrate ∧ t.mem = s.mem ∧
      t.device.charter = { s.device.charter with
        working := s.device.charter.working ++ s.mem.readWords (s.device.address (0x80 * i)) 32,
        progress := s.device.charter.progress + 32,
        runningCrc := crc32Words s.device.charter.runningCrc (s.mem.readWords (s.device.address (0x80 * i)) 32) } ∧
      t.device.port = { s.device.port with burst := none } ∧ s.device.SamePlant t.device ∧
      t.device.requests = s.device.requests ∧ s.device.SameClock t.device ∧ s.device.SameRing t.device

/-- The 32nd charter read job of a charter that passes enters WATCH with that charter in force (R2, R30, R44, R48, R73,
R103, R117, R149, R160, R182). The LOAD_CHARTER in hand is answered DONE; when a station reset has dropped it, write jobs may
be granted from then on, and the oldest request that has arrived is taken in WATCH (R163, R165, R166, R185). The record of a
node of kind NONE is the model's choice (log 6). -/
def Obligations.AGoodLoadEntersWatch : Prop :=
  (∀ (s : State) (ws : List Word), s.device.port.burst = some (.read (.charter 31)) →
    ws = s.device.charter.working ++ s.charterWords 31 →
    judgeCharter (crc32Words s.device.charter.runningCrc ((s.charterWords 31).take 31)) ws = .good →
    (s.device.requests.phase = .load ∨ s.device.requests.phase = .untaken ∧ s.device.requests.queue = []) →
    ∃ t : State, exec .charterReadDone s = .next t.arbitrate ∧ t.mem = s.mem ∧
      (if s.device.requests.phase = .load then
        t.device.port = { s.device.port with burst := none } ∧ t.device.answered .done
       else t.device.port = { s.device.port with burst := none, writesOpen := true } ∧
        t.device.requests = s.device.requests ∧ t.device.jobs.result = s.device.jobs.result) ∧
      t.device.charter.mode = .watch ∧ t.device.charter.result = .ok ∧ t.device.charter.detail = 0 ∧
      t.device.charter.crc = crcWord ws ∧ t.device.charter.lock = s.device.charter.lock ∧
      t.device.charter.inForce = some ⟨generalOf ws, ⟨limitsOf ws .l1, limitsOf ws .l2, limitsOf ws .l3⟩⟩ ∧
      (∀ l, (t.device.line l).fitted = decide (lineNumber l ≤ (generalOf ws).fittedLines) ∧
        (t.device.line l).state = (s.device.line l).state ∧
        (t.device.governor l).requested =
          (if lineNumber l ≤ (generalOf ws).fittedLines then (limitsOf ws l).peak else 0) ∧
        t.device.hose l = .reset) ∧
      (∀ k, t.device.tank k = if tankNumber k ≤ (generalOf ws).fittedTanks then
          some { freshTank ws k with lostExpiry := some (s.device.secondsOn (generalOf ws).tankLost) }
        else none) ∧
      (∀ n, t.device.node n = freshNode (nodeEntryOf ws n)) ∧ t.device.link.state = .idle ∧
      t.device.link.taking = true ∧ t.device.link.status = none ∧ t.device.link.statusExpiry = some s.device.time ∧
      t.device.reports.usable = true ∧ t.device.shutdown.latch = s.device.shutdown.latch ∧
      t.device.shutdown.bargeLoop = (if s.device.shutdown.latch = true then .broken else .healthy) ∧
      (∀ u, t.device.marks.get u = true) ∧ s.device.SameClock t.device) ∧
  ∀ (s : State) (ws : List Word) (q : Request) (rest : List Request),
    s.device.port.burst = some (.read (.charter 31)) → ws = s.device.charter.working ++ s.charterWords 31 →
    judgeCharter (crc32Words s.device.charter.runningCrc ((s.charterWords 31).take 31)) ws = .good →
    s.device.requests.phase = .untaken → s.device.requests.queue = q :: rest → s.device.allFree = true →
    ∃ t : State, exec .charterReadDone s = .next t.arbitrate ∧ t.mem = s.mem ∧
      t.device.port = { s.device.port with burst := none, writesOpen := true } ∧
      t.device.requests.queue = s.device.requests.queue ∧ t.device.charter.result = .ok ∧
      t.device.charter.inForce = some ⟨generalOf ws, ⟨limitsOf ws .l1, limitsOf ws .l2, limitsOf ws .l3⟩⟩ ∧
      (match q.asked with
        | none => t.device.answered .unknownKind ∧ t.device.charter.mode = .watch
        | some (.openLine l) => t.device.requests.phase = .planRead ∧ t.device.charter.mode = .watch ∧
          t.device.jobs.reads = s.device.jobs.reads ++ [.plan l false]
        | some .loadCharter => t.device.requests.phase = .load ∧ t.device.charter.mode = .loading ∧
          t.device.charter.progress = 0 ∧ t.device.jobs.reads = s.device.jobs.reads ++ charterReads
        | some .lockLimits => t.device.answered .done ∧ t.device.charter.mode = .watch ∧
          t.device.charter.lock = true
        | some .trip => t.device.answered .done ∧ t.device.charter.mode = .watch ∧
          t.device.shutdown.latch = true ∧ t.device.shutdown.bargeLoop = .broken
        | some .tripReset => t.device.charter.mode = .watch ∧ t.device.answered
          (if s.device.shutdown.latch = false then .wrongState
           else if s.device.shutdown.shipLoop = .broken then .loopBroken else .done)
        | some .silence => t.device.answered .done ∧ t.device.charter.mode = .watch ∧
          t.device.shutdown.hornSounding = false
        | some _ => t.device.answered .wrongState ∧ t.device.charter.mode = .watch) ∧ s.device.SameClock t.device

/-- The 32nd charter read job of a charter that fails enters PASSIVE without a charter, and says why (R48, R103, R149,
R183). The LOAD_CHARTER in hand is answered with why; when a station reset has dropped it, write jobs may be granted from then
on, and the oldest request that has arrived is taken in PASSIVE (R163, R165, R166, R185). The fields of a node record of kind
NONE (log 6) and that a slot in progress is dropped (log 14) are the model's choice. -/
def Obligations.AFailedLoadEntersPassive : Prop :=
  (∀ (s : State) (ws : List Word) (r : LoadResult) (detail : Word),
    s.device.port.burst = some (.read (.charter 31)) → ws = s.device.charter.working ++ s.charterWords 31 →
    judgeCharter (crc32Words s.device.charter.runningCrc ((s.charterWords 31).take 31)) ws = .bad r detail →
    (s.device.requests.phase = .load ∨ s.device.requests.phase = .untaken ∧ s.device.requests.queue = []) →
    ∃ t : State, exec .charterReadDone s = .next t.arbitrate ∧ t.mem = s.mem ∧
      (if s.device.requests.phase = .load then
        t.device.port = { s.device.port with burst := none } ∧ t.device.answered (resultOfLoad r)
       else t.device.port = { s.device.port with burst := none, writesOpen := true } ∧
        t.device.requests = s.device.requests ∧ t.device.jobs.result = s.device.jobs.result) ∧
      t.device.charter.mode = .passive ∧ t.device.charter.inForce = none ∧ t.device.charter.crc = 0 ∧
      t.device.charter.result = r ∧ t.device.charter.detail = detail ∧
      t.device.charter.lock = s.device.charter.lock ∧ (∀ l, (t.device.line l).fitted = false) ∧
      (∀ k, t.device.tank k = none) ∧ (∀ n, t.device.node n = .blank) ∧ t.device.bus.mode = .off ∧
      t.device.bus.slot = none ∧ t.device.link.state = .idle ∧ t.device.link.taking = false ∧
      t.device.shutdown.hornSounding = false ∧ t.device.shutdown.bargeLoop = .broken ∧
      t.device.shutdown.latch = s.device.shutdown.latch ∧ t.device.reports.interrupt = false ∧
      s.device.SameClock t.device) ∧
  ∀ (s : State) (ws : List Word) (r : LoadResult) (detail : Word) (q : Request) (rest : List Request),
    s.device.port.burst = some (.read (.charter 31)) → ws = s.device.charter.working ++ s.charterWords 31 →
    judgeCharter (crc32Words s.device.charter.runningCrc ((s.charterWords 31).take 31)) ws = .bad r detail →
    s.device.requests.phase = .untaken → s.device.requests.queue = q :: rest →
    ∃ t : State, exec .charterReadDone s = .next t.arbitrate ∧ t.mem = s.mem ∧
      t.device.port = { s.device.port with burst := none, writesOpen := true } ∧
      t.device.requests.queue = s.device.requests.queue ∧ t.device.charter.inForce = none ∧
      t.device.charter.result = r ∧ t.device.charter.detail = detail ∧
      (match q.asked with
        | none => t.device.answered .unknownKind ∧ t.device.charter.mode = .passive
        | some .loadCharter => t.device.requests.phase = .load ∧ t.device.charter.mode = .loading ∧
          t.device.charter.progress = 0 ∧ t.device.jobs.reads = s.device.jobs.reads ++ charterReads
        | some _ => t.device.answered .notLoaded ∧ t.device.charter.mode = .passive) ∧ s.device.SameClock t.device

/-! ## The deck bus (R104 to R117, R126, R129, R132 to R135) -/

/-- In WATCH with no frame in progress and 250 ms since the last frame start, a frame starts with the lowest enrolled
node's slot: at the spacing in STEADY, after a long tail or with a frame start held, and after a short tail at the idle
scan expiry and at a pull (R104, R105, R115, R116). The spacing is counted in steps of 50 ms, the model's choice (log 2), and so
is that it counts as passed while there is no last frame start (log 52). -/
def Obligations.FramesStart : Prop :=
  ∀ (n : NodeNo) (s : State), s.device.charter.mode = .watch → s.device.bus.slot = none → s.device.spaced = true →
    (s.device.node n).enrolled = true → (∀ m, m < n → (s.device.node m).enrolled = false) →
    ∀ c : Instr,
      (c = .frameStart ∧
          (s.device.bus.startHeld = true ∨ s.device.bus.mode = .steady ∨ s.device.bus.tail = .long) ∨
        c = .idleScanExpiry ∧ s.device.bus.tail = .short ∧ s.device.due s.device.bus.idleScan = true ∨
        c = .busPull ∧ s.device.bus.tail = .short) →
      ∃ t, exec c s = .next t ∧ t.mem = s.mem ∧
        t.device.bus.slot = some ⟨n, messageOf (s.device.node n).inFlight, false⟩ ∧
        t.device.bus.lastStart = some ⟨s.device.time, s.device.half⟩ ∧ t.device.bus.startHeld = false ∧
        t.device.bus.idleScan = none ∧ s.device.SamePlant t.device ∧ s.device.SameStation t.device ∧
        t.device.charter = s.device.charter

/-- The end of a slot in WATCH: the node record takes the answer, the freshness follows the misses, and the next enrolled
node's slot begins, or the tail ends the frame (R104, R105, R108 to R110). A fresh pressure reading of a line that is not
FREE is stored with its band; TRIP and two LOW readings set the latch, STOP stops the line, and readings at the prime
pressure and at strip done end priming and stripping (R76 to R82). A fresh flow reading counts what is delivered, and stops
the line when the nomination is met (R45, R46). A PUMP, PRESSURE or FLOW node that becomes STALE holds its line with
STALE_READING, with its NODE_STALE report, and once the three are FRESH again the hold is cleared, or the line at START_WAIT
starts (R6, R12 to R15, R83, R109; value B of the reports is the model's choice, log 46); the reading that does so is then
judged in the state it has brought (R113). A pump's fault stops its line (R111, R113). A pump takes SPEED alone, and the latch and the sequence agree with the line states, which
StepKeepsTheLatchInvariant states. -/
def Obligations.SlotResultsAreTaken : Prop :=
  (∀ (seen : SlotSeen) (sl : Slot) (o : SlotOutcome) (s : State), s.device.charter.mode = .watch →
    s.device.bus.slot = some sl →
    o = slotOutcome sl.node (s.device.node sl.node).kind sl.message seen →
    ∃ t, exec (.slotResult seen) s = .next t ∧ t.mem = s.mem ∧
      (match o with
        | .answer a =>
          (t.device.node sl.node).inLocal = a.inLocal ∧ (t.device.node sl.node).moving = a.moving ∧
          (t.device.node sl.node).fault = a.fault
        | _ =>
          (t.device.node sl.node).inLocal = (s.device.node sl.node).inLocal ∧
          (t.device.node sl.node).moving = (s.device.node sl.node).moving ∧
          (t.device.node sl.node).fault = (s.device.node sl.node).fault) ∧
      (match o.refreshing with
        | some a =>
          (t.device.node sl.node).readingA = a.readingA ∧ (t.device.node sl.node).misses = 0 ∧
          (t.device.node sl.node).stale = false ∧
          (t.device.node sl.node).readingB =
            (if (s.device.node sl.node).kind = .flow then a.readingB else (s.device.node sl.node).readingB)
        | none =>
          (t.device.node sl.node).readingA = (s.device.node sl.node).readingA ∧
          (t.device.node sl.node).readingB = (s.device.node sl.node).readingB ∧
          (t.device.node sl.node).misses = min 3 ((s.device.node sl.node).misses + 1) ∧
          (t.device.node sl.node).stale =
            ((s.device.node sl.node).stale || decide (2 ≤ (s.device.node sl.node).misses))) ∧
      (∀ m, m ≠ sl.node → t.device.stills m = s.device.stills m) ∧
      (∀ m, (t.device.node m).kind = (s.device.node m).kind ∧ (t.device.node m).line = (s.device.node m).line ∧
        (t.device.node m).role = (s.device.node m).role) ∧
      (match s.device.nextEnrolled sl.node with
        | some m => t.device.bus.slot = some ⟨m, messageOf (t.device.node m).inFlight, false⟩
        | none => t.device.bus.slot = none ∧
          t.device.bus.tail = if t.device.bus.mode = .steady then .long else .short) ∧
      s.device.SameStation t.device ∧ t.device.charter = s.device.charter ∧
      t.device.shutdown.shipLoop = s.device.shutdown.shipLoop) ∧
  (∀ (seen : SlotSeen) (n : NodeNo) (l : Line) (a : Answer) (p : Nat) (b : Band) (s : State),
    s.device.charter.mode = .watch → s.device.bus.slot = some ⟨n, .poll, false⟩ →
    s.device.deviceOf l .pressure = some n → (s.device.node n).inFlight = none →
    ((s.device.node n).stale = true → s.device.freshMoves n l = false) →
    (slotOutcome n .pressure .poll seen).refreshing = some a → (s.device.line l).state ≠ .free → p = a.readingA →
    b = bandOf (s.device.limits l) p →
    ∃ t, exec (.slotResult seen) s = .next t ∧ t.mem = s.mem ∧
      ((t.device.line l).state ≠ .free → (t.device.hose l).pressure = some p ∧
        (t.device.hose l).readingTime = some s.device.time ∧ (t.device.hose l).band = some b) ∧
      (b = .trip → (s.device.hose l).band ≠ some .trip → s.device.shutdown.latch = false →
        s.device.latchSet t.device .pressureTrip (lineNumber l) (nodeAddress n)) ∧
      (b = .stop → (s.device.line l).state.holdable = true → s.device.stopTaken t.device l .pressureStop false) ∧
      (((s.device.line l).state = .delivering ∨ (s.device.line l).state = .topping) →
        (b = .low → (s.device.hose l).lowCount = 0 →
          (t.device.hose l).lowCount = 1 ∧ t.device.line l = s.device.line l) ∧
        (b = .low → (s.device.hose l).lowCount = 1 → s.device.shutdown.latch = false →
          s.device.latchSet t.device .hoseLoss (lineNumber l) (nodeAddress n)) ∧
        (b ≠ .low → (t.device.hose l).lowCount = 0)) ∧
      ((s.device.line l).state = .priming → (s.device.line l).step = .prime → (s.device.hose l).armed = true →
        b ≠ .trip → b ≠ .stop →
        (p < (s.device.limits l).primePressure →
          (t.device.hose l).primingCount = 0 ∧ t.device.line l = s.device.line l) ∧
        ((s.device.limits l).primePressure ≤ p → (s.device.hose l).primingCount = 0 →
          (t.device.hose l).primingCount = 1 ∧ t.device.line l = s.device.line l) ∧
        ((s.device.limits l).primePressure ≤ p → (s.device.hose l).primingCount = 1 →
          (t.device.line l).state = (if (t.device.line l).topping.isEmpty = true then .delivering else .topping) ∧
          (t.device.hose l).armed = false ∧ (t.device.governor l).ceiling = t.device.ceilingOf l ∧
          (t.device.governor l).allowed = min (s.device.limits l).start (t.device.governor l).ceiling)) ∧
      ((s.device.line l).state = .stripping → (s.device.line l).step = .strip → b ≠ .trip → b ≠ .stop →
        p ≤ (s.device.limits l).stripDone → s.device.valveIs l .strip .opened = true →
        s.device.closingTaken t.device l (s.device.line l).stopCause ∧
        ((t.device.line l).state = .closing → (t.device.line l).stripResult = .complete)) ∧
      t.device.tankStills = s.device.tankStills ∧ s.device.SameStation t.device ∧
      t.device.charter = s.device.charter) ∧
  (∀ (seen : SlotSeen) (n : NodeNo) (l : Line) (a : Answer) (now : Word) (s : State),
    s.device.charter.mode = .watch → s.device.bus.slot = some ⟨n, .poll, false⟩ →
    s.device.deviceOf l .flow = some n → (s.device.node n).inFlight = none →
    ((s.device.node n).stale = true → s.device.freshMoves n l = false) →
    (slotOutcome n .flow .poll seen).refreshing = some a → (s.device.line l).state ≠ .free →
    now = (if (s.device.governor l).delivered.toNat < (a.readingB - (s.device.line l).base).toNat then
        a.readingB - (s.device.line l).base else (s.device.governor l).delivered) →
    ∃ t, exec (.slotResult seen) s = .next t ∧ t.mem = s.mem ∧ (t.device.governor l).delivered = now ∧
      ((s.device.line l).nominated.toNat ≤ now.toNat →
        ((s.device.line l).state.running = true → s.device.stopTaken t.device l .nominationMet false) ∧
        ((s.device.line l).state = .lineup → s.device.lineupStopped t.device l .nominationMet)) ∧
      (now.toNat < (s.device.line l).nominated.toNat →
        if (s.device.line l).state = .delivering ∨ (s.device.line l).state = .topping then
          (t.device.line l).state = .delivering ∨ (t.device.line l).state = .topping
        else (t.device.line l).state = (s.device.line l).state) ∧
      s.device.SameOtherLines l t.device ∧ t.device.tankStills = s.device.tankStills ∧
      t.device.shutdown = s.device.shutdown ∧ s.device.SameStation t.device ∧
      t.device.charter = s.device.charter) ∧
  (∀ (seen : SlotSeen) (n : NodeNo) (l : Line) (k : NodeKind) (a : Answer) (s : State),
    s.device.charter.mode = .watch → s.device.latchHolds →
    s.device.bus.slot = some ⟨n, messageOf (s.device.node n).inFlight, false⟩ →
    (k = .pump ∨ k = .pressure ∨ k = .flow) → s.device.deviceOf l k = some n →
    (∀ x, (s.device.node n).inFlight = some x → k = .pump ∧ x.act = .speed (actNumber x.act)) →
    (s.device.node n).stale = true →
    (slotOutcome n k (messageOf (s.device.node n).inFlight) seen).refreshing = some a → (s.device.line l).state ≠ .free →
    (k = .pressure → bandOf (s.device.limits l) a.readingA ≠ .stop ∧
      (bandOf (s.device.limits l) a.readingA = .trip → (s.device.hose l).band = some .trip)) →
    (k = .flow → (s.device.governor l).delivered.toNat < (s.device.line l).nominated.toNat ∧
      (a.readingB - (s.device.line l).base).toNat < (s.device.line l).nominated.toNat) →
    ∃ t, exec (.slotResult seen) s = .next t ∧ t.mem = s.mem ∧ (t.device.node n).stale = false ∧
      (s.device.reportsFlow → t.device.reportWaits ⟨.nodeFresh, lineNumber l, nodeAddress n, .none,
        BitVec.ofNat 32 a.readingA, 0, s.device.time, .none⟩) ∧
      (s.device.freshMoves n l = true →
        ((s.device.line l).state = .held →
          (t.device.line l).hold = (s.device.line l).hold.put .staleReading false ∧
          ((t.device.line l).state =
            if ((s.device.line l).hold.put .staleReading false).isEmpty = true then .priming else .held) ∧
          ((s.device.node n).idle = true → s.device.holdCleared t.device l .staleReading)) ∧
        ((s.device.line l).state = .lineup → (t.device.line l).state = .priming ∧
          ((s.device.node n).idle = true → s.device.primeClaimed t.device l))) ∧
      (s.device.freshMoves n l = false → k = .pump → (s.device.node n).idle = true →
        t.device.line l = s.device.line l) ∧
      (s.device.freshMoves n l = true ∨ k ≠ .pressure → s.device.SameOtherLines l t.device ∧
        ((s.device.node n).inFlight = none → t.device.shutdown = s.device.shutdown)) ∧
      t.device.tankStills = s.device.tankStills ∧ s.device.SameStation t.device ∧
      t.device.charter = s.device.charter) ∧
  (∀ (seen : SlotSeen) (n : NodeNo) (l : Line) (k : NodeKind) (a : Answer) (e : Device) (s : State),
    s.device.charter.mode = .watch → s.device.bus.slot = some ⟨n, .poll, false⟩ →
    (k = .pressure ∨ k = .flow) → s.device.deviceOf l k = some n → (s.device.node n).inFlight = none →
    (s.device.node n).stale = true → (slotOutcome n k .poll seen).refreshing = some a →
    s.device.freshMoves n l = true → e = s.device.freshMoved n l →
    ∃ t, exec (.slotResult seen) s = .next t ∧ t.mem = s.mem ∧
      (k = .pressure → bandOf (s.device.limits l) a.readingA = .trip → (s.device.hose l).band ≠ some .trip →
        s.device.shutdown.latch = false → e.latchSet t.device .pressureTrip (lineNumber l) (nodeAddress n)) ∧
      (k = .pressure → bandOf (s.device.limits l) a.readingA = .stop →
        if (e.line l).state = .priming then e.stopTaken t.device l .pressureStop false
        else t.device.line l = e.line l) ∧
      (k = .flow → ((s.device.line l).nominated.toNat ≤ (s.device.governor l).delivered.toNat ∨
          (s.device.line l).nominated.toNat ≤ (a.readingB - (s.device.line l).base).toNat) →
        e.stopTaken t.device l .nominationMet false) ∧
      t.device.tankStills = s.device.tankStills ∧ s.device.SameStation t.device ∧
      t.device.charter = s.device.charter) ∧
  (∀ (seen : SlotSeen) (n : NodeNo) (l : Line) (k : NodeKind) (o : SlotOutcome) (s : State),
    s.device.charter.mode = .watch → s.device.latchHolds →
    s.device.bus.slot = some ⟨n, messageOf (s.device.node n).inFlight, false⟩ →
    (k = .pump ∨ k = .pressure ∨ k = .flow) → s.device.deviceOf l k = some n →
    (∀ x, (s.device.node n).inFlight = some x → k = .pump ∧ x.act = .speed (actNumber x.act)) →
    (s.device.node n).stale = false →
    2 ≤ (s.device.node n).misses → o = slotOutcome n k (messageOf (s.device.node n).inFlight) seen →
    o.refreshing = none → (s.device.line l).state ≠ .free →
    ∃ t, exec (.slotResult seen) s = .next t ∧ t.mem = s.mem ∧ (t.device.node n).stale = true ∧
      (s.device.reportsFlow → t.device.reportWaits ⟨.nodeStale, lineNumber l, nodeAddress n,
        .stale (match o with
          | .silent => .silent
          | .checkError => .checkError
          | .answer _ => .fault), BitVec.ofNat 32 (s.device.node n).readingA, 0, s.device.time, .none⟩) ∧
      (k ≠ .pump ∨ (∀ a, o ≠ .answer a) →
        ((s.device.line l).state.holdable = true ∨ (s.device.line l).state = .held →
          s.device.holdEntered t.device l .staleReading ∧
          ((s.device.line l).state.holdable = true →
            s.device.moveClaimed t.device l .returnValve .opened .sequence) ∧
          ((s.device.node n).inFlight = none → s.device.holdTaken t.device l .staleReading)) ∧
        ((s.device.line l).state.holdable = false → (s.device.line l).state ≠ .held →
          (s.device.node n).inFlight = none → t.device.line l = s.device.line l)) ∧
      (k = .pump → (∃ a, o = .answer a) → (s.device.line l).state.holdable = true →
        (s.device.node n).inFlight = none → (s.device.node n).queued = none →
        (t.device.line l).state = .stopping ∧ (t.device.line l).step = .pumpStopping ∧
        (t.device.line l).stopCause = some .pumpFault ∧ (t.device.line l).stripFlag = false ∧
        (t.device.line l).hold = .empty ∧
        (t.device.line l).deadline = some (s.device.secondsOn (s.device.limits l).pumpStop) ∧
        (t.device.governor l).allowed = 0 ∧ s.device.speedClaimed t.device l 0 .sequence ∧
        s.device.moveClaimed t.device l .returnValve .opened .sequence) ∧
      s.device.SameOtherLines l t.device ∧ t.device.tankStills = s.device.tankStills ∧
      s.device.SameStation t.device ∧ t.device.charter = s.device.charter) ∧
  ∀ (seen : SlotSeen) (n : NodeNo) (l : Line) (a : Answer) (s : State),
    s.device.charter.mode = .watch → s.device.latchHolds →
    s.device.bus.slot = some ⟨n, messageOf (s.device.node n).inFlight, false⟩ →
    s.device.deviceOf l .pump = some n →
    (∀ x, (s.device.node n).inFlight = some x → x.act = .speed (actNumber x.act)) →
    slotOutcome n .pump (messageOf (s.device.node n).inFlight) seen = .answer a → a.fault = true →
    ((s.device.node n).stale = false → 2 ≤ (s.device.node n).misses → (s.device.line l).state.holdable = false) →
    ∃ t, exec (.slotResult seen) s = .next t ∧ t.mem = s.mem ∧
      ((s.device.line l).state = .free → (s.device.node n).inFlight = none → t.device.line l = s.device.line l) ∧
      ((s.device.line l).state.running = true → 0 < (s.device.governor l).allowed →
        (t.device.line l).state = .stopping ∧ (t.device.line l).step = .ramp ∧
        (t.device.line l).stopCause = some .pumpFault ∧ (t.device.line l).stripFlag = false) ∧
      ((s.device.node n).inFlight = none →
        ((s.device.line l).state.running = true → s.device.stopTaken t.device l .pumpFault false) ∧
        ((s.device.line l).state = .lineup → s.device.lineupStopped t.device l .pumpFault) ∧
        ((s.device.line l).state.active = false → t.device.line l = s.device.line l)) ∧
      s.device.SameOtherLines l t.device ∧ t.device.tankStills = s.device.tankStills ∧
      s.device.SameStation t.device ∧ t.device.charter = s.device.charter

/-- A valve that answers TAKEN to its MOVE, not yet at the target, travels: its state is MOVING, and the travel expiry is
set (R126, R128, R129). A transaction ends in a slot: DONE at a reading within 2 of the target (R128), with the valve at it;
REFUSED at that answer, with the valve LOCAL and its delivering line held (R134); FAILED at the third failed slot or at the
valve's fault, with the horn and the latch (R111, R130, R135). Such an end moves the line's sequence: the lineup to its next
step and to PRIMING, a resumed line to the prime speed, CLOSING to FREE and the ESD sequence to TRIPPED (R5, R6, R8, R15, R20,
R24, R28, R93; that an awaited closing claim has ended when both slots of its valve are empty is DEDUCED, log 17, and that a
claim made before a queued claim is promoted takes it away is log 15). A valve that leaves LOCAL at TAKEN or BUSY with its
flag REMOTE, and all four valves of the line REMOTE, removes LOCAL_VALVE (R12, R134). A SPEED goes to TRAVEL at TAKEN, counts its failed
slots, and ends DONE, REFUSED or FAILED with its report and its effect on the line, the pump stop among them (R21, R41, R92,
R126, R128 to R130, R132, R136). -/
def Obligations.AValveThatTakesItsMoveTravels : Prop :=
  (∀ (seen : SlotSeen) (n : NodeNo) (g : Target) (x : Transaction) (a : Answer) (s : State),
    s.device.charter.mode = .watch → s.device.bus.slot = some ⟨n, .move g, false⟩ →
    (s.device.node n).kind = .valve → (s.device.node n).inFlight = some x → x.act = .move g → x.phase = .send →
    (s.device.node n).inLocal = false →
    ((s.device.node n).valve = .localControl → ∀ l, (s.device.node n).line = some l →
      (s.device.line l).state = .held → (s.device.line l).hold.localValve = false) →
    slotOutcome n .valve (.move g) seen = .answer a → a.code = .taken → a.fault = false →
    ¬(a.readingA ≤ targetNumber g + 2 ∧ targetNumber g ≤ a.readingA + 2) →
    ∃ t, exec (.slotResult seen) s = .next t ∧
      t.device.node n = { s.device.node n with
        inLocal := a.inLocal, moving := a.moving, fault := false, readingA := a.readingA, misses := 0,
        stale := false, valve := .moving,
        inFlight := some { x with
          phase := .travel, errors := 0, taken := some s.device.time,
          travelExpiry := some (s.device.secondsOn (s.device.node n).travelLimit) } } ∧
      t.mem = s.mem ∧ s.device.SameStation t.device ∧ t.device.charter = s.device.charter) ∧
  (∀ (seen : SlotSeen) (n : NodeNo) (l : Line) (g : Target) (x : Transaction) (o : SlotOutcome) (s : State),
    s.device.charter.mode = .watch → s.device.latchHolds →
    s.device.bus.slot = some ⟨n, messageOf (some x), false⟩ → (s.device.node n).kind = .valve →
    (s.device.node n).line = some l → (s.device.node n).inFlight = some x → x.act = .move g →
    o = slotOutcome n .valve (messageOf (some x)) seen →
    (∀ a, o = .answer a → a.fault = false → (x.phase = .travel ∨ x.phase = .send ∧ a.code = .taken) →
      a.readingA ≤ targetNumber g + 2 → targetNumber g ≤ a.readingA + 2 →
      ∃ t, exec (.slotResult seen) s = .next t ∧ (t.device.node n).valve = targetState g ∧
        (s.device.reportsFlow → t.device.reportWaits ⟨.valveDone, lineNumber l, nodeAddress n, .outcome .done,
          BitVec.ofNat 32 (targetNumber g), BitVec.ofNat 32 a.readingA, s.device.time, .none⟩) ∧
        ((s.device.line l).state = .free → (s.device.node n).queued = none →
          (t.device.node n).idle = true ∧ s.device.SameLines t.device) ∧ s.device.moveEnded t.device n l x .done ∧
        t.mem = s.mem ∧ s.device.SameStation t.device ∧ t.device.charter = s.device.charter) ∧
    (∀ a, o = .answer a → a.fault = false → a.code = .refused →
      ∃ t, exec (.slotResult seen) s = .next t ∧ (t.device.node n).valve = .localControl ∧
        (s.device.reportsFlow → t.device.reportWaits ⟨.valveDone, lineNumber l, nodeAddress n, .outcome .refused,
          BitVec.ofNat 32 (targetNumber g), BitVec.ofNat 32 a.readingA, s.device.time, .none⟩) ∧
        (((s.device.line l).state.holdable = true ∨ (s.device.line l).state = .held) →
          ((s.device.node n).inLocal = false ∨ a.inLocal = true) →
          (s.device.emptyInFlight n x.act .refused).holdTaken t.device l .localValve) ∧
        ((s.device.line l).state = .free → (s.device.node n).queued = none →
          (t.device.node n).idle = true ∧ s.device.SameLines t.device) ∧
        s.device.moveEnded t.device n l x .refused ∧
        ((s.device.line l).state = .lineup → ((s.device.node n).inLocal = false ∨ a.inLocal = true) →
          (t.device.sequenceMemory l).refused.get (s.device.node n).role = true) ∧
        t.mem = s.mem ∧ s.device.SameStation t.device ∧ t.device.charter = s.device.charter) ∧
    (((∃ a, o = .answer a ∧ a.fault = true) ∨ (∀ a, o ≠ .answer a) ∧ x.phase ≠ .travel ∧ 2 ≤ x.errors) →
      ∃ t, exec (.slotResult seen) s = .next t ∧ (t.device.node n).valve = .failed ∧
        (s.device.reportsFlow → t.device.reportWaits ⟨.valveDone, lineNumber l, nodeAddress n, .outcome .failed,
          BitVec.ofNat 32 (targetNumber g), BitVec.ofNat 32 (s.device.node n).readingA, s.device.time, .none⟩) ∧
        t.device.shutdown.hornSounding = true ∧ t.device.shutdown.alarmPending = true ∧
        t.device.shutdown.valveAlarm = true ∧
        (if (s.device.line l).state ≠ .free ∧ s.device.shutdown.latch = false then
          (s.device.emptyInFlight n x.act .failed).latchSet t.device .valveFailed (lineNumber l) (nodeAddress n)
         else t.device.shutdown.latch = s.device.shutdown.latch ∧
          t.device.shutdown.first = s.device.shutdown.first) ∧
        ((s.device.line l).state = .tripping ∨ (s.device.line l).state = .tripped →
          s.device.moveEnded t.device n l x .failed) ∧
        t.mem = s.mem ∧ s.device.SameStation t.device ∧ t.device.charter = s.device.charter) ∧
    (∀ a, o = .answer a → a.fault = false → (s.device.node n).valve = .localControl →
      (s.device.node n).inLocal = false → a.inLocal = false → s.device.allRemote l = true →
      (s.device.line l).state = .held → (s.device.line l).hold.localValve = true →
      (x.phase = .send ∧ a.code = .taken ∧ ¬(a.readingA ≤ targetNumber g + 2 ∧ targetNumber g ≤ a.readingA + 2) ∨
        a.code = .busy ∧ (s.device.time - x.inFlightTime).toNat ≤ (s.device.node n).travelLimit * 10) →
      ∃ t, exec (.slotResult seen) s = .next t ∧
        (s.device.withTransaction n (if a.code = .taken then { x with
            phase := .travel, errors := 0, taken := some s.device.time,
            travelExpiry := some (s.device.secondsOn (s.device.node n).travelLimit) }
          else { x with phase := .probe, errors := 0 })).holdCleared t.device l .localValve ∧
        (t.device.node n).valve = (if a.code = .taken then .moving else .probing) ∧
        t.mem = s.mem ∧ s.device.SameStation t.device ∧ t.device.charter = s.device.charter)) ∧
  ∀ (seen : SlotSeen) (n : NodeNo) (l : Line) (v : Nat) (x : Transaction) (o : SlotOutcome) (s : State),
    s.device.charter.mode = .watch → s.device.latchHolds →
    s.device.bus.slot = some ⟨n, messageOf (some x), false⟩ → (s.device.node n).kind = .pump →
    (s.device.node n).line = some l → (s.device.node n).inFlight = some x → x.act = .speed v →
    o = slotOutcome n .pump (messageOf (some x)) seen →
    ∃ t, exec (.slotResult seen) s = .next t ∧ t.mem = s.mem ∧ s.device.SameStation t.device ∧
      t.device.charter = s.device.charter ∧ t.device.shutdown.latch = s.device.shutdown.latch ∧
      s.device.SameOtherLines l t.device ∧ t.device.valves = s.device.valves ∧
      (∀ a, o = .answer a → x.phase = .send → a.code = .taken → speedEnd x v o = none →
        (t.device.node n).inFlight = some { x with
          phase := .travel, errors := 0, taken := some s.device.time,
          travelExpiry := some (s.device.secondsOn (s.device.limits l).pumpStop) }) ∧
      ((∀ a, o ≠ .answer a) → x.phase ≠ .travel → speedEnd x v o = none →
        (t.device.node n).inFlight = some { x with errors := x.errors + 1 }) ∧
      (∀ e, speedEnd x v o = some e →
        (x.phase = .travel → (s.device.node n).stale = true → s.device.freshMoves n l = false) →
        s.device.speedEnded t.device n l x v e (match o.refreshing with
          | some a => a.readingA
          | none => (s.device.node n).readingA))

/-- A valve whose travel expiry falls due is FAILED: the horn sounds, and on a line that is not FREE the latch is set,
when it is CLEAR, and moves the ESD sequence that awaits its end (R88, R93, R99, R129, R132, R133, R135). A SPEED whose
travel expiry falls due ends FAILED, with its report and its effect on the line (R21, R41, R92, R129, R132, R136). -/
def Obligations.ATravelExpiryFailsTheValve : Prop :=
  (∀ (n : NodeNo) (l : Line) (x : Transaction) (g : Target) (s : State), s.device.latchHolds →
    (s.device.node n).kind = .valve → (s.device.node n).line = some l → (s.device.node n).inFlight = some x →
    x.act = .move g → x.phase = .travel → s.device.due x.travelExpiry = true →
    ∃ t, exec (.travelExpiry n) s = .next t ∧ (t.device.node n).valve = .failed ∧
      t.device.shutdown.hornSounding = true ∧ t.device.shutdown.alarmPending = true ∧
      t.device.shutdown.valveAlarm = true ∧
      (if (s.device.line l).state ≠ .free ∧ s.device.shutdown.latch = false then
        (s.device.emptyInFlight n x.act .failed).latchSet t.device .valveFailed (lineNumber l) (nodeAddress n)
       else t.device.shutdown.latch = s.device.shutdown.latch ∧
        t.device.shutdown.first = s.device.shutdown.first) ∧
      ((s.device.line l).state = .tripping ∨ (s.device.line l).state = .tripped →
        s.device.moveEnded t.device n l x .failed) ∧
      (∀ m, m ≠ n → (t.device.node m).valve = (s.device.node m).valve) ∧ t.device.stills = s.device.stills ∧
      t.mem = s.mem ∧ s.device.SameStation t.device ∧ t.device.charter = s.device.charter) ∧
  ∀ (n : NodeNo) (l : Line) (x : Transaction) (v : Nat) (s : State), s.device.latchHolds →
    (s.device.node n).kind = .pump → (s.device.node n).line = some l → (s.device.node n).inFlight = some x →
    x.act = .speed v → x.phase = .travel → s.device.due x.travelExpiry = true →
    ∃ t, exec (.travelExpiry n) s = .next t ∧ s.device.speedEnded t.device n l x v .failed (s.device.node n).readingA ∧
      t.device.shutdown.latch = s.device.shutdown.latch ∧ s.device.SameOtherLines l t.device ∧
      t.device.valves = s.device.valves ∧ t.device.stills = s.device.stills ∧ t.mem = s.mem ∧
      s.device.SameStation t.device ∧ t.device.charter = s.device.charter

/-! ## The ship link (R138 to R149) -/

/-- A SHIP_STATUS that the receiver takes makes the link ACTIVE, stores the status and sets the expiries. A line that could
deliver and is sent NOT_READY is held, a HELD line that is sent GO or REDUCE loses SHIP_NOT_READY, a running line that is sent
STOP is stopped, and a line at START_WAIT tests its start condition with the new permit (R6, R12, R14, R15, R19, R138 to R141,
R144, R145). -/
def Obligations.ShipStatusIsTaken : Prop :=
  ∀ (bytes : List Byte) (st : PerLine LineStatus) (s : State),
    (Instr.shipStatus bytes).wellFormed = true → decodeShipFrame bytes = some (.status st) →
    s.device.link.taking = true → s.device.link.partialFrame = none →
    ∃ t, exec (.shipStatus bytes) s = .next t ∧ t.mem = s.mem ∧ t.device.link.state = .active ∧
      t.device.link.status = some st ∧ t.device.link.lastStatus = some s.device.time ∧
      t.device.link.silenceExpiry = some (s.device.secondsOn s.device.general.shipSilence) ∧
      t.device.link.lossExpiry = some (s.device.secondsOn s.device.general.shipLoss) ∧
      t.device.link.taking = true ∧ t.device.link.partialFrame = none ∧
      (∀ l, (s.device.line l).state = .free → t.device.line l = s.device.line l) ∧
      (∀ l, (st.get l).permit = .notReady → (s.device.line l).state.holdable = true ∨ (s.device.line l).state = .held →
        s.device.holdTaken t.device l .shipNotReady) ∧
      (∀ l, (st.get l).permit = .go ∨ (st.get l).permit = .reduce → (s.device.line l).state = .held →
        if (s.device.line l).hold.shipNotReady = true then s.device.holdCleared t.device l .shipNotReady
        else (t.device.line l).state = .held ∧ (t.device.line l).hold = (s.device.line l).hold) ∧
      (∀ l, (st.get l).permit = .stop → (s.device.line l).state.running = true →
        s.device.stopTaken t.device l .shipStop false) ∧
      (∀ l, (s.device.line l).state = .lineup → (s.device.line l).step = .startWait →
        (s.device.link.state = .active ∨ (s.device.topOff l).openCount = (s.device.openTanks l).length) →
        if ({ s.device with link := { s.device.link with status := some st } } : Device).startCondition l = true then
          (t.device.line l).state = .priming ∧ s.device.primeClaimed t.device l ∧
          (t.device.hose l).primingCount = 0
        else (t.device.line l).state = .lineup ∧ (t.device.line l).step = .startWait) ∧
      t.device.stills = s.device.stills ∧ t.device.valves = s.device.valves ∧
      t.device.shutdown = s.device.shutdown ∧ s.device.SameStation t.device ∧ t.device.charter = s.device.charter

/-- A TANK_REPORT that the receiver takes: a present tank stores it, whole when the tank is not assigned; a report for an
absent tank changes nothing of the plant (R50 to R53, R55, R143). For the line of an assigned tank, OVERFILL entered sets the
latch (R60); NEAR entered sends APPROACHING, and HIGH entered CLOSE_NOW with the close deadline, which the valve CLOSED or
another state clears (R57, R58); HIGH in the only open tank stops the line (R62); and the last open tank closed holds it with
NO_PATH, which the next open one clears (R64). The TANK_ADVICE, and the LINE_STOPPING of each line that the report stops or
trips, go to the send queue, each in the place of the tank's or line's own entry, or at the end (R3, R57, R58, R146, R147). -/
def Obligations.TankReportIsStored : Prop :=
  (∀ (k : TankNo) (v : Advice) (m : Line) (c : Cause) (q : List SendEntry),
    ((∀ w, SendEntry.advice k w ∉ q) → putAdvice k v q = q ++ [.advice k v]) ∧
    (∀ front back w, q = front ++ .advice k w :: back → (∀ u, SendEntry.advice k u ∉ front) →
      putAdvice k v q = front ++ .advice k v :: back) ∧
    ((∀ d, SendEntry.stopping m d ∉ q) → putStopping m c q = q ++ [.stopping m c]) ∧
    (∀ front back d, q = front ++ .stopping m d :: back → (∀ u, SendEntry.stopping m u ∉ front) →
      putStopping m c q = front ++ .stopping m c :: back)) ∧
  (∀ (bytes : List Byte) (r : TankReport) (s : State),
    (Instr.tankReport bytes).wellFormed = true → decodeShipFrame bytes = some (.tank r) →
    s.device.link.taking = true → s.device.link.partialFrame = none →
    ∃ t, exec (.tankReport bytes) s = .next t ∧ t.mem = s.mem ∧
      (match s.device.tank r.tank with
        | none => s.device.SamePlant t.device
        | some e =>
          (∃ e', t.device.tank r.tank = some e' ∧ e'.volume = some r.volume ∧ e'.valve = r.valve ∧
            e'.alarm = r.alarm ∧ e'.lastReport = some s.device.time ∧ e'.freshness = .fresh ∧
            e'.silenceExpiry = some (s.device.secondsOn s.device.general.tankSilence) ∧
            e'.lostExpiry = some (s.device.secondsOn s.device.general.tankLost)) ∧
          (e.assigned = none → t.device.tank r.tank = some (s.device.reportedTank e r) ∧
            (∀ k, k ≠ r.tank → t.device.tank k = s.device.tank k) ∧ s.device.SameLines t.device ∧
            t.device.nodes = s.device.nodes ∧ t.device.shutdown.latch = s.device.shutdown.latch ∧
            ((s.device.reportedTank e r).state ≠ e.state → (s.device.reportedTank e r).state.alarms = true →
              t.device.shutdown.hornSounding = true ∧ t.device.shutdown.alarmPending = true))) ∧
      t.device.stills = s.device.stills ∧ t.device.valves = s.device.valves ∧ s.device.SameStation t.device ∧
      t.device.charter = s.device.charter) ∧
  ∀ (bytes : List Byte) (r : TankReport) (e new : Tank) (l : Line) (s : State),
    (Instr.tankReport bytes).wellFormed = true → decodeShipFrame bytes = some (.tank r) →
    s.device.link.taking = true → s.device.link.partialFrame = none → s.device.latchHolds →
    s.device.tank r.tank = some e → e.assigned = some l → new = s.device.reportedTank e r →
    ∃ t, exec (.tankReport bytes) s = .next t ∧
      (new.state = .overfill → e.state ≠ .overfill → s.device.shutdown.latch = false →
        s.device.latchSet t.device .overfill (lineNumber l) (tankNumber r.tank)) ∧
      (∀ e', t.device.tank r.tank = some e' → e'.assigned = some l →
        (new.state = .near → e.state ≠ .near → e.advice = .none → e'.advice = .approaching) ∧
        (new.state = .high → e.state ≠ .high → e'.advice = .closeNow ∧
          e'.closeDeadline =
            (if r.valve = .closed then none else some (s.device.secondsOn e.closeAllowance))) ∧
        (new.state = .high → e.state = .high → e'.closeDeadline =
          (if r.valve = .closed then none
           else if e.closeDeadline = none then some (s.device.secondsOn e.closeAllowance) else e.closeDeadline)) ∧
        ((new.state = .near ∨ new.state = .filling ∨ new.state = .idle) → e.state = .high →
          e'.closeDeadline = none)) ∧
      (new.state = .high → new.openValve = true →
        (∀ k e2, k ≠ r.tank → s.device.tank k = some e2 → e2.assigned = some l → e2.openValve = false) →
        ((s.device.line l).state.running = true → s.device.stopTaken t.device l .lastTankHigh false) ∧
        ((s.device.line l).state = .lineup → s.device.lineupStopped t.device l .lastTankHigh)) ∧
      ((new.state ≠ .overfill ∨ e.state = .overfill) → 0 < (s.device.topOff l).openCount → new.openValve = false →
        (∀ k e2, k ≠ r.tank → s.device.tank k = some e2 → e2.assigned = some l → e2.openValve = false) →
        (s.device.line l).state.running = true → s.device.holdTaken t.device l .noPath) ∧
      (new.state ≠ .overfill → new.state ≠ .high → (s.device.topOff l).openCount = 0 → new.openValve = true →
        (s.device.line l).state = .held → (s.device.line l).hold.noPath = true →
        s.device.holdCleared t.device l .noPath) ∧
      ((new.state ≠ .overfill ∨ e.state = .overfill) → s.device.SameOtherLines l t.device) ∧
      (new.state = .overfill → e.state ≠ .overfill → s.device.shutdown.latch = false →
        s.device.handed t.device ((allLines.filter (fun m => (s.device.line m).state.trips)).foldl
          (fun q m => putStopping m .overfill q) s.device.link.queue)) ∧
      (new.state = .near → new.openValve = true ∨ (s.device.line l).state.active = false →
        s.device.handed t.device (if e.state ≠ .near ∧ e.advice = .none then
            putAdvice r.tank .approaching s.device.link.queue
          else s.device.link.queue)) ∧
      (∀ q, new.state = .high → q = (if e.state ≠ .high ∧ e.advice ≠ .closeNow then
            putAdvice r.tank .closeNow s.device.link.queue
          else s.device.link.queue) →
        ((s.device.line l).state.active = false → s.device.handed t.device q) ∧
        ((s.device.line l).state.active = true → new.openValve = true →
          (∀ k e2, k ≠ r.tank → s.device.tank k = some e2 → e2.assigned = some l → e2.openValve = false) →
          s.device.handed t.device (putStopping l .lastTankHigh q)) ∧
        (new.openValve = true → (∃ k e2, k ≠ r.tank ∧ s.device.tank k = some e2 ∧ e2.assigned = some l ∧
          e2.openValve = true) → s.device.handed t.device q)) ∧
      t.device.stills = s.device.stills ∧ t.device.valves = s.device.valves ∧
      s.device.SameStation t.device ∧ t.device.charter = s.device.charter

/-- A frame that is not valid is discarded, and so is a frame that stays incomplete: nothing of the plant changes, and the
receiver hunts for the next frame (R138, R139). -/
def Obligations.DiscardedFramesChangeNothing : Prop :=
  ∀ (bytes : List Byte) (s : State), s.device.link.partialFrame = none →
    ∀ c : Instr, (c = .frameDiscarded bytes ∨ c = .frameIncomplete bytes) → c.wellFormed = true →
      ∃ t, exec c s = .next t ∧ t.mem = s.mem ∧ s.device.SamePlant t.device ∧ s.device.SameStation t.device ∧
        t.device.charter = s.device.charter

/-- The silence expiry makes an ACTIVE link SILENT: a delivering line goes to TOPPING, and no other line changes its state.
The loss expiry makes a SILENT link LOST and stops every active line (R69, R70, R144, R145). -/
def Obligations.SilenceAndLossOfTheShipAreTaken : Prop :=
  ∀ s : State,
    (s.device.link.state = .active → s.device.due s.device.link.silenceExpiry = true →
      ∃ t, exec .shipSilent s = .next t ∧ t.mem = s.mem ∧ t.device.link.state = .silent ∧
        t.device.link.silenceExpiry = none ∧ t.device.link.lossExpiry = s.device.link.lossExpiry ∧
        t.device.link.status = s.device.link.status ∧ t.device.link.lastStatus = s.device.link.lastStatus ∧
        (∀ l, (t.device.line l).state =
          if (s.device.line l).state = .delivering then .topping else (s.device.line l).state) ∧
        (∀ l, (s.device.line l).state ≠ .free → (t.device.line l).topping.shipSilent = true) ∧
        t.device.nodes = s.device.nodes ∧ t.device.tanks = s.device.tanks ∧
        t.device.shutdown = s.device.shutdown ∧ s.device.SameStation t.device ∧
        t.device.charter = s.device.charter) ∧
    (s.device.link.state = .silent → s.device.due s.device.link.lossExpiry = true →
      ∃ t, exec .shipLost s = .next t ∧ t.mem = s.mem ∧ t.device.link.state = .lost ∧
        t.device.link.lossExpiry = none ∧ t.device.link.status = s.device.link.status ∧
        (∀ l, (t.device.line l).state.active = false) ∧
        (∀ l, (s.device.line l).state.active = false → (t.device.line l).state = (s.device.line l).state) ∧
        (∀ l, (s.device.line l).state.running = true → 0 < (s.device.governor l).allowed →
          (t.device.line l).state = .stopping ∧ (t.device.line l).step = .ramp ∧
          (t.device.line l).stopCause = some .shipLost) ∧
        t.device.stills = s.device.stills ∧ t.device.valves = s.device.valves ∧
        t.device.shutdown = s.device.shutdown ∧ s.device.SameStation t.device ∧
        t.device.charter = s.device.charter)

/-- The transmitter in WATCH: at the status expiry a BARGE_STATUS falls due, and at the end of a frame and of a due status
on the free line the oldest entry that may leave is sent, else the due status (R146, R148). That the next status falls due
1 s after the due time of this one is DEDUCED (log 23), and so is that no TANK_ADVICE leaves in IDLE (log 25). -/
def Obligations.FramesAreSent : Prop :=
  ∀ (d : Time) (s : State), s.device.charter.mode = .watch →
    (s.device.link.statusExpiry = some d → s.device.reached d = true →
      ∃ t, exec .statusExpiry s = .next t ∧ t.mem = s.mem ∧ t.device.link.statusExpiry = some (d + 10) ∧
        (if s.device.link.sending.isSome = true then
          t.device.link.sending = s.device.link.sending ∧ t.device.link.statusDue = true ∧
          t.device.link.queue = s.device.link.queue
         else match takeLeaving s.device.link.state s.device.link.queue with
          | some (e, rest) => t.device.link.sending = some e.frame ∧ t.device.link.queue = rest ∧
            t.device.link.statusDue = true
          | none => t.device.link.sending = some s.device.bargeStatus ∧ t.device.link.statusDue = false ∧
            t.device.link.queue = s.device.link.queue) ∧
        s.device.SameLines t.device ∧ t.device.tanks = s.device.tanks ∧ t.device.nodes = s.device.nodes ∧
        t.device.shutdown = s.device.shutdown ∧ s.device.SameStation t.device ∧
        t.device.charter = s.device.charter) ∧
    (s.device.link.sending.isSome = true →
      ∃ t, exec .frameSent s = .next t ∧ t.mem = s.mem ∧
        (match takeLeaving s.device.link.state s.device.link.queue with
          | some (e, rest) => t.device.link.sending = some e.frame ∧ t.device.link.queue = rest ∧
            t.device.link.statusDue = s.device.link.statusDue
          | none => t.device.link.queue = s.device.link.queue ∧ t.device.link.statusDue = false ∧
            t.device.link.sending =
              if s.device.link.statusDue = true then some s.device.bargeStatus else none) ∧
        s.device.SameLines t.device ∧ t.device.tanks = s.device.tanks ∧ t.device.nodes = s.device.nodes ∧
        t.device.shutdown = s.device.shutdown ∧ s.device.SameStation t.device ∧
        t.device.charter = s.device.charter)

/-! ## Tanks (R55, R56, R59) -/

/-- A FRESH tank whose silence expiry falls due is SILENT, and its delivering line goes to TOPPING while its valve is open;
a tank not LOST whose lost expiry falls due is LOST, and with an open valve its running line above rate 0 ramps down with
TANK_LOST (R17, R19, R55, R56, R70). -/
def Obligations.TankExpiriesAreTaken : Prop :=
  ∀ (k : TankNo) (e : Tank) (s : State), s.device.tank k = some e →
    (e.freshness = .fresh → s.device.due e.silenceExpiry = true →
      ∃ t, exec (.tankSilenceExpiry k) s = .next t ∧ t.mem = s.mem ∧
        t.device.tank k = some { e with freshness := .silent, silenceExpiry := none } ∧
        (∀ j, j ≠ k → t.device.tank j = s.device.tank j) ∧
        (∀ l, e.assigned = some l → e.openValve = true → (s.device.line l).state = .delivering →
          (t.device.line l).state = .topping) ∧
        (∀ l, e.assigned ≠ some l → t.device.line l = s.device.line l) ∧
        t.device.nodes = s.device.nodes ∧ t.device.shutdown = s.device.shutdown ∧
        s.device.SameStation t.device ∧ t.device.charter = s.device.charter) ∧
    (e.freshness ≠ .lost → s.device.due e.lostExpiry = true →
      ∃ t, exec (.tankLostExpiry k) s = .next t ∧ t.mem = s.mem ∧
        (∃ e', t.device.tank k = some e' ∧ e'.freshness = .lost ∧ e'.lostExpiry = none) ∧
        (∀ l, e.assigned ≠ some l → t.device.line l = s.device.line l) ∧
        (∀ l, e.assigned = some l → e.openValve = true → (s.device.line l).state.running = true →
          0 < (s.device.governor l).allowed →
          (t.device.line l).state = .stopping ∧ (t.device.line l).step = .ramp ∧
          (t.device.line l).stopCause = some .tankLost) ∧
        t.device.stills = s.device.stills ∧ t.device.valves = s.device.valves ∧
        s.device.SameStation t.device ∧ t.device.charter = s.device.charter)

/-- The close deadline of an assigned tank expires: it is absent then, and with the valve not CLOSED a running line above
rate 0 ramps down with CLOSE_OVERDUE (R19, R59). -/
def Obligations.CloseDeadlineStopsTheLine : Prop :=
  ∀ (k : TankNo) (e : Tank) (l : Line) (s : State), s.device.tank k = some e →
    s.device.due e.closeDeadline = true → e.assigned = some l →
    ∃ t, exec (.closeDeadlineExpiry k) s = .next t ∧ t.mem = s.mem ∧
      (∃ e', t.device.tank k = some e' ∧ e'.closeDeadline = none) ∧
      (e.valve = .closed → t.device.tank k = some { e with closeDeadline := none } ∧
        s.device.SameLines t.device) ∧
      (e.valve ≠ .closed → (s.device.line l).state.running = true → 0 < (s.device.governor l).allowed →
        (t.device.line l).state = .stopping ∧ (t.device.line l).step = .ramp ∧
        (t.device.line l).stopCause = some .closeOverdue ∧
        t.device.tank k = some { e with closeDeadline := none } ∧
        (∀ j, j ≠ k → t.device.tank j = s.device.tank j) ∧ t.device.shutdown = s.device.shutdown) ∧
      s.device.SameOtherLines l t.device ∧ t.device.stills = s.device.stills ∧
      t.device.valves = s.device.valves ∧ s.device.SameStation t.device ∧ t.device.charter = s.device.charter

/-! ## The rate governor (R31, R35, R38, R40, R42) -/

/-- A governor step that falls due: in DELIVERING and TOPPING the allowed rate moves by the rise, the fall and the cut as
R35 gives, in STOPPING above the floor rate by the fall; the speed and the rate-low flag follow, and the next step falls
due one period later (R31, R33, R38, R40, R42). A step in STOPPING that claims SPEED 0 ends the ramp: rate and speed 0, no
further step, and the line awaits the pump stop. It is the step at or below the floor rate and, with a floor rate of 0, the
step from above it that lands on 0 (R21, R31, R38, R40; that the latter's claim too takes the line to PUMP_STOPPING is
DEDUCED, log 49). In PRIMING a step claims the prime speed again when the reclaim mark is set (R36). -/
def Obligations.GovernorStepsMoveTheRate : Prop :=
  (∀ (l : Line) (due : Time) (a c peak floor rise fall cut : Nat) (s : State),
    (s.device.governor l).expiry = some due → s.device.reached due = true →
    a = (s.device.governor l).allowed → c = s.device.ceilingOf l → peak = (s.device.limits l).peak →
    floor = (s.device.limits l).floor → rise = max 1 (peak * (s.device.limits l).riseStep / 64) →
    fall = max 1 (peak * (s.device.limits l).fallLimit / 64) →
    cut = max 1 (a * (s.device.limits l).cutFraction / 16) →
    ∀ rate : Nat,
      (((s.device.line l).state = .delivering ∨ (s.device.line l).state = .topping) ∧
          rate =
            (if c < a then
              if s.device.reduceIndication l = true then min (max c (a - fall)) (max floor (a - cut))
              else max c (a - fall)
            else if s.device.reduceIndication l = true then max floor (a - cut) else min c (a + rise)) ∨
        (s.device.line l).state = .stopping ∧ floor < a ∧ rate = max floor (a - fall) ∧
          (rate = 0 → (s.device.governor l).lastSpeed = 0 ∧ (s.device.governor l).reclaim = false)) →
      ∃ t, exec (.governorStep l) s = .next t ∧ t.mem = s.mem ∧ (t.device.governor l).allowed = rate ∧
        (t.device.governor l).ceiling =
          (if (s.device.line l).state = .stopping then (s.device.governor l).ceiling else c) ∧
        (t.device.governor l).lastSpeed = speedFor rate peak ∧ (t.device.governor l).reclaim = false ∧
        (t.device.governor l).rateLow = decide (rate < (s.device.limits l).lowThreshold) ∧
        (t.device.governor l).expiry = some (due + BitVec.ofNat 32 s.device.general.governorPeriod) ∧
        (t.device.governor l).requested = (s.device.governor l).requested ∧
        (t.device.governor l).delivered = (s.device.governor l).delivered ∧
        t.device.line l = s.device.line l ∧ t.device.hose l = s.device.hose l ∧
        s.device.SameOtherLines l t.device ∧ t.device.stills = s.device.stills ∧
        t.device.valves = s.device.valves ∧ t.device.tanks = s.device.tanks ∧
        t.device.shutdown = s.device.shutdown ∧ s.device.SameStation t.device ∧
        t.device.charter = s.device.charter) ∧
  ∀ (l : Line) (due : Time) (n : NodeNo) (fall : Nat) (s : State),
    (s.device.governor l).expiry = some due → s.device.reached due = true → s.device.deviceOf l .pump = some n →
    fall = max 1 ((s.device.limits l).peak * (s.device.limits l).fallLimit / 64) →
    ((s.device.line l).state = .stopping →
      ((s.device.governor l).allowed ≤ (s.device.limits l).floor ∨
        (s.device.limits l).floor = 0 ∧ (s.device.governor l).allowed ≤ fall ∧
          ((s.device.governor l).lastSpeed ≠ 0 ∨ (s.device.governor l).reclaim = true)) →
      ∃ t, exec (.governorStep l) s = .next t ∧ t.mem = s.mem ∧
        t.device.governor l = { s.device.governor l with
          allowed := 0, lastSpeed := 0, reclaim := false, expiry := none,
          rateLow := decide (0 < (s.device.limits l).lowThreshold) } ∧
        t.device.line l = { s.device.line l with
          step := .pumpStopping, deadline := some (s.device.secondsOn (s.device.limits l).pumpStop) } ∧
        ((s.device.node n).idle = true → (t.device.node n).inFlight =
          some ⟨.speed 0, .sequence, .send, 0, s.device.time, none, none⟩) ∧
        t.device.hose l = s.device.hose l ∧ s.device.SameOtherLines l t.device ∧
        (∀ m, m ≠ n → t.device.node m = s.device.node m) ∧ t.device.stills = s.device.stills ∧
        t.device.valves = s.device.valves ∧ t.device.tanks = s.device.tanks ∧
        t.device.shutdown = s.device.shutdown ∧ s.device.SameStation t.device ∧
        t.device.charter = s.device.charter) ∧
    ((s.device.line l).state = .priming →
      ∃ t, exec (.governorStep l) s = .next t ∧ t.mem = s.mem ∧
        t.device.governor l = { s.device.governor l with
          reclaim := false, expiry := some (due + BitVec.ofNat 32 s.device.general.governorPeriod),
          lastSpeed := if (s.device.governor l).reclaim = true then
              speedFor (s.device.limits l).prime (s.device.limits l).peak
            else (s.device.governor l).lastSpeed } ∧
        ((s.device.governor l).reclaim = false → t.device.nodes = s.device.nodes) ∧
        ((s.device.governor l).reclaim = true → (s.device.node n).idle = true → (t.device.node n).inFlight =
          some ⟨.speed (speedFor (s.device.limits l).prime (s.device.limits l).peak), .sequence, .send, 0,
            s.device.time, none, none⟩) ∧
        t.device.line l = s.device.line l ∧ t.device.hose l = s.device.hose l ∧ s.device.SameOtherLines l t.device ∧
        (∀ m, m ≠ n → t.device.node m = s.device.node m) ∧ t.device.stills = s.device.stills ∧
        t.device.valves = s.device.valves ∧ t.device.tanks = s.device.tanks ∧
        t.device.shutdown = s.device.shutdown ∧ s.device.SameStation t.device ∧
        t.device.charter = s.device.charter)

/-! ## Step deadlines (R7, R10, R16, R22, R23, R92) -/

/-- The lineup limit trips on a FAILED valve of the line while the latch is CLEAR, and otherwise sends the line to CLOSING
with LINEUP_FAILED, from where it may go on to FREE (R7, R19, R20, R24, R28, R89, R91). -/
def Obligations.LineupLimitEndsTheLineup : Prop :=
  ∀ (l : Line) (s : State), (s.device.line l).state = .lineup → s.device.due (s.device.line l).deadline = true →
    ∃ t, exec (.lineupLimitExpiry l) s = .next t ∧ t.mem = s.mem ∧
      (∀ n, s.device.lowestFailedValve l = some n → s.device.shutdown.latch = false →
        s.device.latchSet t.device .valveFailed (lineNumber l) (nodeAddress n)) ∧
      (s.device.lowestFailedValve l = none →
        s.device.lineupStopped t.device l .lineupFailed ∧
        s.device.SameOtherLines l t.device ∧ t.device.shutdown.latch = s.device.shutdown.latch) ∧
      t.device.stills = s.device.stills ∧ t.device.valves = s.device.valves ∧ s.device.SameStation t.device ∧
      t.device.charter = s.device.charter

/-- The prime limit sends a line above rate 0 to STOPPING with PRIME_FAILED. The hold limit sends a held line whose allowed
rate is 0 to PUMP_STOPPING with HOLD_TOO_LONG while its pump has a SPEED under way, and through STOPPING to CLOSING at once
when the SPEED 0 has already ended (R10, R16, R19, R21, R24). -/
def Obligations.PrimeAndHoldLimitsStopTheLine : Prop :=
  ∀ (l : Line) (s : State), s.device.due (s.device.line l).deadline = true →
    ((s.device.line l).state = .priming → (s.device.line l).step = .prime → 0 < (s.device.governor l).allowed →
      ∃ t, exec (.primeLimitExpiry l) s = .next t ∧ t.mem = s.mem ∧ (t.device.line l).state = .stopping ∧
        (t.device.line l).step = .ramp ∧ (t.device.line l).stopCause = some .primeFailed ∧
        (t.device.line l).stripFlag = false ∧ (t.device.line l).deadline = none ∧
        s.device.SameOtherLines l t.device ∧ t.device.nodes = s.device.nodes ∧
        t.device.tanks = s.device.tanks ∧ t.device.shutdown = s.device.shutdown ∧
        s.device.SameStation t.device ∧ t.device.charter = s.device.charter) ∧
    ((s.device.line l).state = .held → (s.device.line l).step = .hold → (s.device.governor l).allowed = 0 →
      s.device.idleNode (s.device.deviceOf l .pump) = false →
      ∃ t, exec (.holdLimitExpiry l) s = .next t ∧ t.mem = s.mem ∧ (t.device.line l).state = .stopping ∧
        (t.device.line l).step = .pumpStopping ∧ (t.device.line l).stopCause = some .holdTooLong ∧
        (t.device.line l).stripFlag = false ∧ (t.device.line l).hold = .empty ∧
        (t.device.line l).deadline = some (s.device.secondsOn (s.device.limits l).pumpStop) ∧
        s.device.SameOtherLines l t.device ∧ t.device.nodes = s.device.nodes ∧
        t.device.tanks = s.device.tanks ∧ t.device.shutdown = s.device.shutdown ∧
        s.device.SameStation t.device ∧ t.device.charter = s.device.charter) ∧
    ((s.device.line l).state = .held → (s.device.line l).step = .hold → (s.device.governor l).allowed = 0 →
      s.device.idleNode (s.device.deviceOf l .pump) = true →
      ∃ t, exec (.holdLimitExpiry l) s = .next t ∧ t.mem = s.mem ∧
        s.device.closingTaken t.device l (some .holdTooLong) ∧ (t.device.governor l).allowed = 0 ∧
        s.device.SameOtherLines l t.device ∧ t.device.stills = s.device.stills ∧
        t.device.valves = s.device.valves ∧ t.device.tankStills = s.device.tankStills ∧
        t.device.shutdown = s.device.shutdown ∧ s.device.SameStation t.device ∧
        t.device.charter = s.device.charter)

/-- The pump stop allowance sends a line with the strip flag to STRIPPING, and one without it to CLOSING, from where it may
go on to FREE; the strip limit sends a stripping line to CLOSING with its stripping INCOMPLETE (R22 to R24, R28). -/
def Obligations.PumpStopAndStripLimitsCloseTheLine : Prop :=
  ∀ (l : Line) (s : State), s.device.due (s.device.line l).deadline = true →
    ((s.device.line l).state = .stopping → (s.device.line l).step = .pumpStopping →
      ∃ t, exec (.pumpStopExpiry l) s = .next t ∧ t.mem = s.mem ∧
        (if (s.device.line l).stripFlag = true then
          (t.device.line l).state = .stripping ∧ (t.device.line l).step = .strip ∧
          (t.device.line l).entry = s.device.time ∧
          (t.device.line l).deadline = some (s.device.secondsOn (s.device.limits l).stripLimit) ∧
          t.device.tanks = s.device.tanks ∧ s.device.moveClaimed t.device l .strip .opened .sequence
         else s.device.closingTaken t.device l (s.device.line l).stopCause) ∧
        (t.device.governor l).allowed = 0 ∧ s.device.SameOtherLines l t.device ∧
        t.device.stills = s.device.stills ∧ t.device.valves = s.device.valves ∧
        s.device.SameStation t.device ∧ t.device.charter = s.device.charter) ∧
    ((s.device.line l).state = .stripping → (s.device.line l).step = .strip →
      ∃ t, exec (.stripLimitExpiry l) s = .next t ∧ t.mem = s.mem ∧
        s.device.closingTaken t.device l (s.device.line l).stopCause ∧
        ((t.device.line l).state = .closing → (t.device.line l).stripResult = .incomplete) ∧
        s.device.SameOtherLines l t.device ∧ t.device.stills = s.device.stills ∧
        t.device.valves = s.device.valves ∧ s.device.SameStation t.device ∧ t.device.charter = s.device.charter)

/-- The pump deadline of an ESD sequence claims STRIP CLOSED unless it is at rest CLOSED, and enters step ESD_MANIFOLD with
MANIFOLD CLOSED claimed when MANIFOLD is not at rest CLOSED; it goes on to step ESD_DISCHARGE with DISCHARGE CLOSED claimed when
only DISCHARGE is not, and ends the sequence with the line TRIPPED and its LINE_SUMMARY when both are (R28, R91 to R93). -/
def Obligations.EsdPumpDeadlineClosesTheManifold : Prop :=
  ∀ (l : Line) (s : State), s.device.shutdown.sequence.get l = .esdPumpStop →
    s.device.due (s.device.shutdown.pumpDeadline.get l) = true →
    ∃ t, exec (.esdPumpDeadlineExpiry l) s = .next t ∧ t.mem = s.mem ∧
      t.device.shutdown.pumpDeadline.get l = none ∧ s.device.esdClosed t.device l ∧
      (s.device.atRest l .manifold .closed = true → s.device.atRest l .discharge .closed = true →
        s.device.reportsFlow → t.device.reportWaits ⟨.lineSummary, lineNumber l, 0,
          (match (s.device.line l).stopCause with
            | none => .none
            | some k => .line k),
          (s.device.line l).nominated, (s.device.governor l).delivered, s.device.time,
          (s.device.line l).stripResult⟩) ∧
      t.device.shutdown.latch = s.device.shutdown.latch ∧ t.device.shutdown.first = s.device.shutdown.first ∧
      s.device.SameOtherLines l t.device ∧ t.device.stills = s.device.stills ∧
      t.device.valves = s.device.valves ∧ t.device.tanks = s.device.tanks ∧ s.device.SameStation t.device ∧
      t.device.charter = s.device.charter

/-! ## Pressure bands (R75) -/

/-- The band of a reading is the first row of R75's table whose condition holds. -/
def Obligations.PressureBandsFollowTheTable : Prop :=
  ∀ (lim : Limits) (p : Nat),
    (bandOf lim p = .trip ↔ lim.trip ≤ p) ∧
    (bandOf lim p = .stop ↔ p < lim.trip ∧ lim.stop ≤ p) ∧
    (bandOf lim p = .reduce ↔ p < lim.trip ∧ p < lim.stop ∧ lim.reduce ≤ p) ∧
    (bandOf lim p = .normal ↔ p < lim.trip ∧ p < lim.stop ∧ p < lim.reduce ∧ lim.low ≤ p) ∧
    (bandOf lim p = .low ↔ p < lim.trip ∧ p < lim.stop ∧ p < lim.reduce ∧ p < lim.low) ∧
    (lim.trip ≤ 2500 → 2500 < p → bandOf lim p = .trip)

/-! ## What every step keeps -/

/-- The invariants of the statements below hold in the state after reset. -/
def Obligations.InvariantsHoldAtReset : Prop :=
  State.reset.mem.wf = true ∧ State.reset.device.reports.producer < 64 ∧ State.reset.device.bargeLoopHolds ∧
  State.reset.device.latchHolds ∧ State.reset.device.hornHolds

/-- Every step keeps the memory in its canonical form, which is the model's own, and the producer index in the ring of 64
slots (R173). -/
def Obligations.StepKeepsTheMemoryCanonical : Prop :=
  ∀ s t : State, s.mem.wf = true → s.device.reports.producer < 64 → step s = .next t →
    t.mem.wf = true ∧ t.device.reports.producer < 64

/-- Every step keeps the barge loop HEALTHY in WATCH with the latch CLEAR and BROKEN in every other case, and the horn OFF
while alarm-pending is CLEAR (R87, R100). -/
def Obligations.StepKeepsTheShutdownOutputs : Prop :=
  ∀ s t : State, s.device.bargeLoopHolds → s.device.hornHolds → step s = .next t →
    t.device.bargeLoopHolds ∧ t.device.hornHolds

/-- Every step keeps the lines and the latch in agreement: while the latch is SET no line stands in a state in which it
could deliver, a line is TRIPPING or TRIPPED only then, and only a TRIPPING line has an ESD sequence (R25, R89, R91,
R98). -/
def Obligations.StepKeepsTheLatchInvariant : Prop :=
  ∀ s t : State, s.device.latchHolds → step s = .next t → t.device.latchHolds

/-- Every step but a power-on reset keeps a limit lock that is SET (R184). -/
def Obligations.StepKeepsTheLimitLock : Prop :=
  ∀ s t : State, s.device.charter.lock = true → (∀ straps rest, s.pending ≠ .powerOnReset straps :: rest) →
    step s = .next t → t.device.charter.lock = true
end

