-- ==== Sys2Proof/Laws/State.lean ====
section
/-! SUPPORT. What each setter of the device keeps, and what it stores: true by definition, so that no later proof unfolds
a record update. -/

namespace Sys2Proof.Machine

open Sys2Proof

/-! ## Tables -/

@[simp] theorem PerLine.get_set {α : Type} (p : PerLine α) (l m : Line) (a : α) :
    (p.set l a).get m = if m = l then a else p.get m := by
  cases l <;> cases m <;> rfl

@[simp] theorem PerLine.get_all {α : Type} (a : α) (l : Line) : (PerLine.all a).get l = a := by cases l <;> rfl

@[simp] theorem PerRole.get_set {α : Type} (p : PerRole α) (r q : Role) (a : α) :
    (p.set r a).get q = if q = r then a else p.get q := by
  cases r <;> cases q <;> rfl

@[simp] theorem PerRole.get_all {α : Type} (a : α) (r : Role) : (PerRole.all a).get r = a := by cases r <;> rfl

theorem PerLine.ext_get {α : Type} (p q : PerLine α) (h : ∀ l, p.get l = q.get l) : p = q := by
  obtain ⟨a, b, c⟩ := p
  obtain ⟨d, e, f⟩ := q
  have h1 := h .l1
  have h2 := h .l2
  have h3 := h .l3
  simp only [PerLine.get] at h1 h2 h3
  rw [h1, h2, h3]

@[simp] theorem get_putAt {α : Type} {n : Nat} (v : Vector α n) (i j : Fin n) (a : α) :
    (putAt v i a).get j = if j = i then a else v.get j := by
  unfold putAt
  by_cases h : j = i
  · subst h; rw [if_pos rfl]; exact Vector.getElem_set_self j.isLt
  · have hne : i.val ≠ j.val := fun e => h (Fin.ext e.symm)
    rw [if_neg h]; exact Vector.getElem_set_ne i.isLt j.isLt hne

@[simp] theorem mem_allLines (l : Line) : l ∈ allLines := by cases l <;> simp [allLines]

@[simp] theorem mem_allRoles (r : Role) : r ∈ allRoles := by cases r <;> simp [allRoles]

theorem mem_upTo (n m : Nat) (h : m ≤ n) (i : Fin n) : i ∈ upTo n m h ↔ i.val < m := by
  induction m with
  | zero => simp [upTo]
  | succ m ih =>
    simp only [upTo, List.mem_append, List.mem_singleton, ih, Fin.ext_iff]
    omega

@[simp] theorem mem_allTanks (t : TankNo) : t ∈ allTanks := (mem_upTo 24 24 (Nat.le_refl 24) t).mpr t.isLt

@[simp] theorem mem_allNodes (n : NodeNo) : n ∈ allNodes := (mem_upTo 31 31 (Nat.le_refl 31) n).mpr n.isLt

/-! ## What each setter keeps -/

@[simp] theorem Device.markStatus_keeps (s : Device) (c : Bool) :
    (s.markStatus c).time = s.time ∧ (s.markStatus c).half = s.half ∧ (s.markStatus c).strap = s.strap ∧
    (s.markStatus c).port = s.port ∧ (s.markStatus c).jobs = s.jobs ∧ (s.markStatus c).requests = s.requests ∧
    (s.markStatus c).reports = s.reports ∧ (s.markStatus c).lines = s.lines ∧ (s.markStatus c).memory = s.memory ∧
    (s.markStatus c).governors = s.governors ∧ (s.markStatus c).hoses = s.hoses ∧
    (s.markStatus c).tanks = s.tanks ∧ (s.markStatus c).topOffs = s.topOffs ∧
    (s.markStatus c).shutdown = s.shutdown ∧ (s.markStatus c).nodes = s.nodes ∧
    (s.markStatus c).targets = s.targets ∧ (s.markStatus c).bus = s.bus ∧ (s.markStatus c).link = s.link ∧
    (s.markStatus c).charter = s.charter :=
  ⟨rfl, rfl, rfl, rfl, rfl, rfl, rfl, rfl, rfl, rfl, rfl, rfl, rfl, rfl, rfl, rfl, rfl, rfl, rfl⟩

@[simp] theorem Device.markLine_keeps (s : Device) (l : Line) (c : Bool) :
    (s.markLine l c).time = s.time ∧ (s.markLine l c).half = s.half ∧ (s.markLine l c).strap = s.strap ∧
    (s.markLine l c).port = s.port ∧ (s.markLine l c).jobs = s.jobs ∧ (s.markLine l c).requests = s.requests ∧
    (s.markLine l c).reports = s.reports ∧ (s.markLine l c).lines = s.lines ∧ (s.markLine l c).memory = s.memory ∧
    (s.markLine l c).governors = s.governors ∧ (s.markLine l c).hoses = s.hoses ∧
    (s.markLine l c).tanks = s.tanks ∧ (s.markLine l c).topOffs = s.topOffs ∧
    (s.markLine l c).shutdown = s.shutdown ∧ (s.markLine l c).nodes = s.nodes ∧
    (s.markLine l c).targets = s.targets ∧ (s.markLine l c).bus = s.bus ∧ (s.markLine l c).link = s.link ∧
    (s.markLine l c).charter = s.charter :=
  ⟨rfl, rfl, rfl, rfl, rfl, rfl, rfl, rfl, rfl, rfl, rfl, rfl, rfl, rfl, rfl, rfl, rfl, rfl, rfl⟩

@[simp] theorem Device.markTank_keeps (s : Device) (t : TankNo) :
    (s.markTank t).time = s.time ∧ (s.markTank t).half = s.half ∧ (s.markTank t).strap = s.strap ∧
    (s.markTank t).port = s.port ∧ (s.markTank t).jobs = s.jobs ∧ (s.markTank t).requests = s.requests ∧
    (s.markTank t).reports = s.reports ∧ (s.markTank t).lines = s.lines ∧ (s.markTank t).memory = s.memory ∧
    (s.markTank t).governors = s.governors ∧ (s.markTank t).hoses = s.hoses ∧ (s.markTank t).tanks = s.tanks ∧
    (s.markTank t).topOffs = s.topOffs ∧ (s.markTank t).shutdown = s.shutdown ∧ (s.markTank t).nodes = s.nodes ∧
    (s.markTank t).targets = s.targets ∧ (s.markTank t).bus = s.bus ∧ (s.markTank t).link = s.link ∧
    (s.markTank t).charter = s.charter :=
  ⟨rfl, rfl, rfl, rfl, rfl, rfl, rfl, rfl, rfl, rfl, rfl, rfl, rfl, rfl, rfl, rfl, rfl, rfl, rfl⟩

@[simp] theorem Device.markNode_keeps (s : Device) (n : NodeNo) (c : Bool) :
    (s.markNode n c).time = s.time ∧ (s.markNode n c).half = s.half ∧ (s.markNode n c).strap = s.strap ∧
    (s.markNode n c).port = s.port ∧ (s.markNode n c).jobs = s.jobs ∧ (s.markNode n c).requests = s.requests ∧
    (s.markNode n c).reports = s.reports ∧ (s.markNode n c).lines = s.lines ∧ (s.markNode n c).memory = s.memory ∧
    (s.markNode n c).governors = s.governors ∧ (s.markNode n c).hoses = s.hoses ∧
    (s.markNode n c).tanks = s.tanks ∧ (s.markNode n c).topOffs = s.topOffs ∧
    (s.markNode n c).shutdown = s.shutdown ∧ (s.markNode n c).nodes = s.nodes ∧
    (s.markNode n c).targets = s.targets ∧ (s.markNode n c).bus = s.bus ∧ (s.markNode n c).link = s.link ∧
    (s.markNode n c).charter = s.charter :=
  ⟨rfl, rfl, rfl, rfl, rfl, rfl, rfl, rfl, rfl, rfl, rfl, rfl, rfl, rfl, rfl, rfl, rfl, rfl, rfl⟩

@[simp] theorem Device.markValves_keeps (s : Device) (c : Bool) :
    (s.markValves c).time = s.time ∧ (s.markValves c).half = s.half ∧ (s.markValves c).strap = s.strap ∧
    (s.markValves c).port = s.port ∧ (s.markValves c).jobs = s.jobs ∧ (s.markValves c).requests = s.requests ∧
    (s.markValves c).reports = s.reports ∧ (s.markValves c).lines = s.lines ∧ (s.markValves c).memory = s.memory ∧
    (s.markValves c).governors = s.governors ∧ (s.markValves c).hoses = s.hoses ∧
    (s.markValves c).tanks = s.tanks ∧ (s.markValves c).topOffs = s.topOffs ∧
    (s.markValves c).shutdown = s.shutdown ∧ (s.markValves c).nodes = s.nodes ∧
    (s.markValves c).targets = s.targets ∧ (s.markValves c).bus = s.bus ∧ (s.markValves c).link = s.link ∧
    (s.markValves c).charter = s.charter :=
  ⟨rfl, rfl, rfl, rfl, rfl, rfl, rfl, rfl, rfl, rfl, rfl, rfl, rfl, rfl, rfl, rfl, rfl, rfl, rfl⟩

@[simp] theorem Device.markRates_keeps (s : Device) :
    (s.markRates).time = s.time ∧ (s.markRates).half = s.half ∧ (s.markRates).strap = s.strap ∧
    (s.markRates).port = s.port ∧ (s.markRates).jobs = s.jobs ∧ (s.markRates).requests = s.requests ∧
    (s.markRates).reports = s.reports ∧ (s.markRates).lines = s.lines ∧ (s.markRates).memory = s.memory ∧
    (s.markRates).governors = s.governors ∧ (s.markRates).hoses = s.hoses ∧ (s.markRates).tanks = s.tanks ∧
    (s.markRates).topOffs = s.topOffs ∧ (s.markRates).shutdown = s.shutdown ∧ (s.markRates).nodes = s.nodes ∧
    (s.markRates).targets = s.targets ∧ (s.markRates).bus = s.bus ∧ (s.markRates).link = s.link ∧
    (s.markRates).charter = s.charter :=
  ⟨rfl, rfl, rfl, rfl, rfl, rfl, rfl, rfl, rfl, rfl, rfl, rfl, rfl, rfl, rfl, rfl, rfl, rfl, rfl⟩

@[simp] theorem Device.markAll_keeps (s : Device) :
    (s.markAll).time = s.time ∧ (s.markAll).half = s.half ∧ (s.markAll).strap = s.strap ∧
    (s.markAll).port = s.port ∧ (s.markAll).jobs = s.jobs ∧ (s.markAll).requests = s.requests ∧
    (s.markAll).reports = s.reports ∧ (s.markAll).lines = s.lines ∧ (s.markAll).memory = s.memory ∧
    (s.markAll).governors = s.governors ∧ (s.markAll).hoses = s.hoses ∧ (s.markAll).tanks = s.tanks ∧
    (s.markAll).topOffs = s.topOffs ∧ (s.markAll).shutdown = s.shutdown ∧ (s.markAll).nodes = s.nodes ∧
    (s.markAll).targets = s.targets ∧ (s.markAll).bus = s.bus ∧ (s.markAll).link = s.link ∧
    (s.markAll).charter = s.charter :=
  ⟨rfl, rfl, rfl, rfl, rfl, rfl, rfl, rfl, rfl, rfl, rfl, rfl, rfl, rfl, rfl, rfl, rfl, rfl, rfl⟩

@[simp] theorem Device.setLine_keeps (s : Device) (l : Line) (c : LineContext) :
    (s.setLine l c).time = s.time ∧ (s.setLine l c).half = s.half ∧ (s.setLine l c).strap = s.strap ∧
    (s.setLine l c).port = s.port ∧ (s.setLine l c).jobs = s.jobs ∧ (s.setLine l c).requests = s.requests ∧
    (s.setLine l c).reports = s.reports ∧ (s.setLine l c).memory = s.memory ∧
    (s.setLine l c).governors = s.governors ∧ (s.setLine l c).hoses = s.hoses ∧ (s.setLine l c).tanks = s.tanks ∧
    (s.setLine l c).topOffs = s.topOffs ∧ (s.setLine l c).shutdown = s.shutdown ∧ (s.setLine l c).nodes = s.nodes ∧
    (s.setLine l c).targets = s.targets ∧ (s.setLine l c).bus = s.bus ∧ (s.setLine l c).link = s.link ∧
    (s.setLine l c).charter = s.charter :=
  ⟨rfl, rfl, rfl, rfl, rfl, rfl, rfl, rfl, rfl, rfl, rfl, rfl, rfl, rfl, rfl, rfl, rfl, rfl⟩

@[simp] theorem Device.setGovernor_keeps (s : Device) (l : Line) (g : Governor) :
    (s.setGovernor l g).time = s.time ∧ (s.setGovernor l g).half = s.half ∧ (s.setGovernor l g).strap = s.strap ∧
    (s.setGovernor l g).port = s.port ∧ (s.setGovernor l g).jobs = s.jobs ∧
    (s.setGovernor l g).requests = s.requests ∧ (s.setGovernor l g).reports = s.reports ∧
    (s.setGovernor l g).lines = s.lines ∧ (s.setGovernor l g).memory = s.memory ∧
    (s.setGovernor l g).hoses = s.hoses ∧ (s.setGovernor l g).tanks = s.tanks ∧
    (s.setGovernor l g).topOffs = s.topOffs ∧ (s.setGovernor l g).shutdown = s.shutdown ∧
    (s.setGovernor l g).nodes = s.nodes ∧ (s.setGovernor l g).targets = s.targets ∧
    (s.setGovernor l g).bus = s.bus ∧ (s.setGovernor l g).link = s.link ∧ (s.setGovernor l g).charter = s.charter :=
  ⟨rfl, rfl, rfl, rfl, rfl, rfl, rfl, rfl, rfl, rfl, rfl, rfl, rfl, rfl, rfl, rfl, rfl, rfl⟩

@[simp] theorem Device.setHose_keeps (s : Device) (l : Line) (h : Hose) :
    (s.setHose l h).time = s.time ∧ (s.setHose l h).half = s.half ∧ (s.setHose l h).strap = s.strap ∧
    (s.setHose l h).port = s.port ∧ (s.setHose l h).jobs = s.jobs ∧ (s.setHose l h).requests = s.requests ∧
    (s.setHose l h).reports = s.reports ∧ (s.setHose l h).lines = s.lines ∧ (s.setHose l h).memory = s.memory ∧
    (s.setHose l h).governors = s.governors ∧ (s.setHose l h).tanks = s.tanks ∧
    (s.setHose l h).topOffs = s.topOffs ∧ (s.setHose l h).shutdown = s.shutdown ∧ (s.setHose l h).nodes = s.nodes ∧
    (s.setHose l h).targets = s.targets ∧ (s.setHose l h).bus = s.bus ∧ (s.setHose l h).link = s.link ∧
    (s.setHose l h).charter = s.charter :=
  ⟨rfl, rfl, rfl, rfl, rfl, rfl, rfl, rfl, rfl, rfl, rfl, rfl, rfl, rfl, rfl, rfl, rfl, rfl⟩

@[simp] theorem Device.setTopOff_keeps (s : Device) (l : Line) (t : TopOff) :
    (s.setTopOff l t).time = s.time ∧ (s.setTopOff l t).half = s.half ∧ (s.setTopOff l t).strap = s.strap ∧
    (s.setTopOff l t).port = s.port ∧ (s.setTopOff l t).jobs = s.jobs ∧ (s.setTopOff l t).requests = s.requests ∧
    (s.setTopOff l t).reports = s.reports ∧ (s.setTopOff l t).lines = s.lines ∧
    (s.setTopOff l t).memory = s.memory ∧ (s.setTopOff l t).governors = s.governors ∧
    (s.setTopOff l t).hoses = s.hoses ∧ (s.setTopOff l t).tanks = s.tanks ∧
    (s.setTopOff l t).shutdown = s.shutdown ∧ (s.setTopOff l t).nodes = s.nodes ∧
    (s.setTopOff l t).targets = s.targets ∧ (s.setTopOff l t).bus = s.bus ∧ (s.setTopOff l t).link = s.link ∧
    (s.setTopOff l t).charter = s.charter :=
  ⟨rfl, rfl, rfl, rfl, rfl, rfl, rfl, rfl, rfl, rfl, rfl, rfl, rfl, rfl, rfl, rfl, rfl, rfl⟩

@[simp] theorem Device.setSequenceMemory_keeps (s : Device) (l : Line) (m : SequenceMemory) :
    (s.setSequenceMemory l m).time = s.time ∧ (s.setSequenceMemory l m).half = s.half ∧
    (s.setSequenceMemory l m).strap = s.strap ∧ (s.setSequenceMemory l m).port = s.port ∧
    (s.setSequenceMemory l m).jobs = s.jobs ∧ (s.setSequenceMemory l m).marks = s.marks ∧
    (s.setSequenceMemory l m).requests = s.requests ∧ (s.setSequenceMemory l m).reports = s.reports ∧
    (s.setSequenceMemory l m).lines = s.lines ∧ (s.setSequenceMemory l m).governors = s.governors ∧
    (s.setSequenceMemory l m).hoses = s.hoses ∧ (s.setSequenceMemory l m).tanks = s.tanks ∧
    (s.setSequenceMemory l m).topOffs = s.topOffs ∧ (s.setSequenceMemory l m).shutdown = s.shutdown ∧
    (s.setSequenceMemory l m).nodes = s.nodes ∧ (s.setSequenceMemory l m).targets = s.targets ∧
    (s.setSequenceMemory l m).bus = s.bus ∧ (s.setSequenceMemory l m).link = s.link ∧
    (s.setSequenceMemory l m).charter = s.charter :=
  ⟨rfl, rfl, rfl, rfl, rfl, rfl, rfl, rfl, rfl, rfl, rfl, rfl, rfl, rfl, rfl, rfl, rfl, rfl, rfl⟩

@[simp] theorem Device.setTank_keeps (s : Device) (t : TankNo) (e : Tank) :
    (s.setTank t e).time = s.time ∧ (s.setTank t e).half = s.half ∧ (s.setTank t e).strap = s.strap ∧
    (s.setTank t e).port = s.port ∧ (s.setTank t e).jobs = s.jobs ∧ (s.setTank t e).requests = s.requests ∧
    (s.setTank t e).reports = s.reports ∧ (s.setTank t e).lines = s.lines ∧ (s.setTank t e).memory = s.memory ∧
    (s.setTank t e).governors = s.governors ∧ (s.setTank t e).hoses = s.hoses ∧
    (s.setTank t e).topOffs = s.topOffs ∧ (s.setTank t e).shutdown = s.shutdown ∧ (s.setTank t e).nodes = s.nodes ∧
    (s.setTank t e).targets = s.targets ∧ (s.setTank t e).bus = s.bus ∧ (s.setTank t e).link = s.link ∧
    (s.setTank t e).charter = s.charter :=
  ⟨rfl, rfl, rfl, rfl, rfl, rfl, rfl, rfl, rfl, rfl, rfl, rfl, rfl, rfl, rfl, rfl, rfl, rfl⟩

@[simp] theorem Device.setNode_keeps (s : Device) (n : NodeNo) (e : Node) :
    (s.setNode n e).time = s.time ∧ (s.setNode n e).half = s.half ∧ (s.setNode n e).strap = s.strap ∧
    (s.setNode n e).port = s.port ∧ (s.setNode n e).jobs = s.jobs ∧ (s.setNode n e).requests = s.requests ∧
    (s.setNode n e).reports = s.reports ∧ (s.setNode n e).lines = s.lines ∧ (s.setNode n e).memory = s.memory ∧
    (s.setNode n e).governors = s.governors ∧ (s.setNode n e).hoses = s.hoses ∧ (s.setNode n e).tanks = s.tanks ∧
    (s.setNode n e).topOffs = s.topOffs ∧ (s.setNode n e).shutdown = s.shutdown ∧
    (s.setNode n e).targets = s.targets ∧ (s.setNode n e).bus = s.bus ∧ (s.setNode n e).link = s.link ∧
    (s.setNode n e).charter = s.charter :=
  ⟨rfl, rfl, rfl, rfl, rfl, rfl, rfl, rfl, rfl, rfl, rfl, rfl, rfl, rfl, rfl, rfl, rfl, rfl⟩

@[simp] theorem Device.setTarget_keeps (s : Device) (n : NodeNo) (t : TargetInForce) :
    (s.setTarget n t).time = s.time ∧ (s.setTarget n t).half = s.half ∧ (s.setTarget n t).strap = s.strap ∧
    (s.setTarget n t).port = s.port ∧ (s.setTarget n t).jobs = s.jobs ∧ (s.setTarget n t).requests = s.requests ∧
    (s.setTarget n t).reports = s.reports ∧ (s.setTarget n t).lines = s.lines ∧
    (s.setTarget n t).memory = s.memory ∧ (s.setTarget n t).governors = s.governors ∧
    (s.setTarget n t).hoses = s.hoses ∧ (s.setTarget n t).tanks = s.tanks ∧ (s.setTarget n t).topOffs = s.topOffs ∧
    (s.setTarget n t).shutdown = s.shutdown ∧ (s.setTarget n t).nodes = s.nodes ∧ (s.setTarget n t).bus = s.bus ∧
    (s.setTarget n t).link = s.link ∧ (s.setTarget n t).charter = s.charter :=
  ⟨rfl, rfl, rfl, rfl, rfl, rfl, rfl, rfl, rfl, rfl, rfl, rfl, rfl, rfl, rfl, rfl, rfl, rfl⟩

@[simp] theorem Device.setShutdown_keeps (s : Device) (e : Shutdown) :
    (s.setShutdown e).time = s.time ∧ (s.setShutdown e).half = s.half ∧ (s.setShutdown e).strap = s.strap ∧
    (s.setShutdown e).port = s.port ∧ (s.setShutdown e).jobs = s.jobs ∧ (s.setShutdown e).requests = s.requests ∧
    (s.setShutdown e).reports = s.reports ∧ (s.setShutdown e).lines = s.lines ∧
    (s.setShutdown e).memory = s.memory ∧ (s.setShutdown e).governors = s.governors ∧
    (s.setShutdown e).hoses = s.hoses ∧ (s.setShutdown e).tanks = s.tanks ∧ (s.setShutdown e).topOffs = s.topOffs ∧
    (s.setShutdown e).nodes = s.nodes ∧ (s.setShutdown e).targets = s.targets ∧ (s.setShutdown e).bus = s.bus ∧
    (s.setShutdown e).link = s.link ∧ (s.setShutdown e).charter = s.charter :=
  ⟨rfl, rfl, rfl, rfl, rfl, rfl, rfl, rfl, rfl, rfl, rfl, rfl, rfl, rfl, rfl, rfl, rfl, rfl⟩

@[simp] theorem Device.setLink_keeps (s : Device) (k : Link) :
    (s.setLink k).time = s.time ∧ (s.setLink k).half = s.half ∧ (s.setLink k).strap = s.strap ∧
    (s.setLink k).port = s.port ∧ (s.setLink k).jobs = s.jobs ∧ (s.setLink k).requests = s.requests ∧
    (s.setLink k).reports = s.reports ∧ (s.setLink k).lines = s.lines ∧ (s.setLink k).memory = s.memory ∧
    (s.setLink k).governors = s.governors ∧ (s.setLink k).hoses = s.hoses ∧ (s.setLink k).tanks = s.tanks ∧
    (s.setLink k).topOffs = s.topOffs ∧ (s.setLink k).shutdown = s.shutdown ∧ (s.setLink k).nodes = s.nodes ∧
    (s.setLink k).targets = s.targets ∧ (s.setLink k).bus = s.bus ∧ (s.setLink k).charter = s.charter :=
  ⟨rfl, rfl, rfl, rfl, rfl, rfl, rfl, rfl, rfl, rfl, rfl, rfl, rfl, rfl, rfl, rfl, rfl, rfl⟩

@[simp] theorem Device.setCharter_keeps (s : Device) (c : CharterUnit) :
    (s.setCharter c).time = s.time ∧ (s.setCharter c).half = s.half ∧ (s.setCharter c).strap = s.strap ∧
    (s.setCharter c).port = s.port ∧ (s.setCharter c).jobs = s.jobs ∧ (s.setCharter c).requests = s.requests ∧
    (s.setCharter c).reports = s.reports ∧ (s.setCharter c).lines = s.lines ∧ (s.setCharter c).memory = s.memory ∧
    (s.setCharter c).governors = s.governors ∧ (s.setCharter c).hoses = s.hoses ∧
    (s.setCharter c).tanks = s.tanks ∧ (s.setCharter c).topOffs = s.topOffs ∧
    (s.setCharter c).shutdown = s.shutdown ∧ (s.setCharter c).nodes = s.nodes ∧
    (s.setCharter c).targets = s.targets ∧ (s.setCharter c).bus = s.bus ∧ (s.setCharter c).link = s.link :=
  ⟨rfl, rfl, rfl, rfl, rfl, rfl, rfl, rfl, rfl, rfl, rfl, rfl, rfl, rfl, rfl, rfl, rfl, rfl⟩

@[simp] theorem Device.setBusMode_keeps (s : Device) (m : BusMode) :
    (s.setBusMode m).time = s.time ∧ (s.setBusMode m).half = s.half ∧ (s.setBusMode m).strap = s.strap ∧
    (s.setBusMode m).port = s.port ∧ (s.setBusMode m).jobs = s.jobs ∧ (s.setBusMode m).requests = s.requests ∧
    (s.setBusMode m).reports = s.reports ∧ (s.setBusMode m).lines = s.lines ∧ (s.setBusMode m).memory = s.memory ∧
    (s.setBusMode m).governors = s.governors ∧ (s.setBusMode m).hoses = s.hoses ∧
    (s.setBusMode m).tanks = s.tanks ∧ (s.setBusMode m).topOffs = s.topOffs ∧
    (s.setBusMode m).shutdown = s.shutdown ∧ (s.setBusMode m).nodes = s.nodes ∧
    (s.setBusMode m).targets = s.targets ∧ (s.setBusMode m).link = s.link ∧ (s.setBusMode m).charter = s.charter :=
  ⟨rfl, rfl, rfl, rfl, rfl, rfl, rfl, rfl, rfl, rfl, rfl, rfl, rfl, rfl, rfl, rfl, rfl, rfl⟩

/-! ## What each setter stores -/

@[simp] theorem Device.setLine_line (s : Device) (l m : Line) (c : LineContext) :
    (s.setLine l c).line m = if m = l then c else s.line m :=
  PerLine.get_set s.lines l m c

@[simp] theorem Device.setGovernor_governor (s : Device) (l m : Line) (c : Governor) :
    (s.setGovernor l c).governor m = if m = l then c else s.governor m :=
  PerLine.get_set s.governors l m c

@[simp] theorem Device.setHose_hose (s : Device) (l m : Line) (c : Hose) :
    (s.setHose l c).hose m = if m = l then c else s.hose m :=
  PerLine.get_set s.hoses l m c

@[simp] theorem Device.setTopOff_topOff (s : Device) (l m : Line) (c : TopOff) :
    (s.setTopOff l c).topOff m = if m = l then c else s.topOff m :=
  PerLine.get_set s.topOffs l m c

@[simp] theorem Device.setSequenceMemory_sequenceMemory (s : Device) (l m : Line) (c : SequenceMemory) :
    (s.setSequenceMemory l c).sequenceMemory m = if m = l then c else s.sequenceMemory m :=
  PerLine.get_set s.memory l m c

@[simp] theorem Device.setTank_tank (s : Device) (t u : TankNo) (e : Tank) :
    (s.setTank t e).tank u = if u = t then some e else s.tank u :=
  get_putAt s.tanks t u (some e)

@[simp] theorem Device.setNode_node (s : Device) (n m : NodeNo) (e : Node) :
    (s.setNode n e).node m = if m = n then e else s.node m :=
  get_putAt s.nodes n m e

@[simp] theorem Device.setTarget_targets (s : Device) (n : NodeNo) (t : TargetInForce) :
    (s.setTarget n t).targets = putAt s.targets n t := rfl

@[simp] theorem Device.setShutdown_shutdown (s : Device) (e : Shutdown) : (s.setShutdown e).shutdown = e := rfl

@[simp] theorem Device.setLink_link (s : Device) (k : Link) : (s.setLink k).link = k := rfl

@[simp] theorem Device.setCharter_charter (s : Device) (c : CharterUnit) : (s.setCharter c).charter = c := rfl

@[simp] theorem Device.setBusMode_bus (s : Device) (m : BusMode) : (s.setBusMode m).bus = { s.bus with mode := m } := rfl

/-! ## The accessors read one field -/

theorem Device.line_congr (s u : Device) (l : Line) (h : s.lines = u.lines) :
    s.line l = u.line l := by
  unfold Device.line; rw [h]

theorem Device.governor_congr (s u : Device) (l : Line) (h : s.governors = u.governors) :
    s.governor l = u.governor l := by
  unfold Device.governor; rw [h]

theorem Device.hose_congr (s u : Device) (l : Line) (h : s.hoses = u.hoses) :
    s.hose l = u.hose l := by
  unfold Device.hose; rw [h]

theorem Device.topOff_congr (s u : Device) (l : Line) (h : s.topOffs = u.topOffs) :
    s.topOff l = u.topOff l := by
  unfold Device.topOff; rw [h]

theorem Device.sequenceMemory_congr (s u : Device) (l : Line) (h : s.memory = u.memory) :
    s.sequenceMemory l = u.sequenceMemory l := by
  unfold Device.sequenceMemory; rw [h]

theorem Device.tank_congr (s u : Device) (t : TankNo) (h : s.tanks = u.tanks) :
    s.tank t = u.tank t := by
  unfold Device.tank; rw [h]

theorem Device.node_congr (s u : Device) (n : NodeNo) (h : s.nodes = u.nodes) :
    s.node n = u.node n := by
  unfold Device.node; rw [h]

end Sys2Proof.Machine
end

