-- ==== Sys2Proof/Laws/Plant.lean ====
section
/-! SUPPORT. What reports, claims, the governor, a change of line state, the shutdown unit, the line controller, the tank
watch and the end of a transaction keep: the one thing a proof needs of an operation that it does not look into. -/

namespace Sys2Proof.Machine

open Sys2Proof

/-! ## What most operations keep of the nodes and of the bus -/

theorem Device.stills_of_nodes (s u : Device) (h : s.nodes = u.nodes) : s.stills = u.stills := by
  unfold Device.stills Device.node; rw [h]

theorem Device.valves_of_nodes (s u : Device) (h : s.nodes = u.nodes) : s.valves = u.valves := by
  unfold Device.valves Device.node; rw [h]

theorem Device.slotNode_of_bus (s u : Device) (h : s.bus = u.bus) : s.slotNode = u.slotNode := by
  unfold Device.slotNode; rw [h]

theorem Device.setNode_stills (s : Device) (n : NodeNo) (e : Node) (h : e.still = (s.node n).still) :
    (s.setNode n e).stills = s.stills := by
  funext m
  unfold Device.stills
  rw [Device.setNode_node]
  split
  · next hm => rw [hm, h]
  · rfl

theorem Device.setNode_valves (s : Device) (n : NodeNo) (e : Node) (h : e.valve = (s.node n).valve) :
    (s.setNode n e).valves = s.valves := by
  funext m
  unfold Device.valves
  rw [Device.setNode_node]
  split
  · next hm => rw [hm, h]
  · rfl

@[simp] theorem Device.setQueued_still (s : Device) (n : NodeNo) (q : Option Claim) :
    (s.setNode n { s.node n with queued := q }).stills = s.stills ∧
    (s.setNode n { s.node n with queued := q }).valves = s.valves :=
  ⟨s.setNode_stills n _ rfl, s.setNode_valves n _ rfl⟩

@[simp] theorem Device.setInFlightSlot_still (s : Device) (n : NodeNo) (t : Option Transaction) :
    (s.setNode n { s.node n with inFlight := t }).stills = s.stills ∧
    (s.setNode n { s.node n with inFlight := t }).valves = s.valves :=
  ⟨s.setNode_stills n _ rfl, s.setNode_valves n _ rfl⟩

@[simp] theorem Device.setSlotAndValve_stills (s : Device) (n : NodeNo) (t : Option Transaction) (v : ValveState) :
    (s.setNode n { s.node n with inFlight := t, valve := v }).stills = s.stills :=
  s.setNode_stills n _ rfl

@[simp] theorem Device.setValve_stills (s : Device) (n : NodeNo) (v : ValveState) :
    (s.setNode n { s.node n with valve := v }).stills = s.stills :=
  s.setNode_stills n _ rfl

/-- A value that every step of a fold keeps is kept by the fold. -/
theorem foldl_keeps {α β γ : Type} (p : α → γ) (f : α → β → α) (h : ∀ s x, p (f s x) = p s) (xs : List β) (s : α) :
    p (xs.foldl f s) = p s := by
  induction xs generalizing s with
  | nil => rfl
  | cons x xs ih => rw [List.foldl_cons, ih, h]

/-! ## Setters -/

@[simp] theorem Device.markStatus_still (s : Device) (c : Bool) :
    (s.markStatus c).stills = s.stills ∧ (s.markStatus c).valves = s.valves ∧ (s.markStatus c).slotNode = s.slotNode :=
  ⟨rfl, rfl, rfl⟩

@[simp] theorem Device.markLine_still (s : Device) (l : Line) (c : Bool) :
    (s.markLine l c).stills = s.stills ∧ (s.markLine l c).valves = s.valves ∧ (s.markLine l c).slotNode = s.slotNode :=
  ⟨rfl, rfl, rfl⟩

@[simp] theorem Device.markTank_still (s : Device) (t : TankNo) :
    (s.markTank t).stills = s.stills ∧ (s.markTank t).valves = s.valves ∧ (s.markTank t).slotNode = s.slotNode :=
  ⟨rfl, rfl, rfl⟩

@[simp] theorem Device.markNode_still (s : Device) (n : NodeNo) (c : Bool) :
    (s.markNode n c).stills = s.stills ∧ (s.markNode n c).valves = s.valves ∧ (s.markNode n c).slotNode = s.slotNode :=
  ⟨rfl, rfl, rfl⟩

@[simp] theorem Device.markValves_still (s : Device) (c : Bool) :
    (s.markValves c).stills = s.stills ∧ (s.markValves c).valves = s.valves ∧ (s.markValves c).slotNode = s.slotNode :=
  ⟨rfl, rfl, rfl⟩

@[simp] theorem Device.markRates_still (s : Device) :
    (s.markRates).stills = s.stills ∧ (s.markRates).valves = s.valves ∧ (s.markRates).slotNode = s.slotNode :=
  ⟨rfl, rfl, rfl⟩

@[simp] theorem Device.markAll_still (s : Device) :
    (s.markAll).stills = s.stills ∧ (s.markAll).valves = s.valves ∧ (s.markAll).slotNode = s.slotNode :=
  ⟨rfl, rfl, rfl⟩

@[simp] theorem Device.setLine_still (s : Device) (l : Line) (c : LineContext) :
    (s.setLine l c).stills = s.stills ∧ (s.setLine l c).valves = s.valves ∧ (s.setLine l c).slotNode = s.slotNode :=
  ⟨rfl, rfl, rfl⟩

@[simp] theorem Device.setGovernor_still (s : Device) (l : Line) (g : Governor) :
    (s.setGovernor l g).stills = s.stills ∧ (s.setGovernor l g).valves = s.valves ∧ (s.setGovernor l g).slotNode = s.slotNode :=
  ⟨rfl, rfl, rfl⟩

@[simp] theorem Device.setHose_still (s : Device) (l : Line) (h : Hose) :
    (s.setHose l h).stills = s.stills ∧ (s.setHose l h).valves = s.valves ∧ (s.setHose l h).slotNode = s.slotNode :=
  ⟨rfl, rfl, rfl⟩

@[simp] theorem Device.setTopOff_still (s : Device) (l : Line) (t : TopOff) :
    (s.setTopOff l t).stills = s.stills ∧ (s.setTopOff l t).valves = s.valves ∧ (s.setTopOff l t).slotNode = s.slotNode :=
  ⟨rfl, rfl, rfl⟩

@[simp] theorem Device.setSequenceMemory_still (s : Device) (l : Line) (m : SequenceMemory) :
    (s.setSequenceMemory l m).stills = s.stills ∧ (s.setSequenceMemory l m).valves = s.valves ∧ (s.setSequenceMemory l m).slotNode = s.slotNode :=
  ⟨rfl, rfl, rfl⟩

@[simp] theorem Device.setTank_still (s : Device) (t : TankNo) (e : Tank) :
    (s.setTank t e).stills = s.stills ∧ (s.setTank t e).valves = s.valves ∧ (s.setTank t e).slotNode = s.slotNode :=
  ⟨rfl, rfl, rfl⟩

@[simp] theorem Device.setTarget_still (s : Device) (n : NodeNo) (t : TargetInForce) :
    (s.setTarget n t).stills = s.stills ∧ (s.setTarget n t).valves = s.valves ∧ (s.setTarget n t).slotNode = s.slotNode :=
  ⟨rfl, rfl, rfl⟩

@[simp] theorem Device.setShutdown_still (s : Device) (e : Shutdown) :
    (s.setShutdown e).stills = s.stills ∧ (s.setShutdown e).valves = s.valves ∧ (s.setShutdown e).slotNode = s.slotNode :=
  ⟨rfl, rfl, rfl⟩

@[simp] theorem Device.setLink_still (s : Device) (k : Link) :
    (s.setLink k).stills = s.stills ∧ (s.setLink k).valves = s.valves ∧ (s.setLink k).slotNode = s.slotNode :=
  ⟨rfl, rfl, rfl⟩

@[simp] theorem Device.setCharter_still (s : Device) (c : CharterUnit) :
    (s.setCharter c).stills = s.stills ∧ (s.setCharter c).valves = s.valves ∧ (s.setCharter c).slotNode = s.slotNode :=
  ⟨rfl, rfl, rfl⟩

@[simp] theorem Device.setBusMode_still (s : Device) (m : BusMode) :
    (s.setBusMode m).stills = s.stills ∧ (s.setBusMode m).valves = s.valves ∧ (s.setBusMode m).slotNode = s.slotNode :=
  ⟨rfl, rfl, rfl⟩

@[simp] theorem Device.setNode_slotNode (s : Device) (n : NodeNo) (e : Node) : (s.setNode n e).slotNode = s.slotNode := rfl

/-! ## Reports -/

@[simp] theorem Device.countOverrun_keeps (s : Device) (n : Nat) :
    (s.countOverrun n).time = s.time ∧ (s.countOverrun n).half = s.half ∧ (s.countOverrun n).strap = s.strap ∧
    (s.countOverrun n).port = s.port ∧ (s.countOverrun n).jobs = s.jobs ∧
    (s.countOverrun n).requests = s.requests ∧ (s.countOverrun n).lines = s.lines ∧
    (s.countOverrun n).memory = s.memory ∧ (s.countOverrun n).governors = s.governors ∧
    (s.countOverrun n).hoses = s.hoses ∧ (s.countOverrun n).tanks = s.tanks ∧
    (s.countOverrun n).topOffs = s.topOffs ∧ (s.countOverrun n).shutdown = s.shutdown ∧
    (s.countOverrun n).nodes = s.nodes ∧ (s.countOverrun n).targets = s.targets ∧ (s.countOverrun n).bus = s.bus ∧
    (s.countOverrun n).link = s.link ∧ (s.countOverrun n).charter = s.charter ∧
    (s.countOverrun n).reports.usable = s.reports.usable ∧
    (s.countOverrun n).reports.producer = s.reports.producer ∧
    (s.countOverrun n).reports.consumer = s.reports.consumer ∧
    (s.countOverrun n).reports.producerInMemory = s.reports.producerInMemory ∧
    (s.countOverrun n).reports.interrupt = s.reports.interrupt ∧ (s.countOverrun n).stills = s.stills ∧
    (s.countOverrun n).valves = s.valves ∧ (s.countOverrun n).slotNode = s.slotNode := by
  exact ⟨rfl, rfl, rfl, rfl, rfl, rfl, rfl, rfl, rfl, rfl, rfl, rfl, rfl, rfl, rfl, rfl, rfl, rfl, rfl, rfl, rfl, rfl, rfl, rfl, rfl, rfl⟩

@[simp] theorem Device.enqueueReport_keeps (s : Device) (r : Report) :
    (s.enqueueReport r).time = s.time ∧ (s.enqueueReport r).half = s.half ∧ (s.enqueueReport r).strap = s.strap ∧
    (s.enqueueReport r).port = s.port ∧ (s.enqueueReport r).jobs = s.jobs ∧
    (s.enqueueReport r).requests = s.requests ∧ (s.enqueueReport r).lines = s.lines ∧
    (s.enqueueReport r).memory = s.memory ∧ (s.enqueueReport r).governors = s.governors ∧
    (s.enqueueReport r).hoses = s.hoses ∧ (s.enqueueReport r).tanks = s.tanks ∧
    (s.enqueueReport r).topOffs = s.topOffs ∧ (s.enqueueReport r).shutdown = s.shutdown ∧
    (s.enqueueReport r).nodes = s.nodes ∧ (s.enqueueReport r).targets = s.targets ∧
    (s.enqueueReport r).bus = s.bus ∧ (s.enqueueReport r).link = s.link ∧ (s.enqueueReport r).charter = s.charter ∧
    (s.enqueueReport r).reports.usable = s.reports.usable ∧
    (s.enqueueReport r).reports.producer = s.reports.producer ∧
    (s.enqueueReport r).reports.consumer = s.reports.consumer ∧
    (s.enqueueReport r).reports.producerInMemory = s.reports.producerInMemory ∧
    (s.enqueueReport r).reports.interrupt = s.reports.interrupt ∧ (s.enqueueReport r).stills = s.stills ∧
    (s.enqueueReport r).valves = s.valves ∧ (s.enqueueReport r).slotNode = s.slotNode := by
  unfold Device.enqueueReport; (repeat' split) <;> first | exact ⟨rfl, rfl, rfl, rfl, rfl, rfl, rfl, rfl, rfl, rfl, rfl, rfl, rfl, rfl, rfl, rfl, rfl, rfl, rfl, rfl, rfl, rfl, rfl, rfl, rfl, rfl⟩ | simp

@[simp] theorem Device.submit_keeps (s : Device) (k : ReportKind) (l n : Nat) (c : ReportCause) (a b : Word) :
    (s.submit k l n c a b).time = s.time ∧ (s.submit k l n c a b).half = s.half ∧
    (s.submit k l n c a b).strap = s.strap ∧ (s.submit k l n c a b).port = s.port ∧
    (s.submit k l n c a b).jobs = s.jobs ∧ (s.submit k l n c a b).requests = s.requests ∧
    (s.submit k l n c a b).lines = s.lines ∧ (s.submit k l n c a b).memory = s.memory ∧
    (s.submit k l n c a b).governors = s.governors ∧ (s.submit k l n c a b).hoses = s.hoses ∧
    (s.submit k l n c a b).tanks = s.tanks ∧ (s.submit k l n c a b).topOffs = s.topOffs ∧
    (s.submit k l n c a b).shutdown = s.shutdown ∧ (s.submit k l n c a b).nodes = s.nodes ∧
    (s.submit k l n c a b).targets = s.targets ∧ (s.submit k l n c a b).bus = s.bus ∧
    (s.submit k l n c a b).link = s.link ∧ (s.submit k l n c a b).charter = s.charter ∧
    (s.submit k l n c a b).reports.usable = s.reports.usable ∧
    (s.submit k l n c a b).reports.producer = s.reports.producer ∧
    (s.submit k l n c a b).reports.consumer = s.reports.consumer ∧
    (s.submit k l n c a b).reports.producerInMemory = s.reports.producerInMemory ∧
    (s.submit k l n c a b).reports.interrupt = s.reports.interrupt ∧ (s.submit k l n c a b).stills = s.stills ∧
    (s.submit k l n c a b).valves = s.valves ∧ (s.submit k l n c a b).slotNode = s.slotNode := by
  unfold Device.submit; simp

@[simp] theorem Device.enqueueAhead_keeps (s : Device) (r : Report) :
    (s.enqueueAhead r).time = s.time ∧ (s.enqueueAhead r).half = s.half ∧ (s.enqueueAhead r).strap = s.strap ∧
    (s.enqueueAhead r).port = s.port ∧ (s.enqueueAhead r).jobs = s.jobs ∧
    (s.enqueueAhead r).requests = s.requests ∧ (s.enqueueAhead r).lines = s.lines ∧
    (s.enqueueAhead r).memory = s.memory ∧ (s.enqueueAhead r).governors = s.governors ∧
    (s.enqueueAhead r).hoses = s.hoses ∧ (s.enqueueAhead r).tanks = s.tanks ∧
    (s.enqueueAhead r).topOffs = s.topOffs ∧ (s.enqueueAhead r).shutdown = s.shutdown ∧
    (s.enqueueAhead r).nodes = s.nodes ∧ (s.enqueueAhead r).targets = s.targets ∧ (s.enqueueAhead r).bus = s.bus ∧
    (s.enqueueAhead r).link = s.link ∧ (s.enqueueAhead r).charter = s.charter ∧
    (s.enqueueAhead r).reports.usable = s.reports.usable ∧
    (s.enqueueAhead r).reports.producer = s.reports.producer ∧
    (s.enqueueAhead r).reports.consumer = s.reports.consumer ∧
    (s.enqueueAhead r).reports.producerInMemory = s.reports.producerInMemory ∧
    (s.enqueueAhead r).reports.interrupt = s.reports.interrupt ∧ (s.enqueueAhead r).stills = s.stills ∧
    (s.enqueueAhead r).valves = s.valves ∧ (s.enqueueAhead r).slotNode = s.slotNode := by
  unfold Device.enqueueAhead; (try dsimp only); (repeat' split) <;> first | exact ⟨rfl, rfl, rfl, rfl, rfl, rfl, rfl, rfl, rfl, rfl, rfl, rfl, rfl, rfl, rfl, rfl, rfl, rfl, rfl, rfl, rfl, rfl, rfl, rfl, rfl, rfl⟩ | simp

@[simp] theorem Device.placeReports_keeps (s : Device) :
    (s.placeReports).time = s.time ∧ (s.placeReports).half = s.half ∧ (s.placeReports).strap = s.strap ∧
    (s.placeReports).port = s.port ∧ (s.placeReports).jobs = s.jobs ∧ (s.placeReports).marks = s.marks ∧
    (s.placeReports).requests = s.requests ∧ (s.placeReports).lines = s.lines ∧
    (s.placeReports).memory = s.memory ∧ (s.placeReports).governors = s.governors ∧
    (s.placeReports).hoses = s.hoses ∧ (s.placeReports).tanks = s.tanks ∧ (s.placeReports).topOffs = s.topOffs ∧
    (s.placeReports).shutdown = s.shutdown ∧ (s.placeReports).nodes = s.nodes ∧
    (s.placeReports).targets = s.targets ∧ (s.placeReports).bus = s.bus ∧ (s.placeReports).link = s.link ∧
    (s.placeReports).charter = s.charter ∧ (s.placeReports).reports.usable = s.reports.usable ∧
    (s.placeReports).reports.producer = s.reports.producer ∧
    (s.placeReports).reports.consumer = s.reports.consumer ∧
    (s.placeReports).reports.producerInMemory = s.reports.producerInMemory ∧
    (s.placeReports).reports.interrupt = s.reports.interrupt ∧ (s.placeReports).stills = s.stills ∧
    (s.placeReports).valves = s.valves ∧ (s.placeReports).slotNode = s.slotNode ∧
    (s.placeReports).reports.queue = s.reports.queue ∧ (s.placeReports).reports.overrun = s.reports.overrun := by
  exact ⟨rfl, rfl, rfl, rfl, rfl, rfl, rfl, rfl, rfl, rfl, rfl, rfl, rfl, rfl, rfl, rfl, rfl, rfl, rfl, rfl, rfl, rfl, rfl, rfl, rfl, rfl, rfl, rfl, rfl⟩

@[simp] theorem Device.takeBusMode_keeps (s : Device) :
    (s.takeBusMode).time = s.time ∧ (s.takeBusMode).half = s.half ∧ (s.takeBusMode).strap = s.strap ∧
    (s.takeBusMode).port = s.port ∧ (s.takeBusMode).jobs = s.jobs ∧ (s.takeBusMode).requests = s.requests ∧
    (s.takeBusMode).reports = s.reports ∧ (s.takeBusMode).lines = s.lines ∧ (s.takeBusMode).memory = s.memory ∧
    (s.takeBusMode).governors = s.governors ∧ (s.takeBusMode).hoses = s.hoses ∧ (s.takeBusMode).tanks = s.tanks ∧
    (s.takeBusMode).topOffs = s.topOffs ∧ (s.takeBusMode).shutdown = s.shutdown ∧ (s.takeBusMode).nodes = s.nodes ∧
    (s.takeBusMode).targets = s.targets ∧ (s.takeBusMode).link = s.link ∧ (s.takeBusMode).charter = s.charter ∧
    (s.takeBusMode).stills = s.stills ∧ (s.takeBusMode).valves = s.valves ∧ (s.takeBusMode).bus.tail = s.bus.tail ∧
    (s.takeBusMode).bus.lastStart = s.bus.lastStart ∧ (s.takeBusMode).bus.idleScan = s.bus.idleScan ∧
    (s.takeBusMode).bus.startHeld = s.bus.startHeld ∧ (s.takeBusMode).slotNode = s.slotNode := by
  unfold Device.takeBusMode; (try dsimp only); (repeat' split) <;> simp <;> exact ⟨rfl, rfl, rfl⟩

@[simp] theorem Device.reportDropped_keeps (s : Device) (n : NodeNo) (c : Claim) (d : DropCause) :
    (s.reportDropped n c d).time = s.time ∧ (s.reportDropped n c d).half = s.half ∧
    (s.reportDropped n c d).strap = s.strap ∧ (s.reportDropped n c d).port = s.port ∧
    (s.reportDropped n c d).jobs = s.jobs ∧ (s.reportDropped n c d).requests = s.requests ∧
    (s.reportDropped n c d).lines = s.lines ∧ (s.reportDropped n c d).memory = s.memory ∧
    (s.reportDropped n c d).governors = s.governors ∧ (s.reportDropped n c d).hoses = s.hoses ∧
    (s.reportDropped n c d).tanks = s.tanks ∧ (s.reportDropped n c d).topOffs = s.topOffs ∧
    (s.reportDropped n c d).shutdown = s.shutdown ∧ (s.reportDropped n c d).nodes = s.nodes ∧
    (s.reportDropped n c d).targets = s.targets ∧ (s.reportDropped n c d).bus = s.bus ∧
    (s.reportDropped n c d).link = s.link ∧ (s.reportDropped n c d).charter = s.charter ∧
    (s.reportDropped n c d).reports.usable = s.reports.usable ∧
    (s.reportDropped n c d).reports.producer = s.reports.producer ∧
    (s.reportDropped n c d).reports.consumer = s.reports.consumer ∧
    (s.reportDropped n c d).reports.producerInMemory = s.reports.producerInMemory ∧
    (s.reportDropped n c d).reports.interrupt = s.reports.interrupt ∧ (s.reportDropped n c d).stills = s.stills ∧
    (s.reportDropped n c d).valves = s.valves ∧ (s.reportDropped n c d).slotNode = s.slotNode := by
  unfold Device.reportDropped; (try dsimp only); (repeat' split) <;> simp

@[simp] theorem Device.reportEnd_keeps (s : Device) (n : NodeNo) (a : Act) (o : TxOutcome) :
    (s.reportEnd n a o).time = s.time ∧ (s.reportEnd n a o).half = s.half ∧ (s.reportEnd n a o).strap = s.strap ∧
    (s.reportEnd n a o).port = s.port ∧ (s.reportEnd n a o).jobs = s.jobs ∧
    (s.reportEnd n a o).requests = s.requests ∧ (s.reportEnd n a o).lines = s.lines ∧
    (s.reportEnd n a o).memory = s.memory ∧ (s.reportEnd n a o).governors = s.governors ∧
    (s.reportEnd n a o).hoses = s.hoses ∧ (s.reportEnd n a o).tanks = s.tanks ∧
    (s.reportEnd n a o).topOffs = s.topOffs ∧ (s.reportEnd n a o).shutdown = s.shutdown ∧
    (s.reportEnd n a o).nodes = s.nodes ∧ (s.reportEnd n a o).targets = s.targets ∧
    (s.reportEnd n a o).bus = s.bus ∧ (s.reportEnd n a o).link = s.link ∧ (s.reportEnd n a o).charter = s.charter ∧
    (s.reportEnd n a o).reports.usable = s.reports.usable ∧
    (s.reportEnd n a o).reports.producer = s.reports.producer ∧
    (s.reportEnd n a o).reports.consumer = s.reports.consumer ∧
    (s.reportEnd n a o).reports.producerInMemory = s.reports.producerInMemory ∧
    (s.reportEnd n a o).reports.interrupt = s.reports.interrupt ∧ (s.reportEnd n a o).stills = s.stills ∧
    (s.reportEnd n a o).valves = s.valves ∧ (s.reportEnd n a o).slotNode = s.slotNode := by
  unfold Device.reportEnd; (try dsimp only); (repeat' split) <;> simp

/-! ## Claims (R118 to R125) -/

@[simp] theorem Device.displaceQueued_keeps (s : Device) (n : NodeNo) (o : Origin) :
    (s.displaceQueued n o).time = s.time ∧ (s.displaceQueued n o).half = s.half ∧
    (s.displaceQueued n o).strap = s.strap ∧ (s.displaceQueued n o).port = s.port ∧
    (s.displaceQueued n o).jobs = s.jobs ∧ (s.displaceQueued n o).requests = s.requests ∧
    (s.displaceQueued n o).lines = s.lines ∧ (s.displaceQueued n o).memory = s.memory ∧
    (s.displaceQueued n o).governors = s.governors ∧ (s.displaceQueued n o).hoses = s.hoses ∧
    (s.displaceQueued n o).tanks = s.tanks ∧ (s.displaceQueued n o).topOffs = s.topOffs ∧
    (s.displaceQueued n o).shutdown = s.shutdown ∧ (s.displaceQueued n o).targets = s.targets ∧
    (s.displaceQueued n o).bus = s.bus ∧ (s.displaceQueued n o).link = s.link ∧
    (s.displaceQueued n o).charter = s.charter ∧ (s.displaceQueued n o).reports.usable = s.reports.usable ∧
    (s.displaceQueued n o).reports.producer = s.reports.producer ∧
    (s.displaceQueued n o).reports.consumer = s.reports.consumer ∧
    (s.displaceQueued n o).reports.producerInMemory = s.reports.producerInMemory ∧
    (s.displaceQueued n o).reports.interrupt = s.reports.interrupt ∧ (s.displaceQueued n o).stills = s.stills ∧
    (s.displaceQueued n o).valves = s.valves ∧ (s.displaceQueued n o).slotNode = s.slotNode := by
  unfold Device.displaceQueued; (try dsimp only); (repeat' split) <;> simp

@[simp] theorem Device.takeTarget_keeps (s : Device) (n : NodeNo) (a : Act) :
    (s.takeTarget n a).time = s.time ∧ (s.takeTarget n a).half = s.half ∧ (s.takeTarget n a).strap = s.strap ∧
    (s.takeTarget n a).port = s.port ∧ (s.takeTarget n a).jobs = s.jobs ∧
    (s.takeTarget n a).requests = s.requests ∧ (s.takeTarget n a).reports = s.reports ∧
    (s.takeTarget n a).lines = s.lines ∧ (s.takeTarget n a).memory = s.memory ∧
    (s.takeTarget n a).governors = s.governors ∧ (s.takeTarget n a).hoses = s.hoses ∧
    (s.takeTarget n a).tanks = s.tanks ∧ (s.takeTarget n a).topOffs = s.topOffs ∧
    (s.takeTarget n a).shutdown = s.shutdown ∧ (s.takeTarget n a).nodes = s.nodes ∧
    (s.takeTarget n a).bus = s.bus ∧ (s.takeTarget n a).link = s.link ∧ (s.takeTarget n a).charter = s.charter ∧
    (s.takeTarget n a).stills = s.stills ∧ (s.takeTarget n a).valves = s.valves ∧
    (s.takeTarget n a).slotNode = s.slotNode := by
  unfold Device.takeTarget; (try dsimp only); (repeat' split) <;> simp

@[simp] theorem Device.noteEntered_keeps (s : Device) (n : NodeNo) :
    (s.noteEntered n).time = s.time ∧ (s.noteEntered n).half = s.half ∧ (s.noteEntered n).strap = s.strap ∧
    (s.noteEntered n).port = s.port ∧ (s.noteEntered n).jobs = s.jobs ∧ (s.noteEntered n).marks = s.marks ∧
    (s.noteEntered n).requests = s.requests ∧ (s.noteEntered n).reports = s.reports ∧
    (s.noteEntered n).lines = s.lines ∧ (s.noteEntered n).memory = s.memory ∧
    (s.noteEntered n).governors = s.governors ∧ (s.noteEntered n).hoses = s.hoses ∧
    (s.noteEntered n).tanks = s.tanks ∧ (s.noteEntered n).topOffs = s.topOffs ∧
    (s.noteEntered n).shutdown = s.shutdown ∧ (s.noteEntered n).nodes = s.nodes ∧
    (s.noteEntered n).targets = s.targets ∧ (s.noteEntered n).link = s.link ∧
    (s.noteEntered n).charter = s.charter ∧ (s.noteEntered n).stills = s.stills ∧
    (s.noteEntered n).valves = s.valves ∧ (s.noteEntered n).bus.mode = s.bus.mode ∧
    (s.noteEntered n).bus.tail = s.bus.tail ∧ (s.noteEntered n).bus.lastStart = s.bus.lastStart ∧
    (s.noteEntered n).bus.idleScan = s.bus.idleScan ∧ (s.noteEntered n).bus.startHeld = s.bus.startHeld ∧
    (s.noteEntered n).slotNode = s.slotNode := by
  unfold Device.noteEntered; (repeat' split) <;> first | (next h _ => exact ⟨rfl, rfl, rfl, rfl, rfl, rfl, rfl, rfl, rfl, rfl, rfl, rfl, rfl, rfl, rfl, rfl, rfl, rfl, rfl, rfl, rfl, rfl, rfl, rfl, rfl, rfl, by unfold Device.slotNode; rw [h]; rfl⟩) | simp

@[simp] theorem Device.goInFlight_keeps (s : Device) (n : NodeNo) (c : Claim) :
    (s.goInFlight n c).time = s.time ∧ (s.goInFlight n c).half = s.half ∧ (s.goInFlight n c).strap = s.strap ∧
    (s.goInFlight n c).port = s.port ∧ (s.goInFlight n c).jobs = s.jobs ∧
    (s.goInFlight n c).requests = s.requests ∧ (s.goInFlight n c).reports = s.reports ∧
    (s.goInFlight n c).lines = s.lines ∧ (s.goInFlight n c).memory = s.memory ∧
    (s.goInFlight n c).governors = s.governors ∧ (s.goInFlight n c).hoses = s.hoses ∧
    (s.goInFlight n c).tanks = s.tanks ∧ (s.goInFlight n c).topOffs = s.topOffs ∧
    (s.goInFlight n c).shutdown = s.shutdown ∧ (s.goInFlight n c).link = s.link ∧
    (s.goInFlight n c).charter = s.charter ∧ (s.goInFlight n c).stills = s.stills ∧
    (s.goInFlight n c).valves = s.valves ∧ (s.goInFlight n c).bus.mode = s.bus.mode ∧
    (s.goInFlight n c).bus.tail = s.bus.tail ∧ (s.goInFlight n c).bus.lastStart = s.bus.lastStart ∧
    (s.goInFlight n c).bus.idleScan = s.bus.idleScan ∧ (s.goInFlight n c).bus.startHeld = s.bus.startHeld ∧
    (s.goInFlight n c).slotNode = s.slotNode := by
  unfold Device.goInFlight; (try dsimp only); (repeat' split) <;> simp

@[simp] theorem Device.adoptInFlight_keeps (s : Device) (n : NodeNo) :
    (s.adoptInFlight n).time = s.time ∧ (s.adoptInFlight n).half = s.half ∧ (s.adoptInFlight n).strap = s.strap ∧
    (s.adoptInFlight n).port = s.port ∧ (s.adoptInFlight n).jobs = s.jobs ∧
    (s.adoptInFlight n).requests = s.requests ∧ (s.adoptInFlight n).reports = s.reports ∧
    (s.adoptInFlight n).lines = s.lines ∧ (s.adoptInFlight n).memory = s.memory ∧
    (s.adoptInFlight n).governors = s.governors ∧ (s.adoptInFlight n).hoses = s.hoses ∧
    (s.adoptInFlight n).tanks = s.tanks ∧ (s.adoptInFlight n).topOffs = s.topOffs ∧
    (s.adoptInFlight n).shutdown = s.shutdown ∧ (s.adoptInFlight n).targets = s.targets ∧
    (s.adoptInFlight n).bus = s.bus ∧ (s.adoptInFlight n).link = s.link ∧ (s.adoptInFlight n).charter = s.charter ∧
    (s.adoptInFlight n).stills = s.stills ∧ (s.adoptInFlight n).valves = s.valves ∧
    (s.adoptInFlight n).slotNode = s.slotNode := by
  unfold Device.adoptInFlight; (try dsimp only); (repeat' split) <;> simp

@[simp] theorem Device.abandonInFlight_keeps (s : Device) (n : NodeNo) :
    (s.abandonInFlight n).time = s.time ∧ (s.abandonInFlight n).half = s.half ∧
    (s.abandonInFlight n).strap = s.strap ∧ (s.abandonInFlight n).port = s.port ∧
    (s.abandonInFlight n).jobs = s.jobs ∧ (s.abandonInFlight n).requests = s.requests ∧
    (s.abandonInFlight n).lines = s.lines ∧ (s.abandonInFlight n).memory = s.memory ∧
    (s.abandonInFlight n).governors = s.governors ∧ (s.abandonInFlight n).hoses = s.hoses ∧
    (s.abandonInFlight n).tanks = s.tanks ∧ (s.abandonInFlight n).topOffs = s.topOffs ∧
    (s.abandonInFlight n).shutdown = s.shutdown ∧ (s.abandonInFlight n).targets = s.targets ∧
    (s.abandonInFlight n).bus = s.bus ∧ (s.abandonInFlight n).link = s.link ∧
    (s.abandonInFlight n).charter = s.charter ∧ (s.abandonInFlight n).reports.usable = s.reports.usable ∧
    (s.abandonInFlight n).reports.producer = s.reports.producer ∧
    (s.abandonInFlight n).reports.consumer = s.reports.consumer ∧
    (s.abandonInFlight n).reports.producerInMemory = s.reports.producerInMemory ∧
    (s.abandonInFlight n).reports.interrupt = s.reports.interrupt ∧ (s.abandonInFlight n).stills = s.stills ∧
    (s.abandonInFlight n).valves = s.valves ∧ (s.abandonInFlight n).slotNode = s.slotNode := by
  unfold Device.abandonInFlight; (try dsimp only); (repeat' split) <;> simp

@[simp] theorem Device.claim_keeps (s : Device) (n : NodeNo) (c : Claim) :
    (s.claim n c).time = s.time ∧ (s.claim n c).half = s.half ∧ (s.claim n c).strap = s.strap ∧
    (s.claim n c).port = s.port ∧ (s.claim n c).jobs = s.jobs ∧ (s.claim n c).requests = s.requests ∧
    (s.claim n c).lines = s.lines ∧ (s.claim n c).memory = s.memory ∧ (s.claim n c).governors = s.governors ∧
    (s.claim n c).hoses = s.hoses ∧ (s.claim n c).tanks = s.tanks ∧ (s.claim n c).topOffs = s.topOffs ∧
    (s.claim n c).shutdown = s.shutdown ∧ (s.claim n c).link = s.link ∧ (s.claim n c).charter = s.charter ∧
    (s.claim n c).reports.usable = s.reports.usable ∧ (s.claim n c).reports.producer = s.reports.producer ∧
    (s.claim n c).reports.consumer = s.reports.consumer ∧
    (s.claim n c).reports.producerInMemory = s.reports.producerInMemory ∧
    (s.claim n c).reports.interrupt = s.reports.interrupt ∧ (s.claim n c).stills = s.stills ∧
    (s.claim n c).valves = s.valves ∧ (s.claim n c).bus.mode = s.bus.mode ∧ (s.claim n c).bus.tail = s.bus.tail ∧
    (s.claim n c).bus.lastStart = s.bus.lastStart ∧ (s.claim n c).bus.idleScan = s.bus.idleScan ∧
    (s.claim n c).bus.startHeld = s.bus.startHeld ∧ (s.claim n c).slotNode = s.slotNode := by
  unfold Device.claim; (try dsimp only); (repeat' split) <;> simp

@[simp] theorem Device.claimValve_keeps (s : Device) (l : Line) (r : Role) (t : Target) (o : Origin) :
    (s.claimValve l r t o).time = s.time ∧ (s.claimValve l r t o).half = s.half ∧
    (s.claimValve l r t o).strap = s.strap ∧ (s.claimValve l r t o).port = s.port ∧
    (s.claimValve l r t o).jobs = s.jobs ∧ (s.claimValve l r t o).requests = s.requests ∧
    (s.claimValve l r t o).lines = s.lines ∧ (s.claimValve l r t o).memory = s.memory ∧
    (s.claimValve l r t o).governors = s.governors ∧ (s.claimValve l r t o).hoses = s.hoses ∧
    (s.claimValve l r t o).tanks = s.tanks ∧ (s.claimValve l r t o).topOffs = s.topOffs ∧
    (s.claimValve l r t o).shutdown = s.shutdown ∧ (s.claimValve l r t o).link = s.link ∧
    (s.claimValve l r t o).charter = s.charter ∧ (s.claimValve l r t o).reports.usable = s.reports.usable ∧
    (s.claimValve l r t o).reports.producer = s.reports.producer ∧
    (s.claimValve l r t o).reports.consumer = s.reports.consumer ∧
    (s.claimValve l r t o).reports.producerInMemory = s.reports.producerInMemory ∧
    (s.claimValve l r t o).reports.interrupt = s.reports.interrupt ∧ (s.claimValve l r t o).stills = s.stills ∧
    (s.claimValve l r t o).valves = s.valves ∧ (s.claimValve l r t o).bus.mode = s.bus.mode ∧
    (s.claimValve l r t o).bus.tail = s.bus.tail ∧ (s.claimValve l r t o).bus.lastStart = s.bus.lastStart ∧
    (s.claimValve l r t o).bus.idleScan = s.bus.idleScan ∧ (s.claimValve l r t o).bus.startHeld = s.bus.startHeld ∧
    (s.claimValve l r t o).slotNode = s.slotNode := by
  unfold Device.claimValve; (try dsimp only); (repeat' split) <;> simp

@[simp] theorem Device.claimPump_keeps (s : Device) (l : Line) (v : Nat) (o : Origin) :
    (s.claimPump l v o).time = s.time ∧ (s.claimPump l v o).half = s.half ∧ (s.claimPump l v o).strap = s.strap ∧
    (s.claimPump l v o).port = s.port ∧ (s.claimPump l v o).jobs = s.jobs ∧
    (s.claimPump l v o).requests = s.requests ∧ (s.claimPump l v o).lines = s.lines ∧
    (s.claimPump l v o).memory = s.memory ∧ (s.claimPump l v o).governors = s.governors ∧
    (s.claimPump l v o).hoses = s.hoses ∧ (s.claimPump l v o).tanks = s.tanks ∧
    (s.claimPump l v o).topOffs = s.topOffs ∧ (s.claimPump l v o).shutdown = s.shutdown ∧
    (s.claimPump l v o).link = s.link ∧ (s.claimPump l v o).charter = s.charter ∧
    (s.claimPump l v o).reports.usable = s.reports.usable ∧
    (s.claimPump l v o).reports.producer = s.reports.producer ∧
    (s.claimPump l v o).reports.consumer = s.reports.consumer ∧
    (s.claimPump l v o).reports.producerInMemory = s.reports.producerInMemory ∧
    (s.claimPump l v o).reports.interrupt = s.reports.interrupt ∧ (s.claimPump l v o).stills = s.stills ∧
    (s.claimPump l v o).valves = s.valves ∧ (s.claimPump l v o).bus.mode = s.bus.mode ∧
    (s.claimPump l v o).bus.tail = s.bus.tail ∧ (s.claimPump l v o).bus.lastStart = s.bus.lastStart ∧
    (s.claimPump l v o).bus.idleScan = s.bus.idleScan ∧ (s.claimPump l v o).bus.startHeld = s.bus.startHeld ∧
    (s.claimPump l v o).slotNode = s.slotNode := by
  unfold Device.claimPump; (try dsimp only); (repeat' split) <;> simp

@[simp] theorem Device.withdrawSequence_keeps (s : Device) (n : NodeNo) :
    (s.withdrawSequence n).time = s.time ∧ (s.withdrawSequence n).half = s.half ∧
    (s.withdrawSequence n).strap = s.strap ∧ (s.withdrawSequence n).port = s.port ∧
    (s.withdrawSequence n).jobs = s.jobs ∧ (s.withdrawSequence n).requests = s.requests ∧
    (s.withdrawSequence n).lines = s.lines ∧ (s.withdrawSequence n).memory = s.memory ∧
    (s.withdrawSequence n).governors = s.governors ∧ (s.withdrawSequence n).hoses = s.hoses ∧
    (s.withdrawSequence n).tanks = s.tanks ∧ (s.withdrawSequence n).topOffs = s.topOffs ∧
    (s.withdrawSequence n).shutdown = s.shutdown ∧ (s.withdrawSequence n).targets = s.targets ∧
    (s.withdrawSequence n).bus = s.bus ∧ (s.withdrawSequence n).link = s.link ∧
    (s.withdrawSequence n).charter = s.charter ∧ (s.withdrawSequence n).reports.usable = s.reports.usable ∧
    (s.withdrawSequence n).reports.producer = s.reports.producer ∧
    (s.withdrawSequence n).reports.consumer = s.reports.consumer ∧
    (s.withdrawSequence n).reports.producerInMemory = s.reports.producerInMemory ∧
    (s.withdrawSequence n).reports.interrupt = s.reports.interrupt ∧ (s.withdrawSequence n).stills = s.stills ∧
    (s.withdrawSequence n).valves = s.valves ∧ (s.withdrawSequence n).slotNode = s.slotNode := by
  unfold Device.withdrawSequence; (try dsimp only); (repeat' split) <;> simp

@[simp] theorem Device.withdraw_fold_keeps (s : Device) (l : Line) (ts : List NodeNo) :
    (ts.foldl (fun s n => if (s.node n).line = some l then s.withdrawSequence n else s) s).time = s.time ∧
    (ts.foldl (fun s n => if (s.node n).line = some l then s.withdrawSequence n else s) s).half = s.half ∧
    (ts.foldl (fun s n => if (s.node n).line = some l then s.withdrawSequence n else s) s).strap = s.strap ∧
    (ts.foldl (fun s n => if (s.node n).line = some l then s.withdrawSequence n else s) s).port = s.port ∧
    (ts.foldl (fun s n => if (s.node n).line = some l then s.withdrawSequence n else s) s).jobs = s.jobs ∧
    (ts.foldl (fun s n => if (s.node n).line = some l then s.withdrawSequence n else s) s).requests = s.requests ∧
    (ts.foldl (fun s n => if (s.node n).line = some l then s.withdrawSequence n else s) s).lines = s.lines ∧
    (ts.foldl (fun s n => if (s.node n).line = some l then s.withdrawSequence n else s) s).memory = s.memory ∧
    (ts.foldl (fun s n => if (s.node n).line = some l then s.withdrawSequence n else s) s).governors = s.governors ∧
    (ts.foldl (fun s n => if (s.node n).line = some l then s.withdrawSequence n else s) s).hoses = s.hoses ∧
    (ts.foldl (fun s n => if (s.node n).line = some l then s.withdrawSequence n else s) s).tanks = s.tanks ∧
    (ts.foldl (fun s n => if (s.node n).line = some l then s.withdrawSequence n else s) s).topOffs = s.topOffs ∧
    (ts.foldl (fun s n => if (s.node n).line = some l then s.withdrawSequence n else s) s).shutdown = s.shutdown ∧
    (ts.foldl (fun s n => if (s.node n).line = some l then s.withdrawSequence n else s) s).targets = s.targets ∧
    (ts.foldl (fun s n => if (s.node n).line = some l then s.withdrawSequence n else s) s).bus = s.bus ∧
    (ts.foldl (fun s n => if (s.node n).line = some l then s.withdrawSequence n else s) s).link = s.link ∧
    (ts.foldl (fun s n => if (s.node n).line = some l then s.withdrawSequence n else s) s).charter = s.charter ∧
    (ts.foldl (fun s n => if (s.node n).line = some l then s.withdrawSequence n else s) s).reports.usable = s.reports.usable ∧
    (ts.foldl (fun s n => if (s.node n).line = some l then s.withdrawSequence n else s) s).reports.producer = s.reports.producer ∧
    (ts.foldl (fun s n => if (s.node n).line = some l then s.withdrawSequence n else s) s).reports.consumer = s.reports.consumer ∧
    (ts.foldl (fun s n => if (s.node n).line = some l then s.withdrawSequence n else s) s).reports.producerInMemory = s.reports.producerInMemory ∧
    (ts.foldl (fun s n => if (s.node n).line = some l then s.withdrawSequence n else s) s).reports.interrupt = s.reports.interrupt ∧
    (ts.foldl (fun s n => if (s.node n).line = some l then s.withdrawSequence n else s) s).stills = s.stills ∧
    (ts.foldl (fun s n => if (s.node n).line = some l then s.withdrawSequence n else s) s).valves = s.valves ∧
    (ts.foldl (fun s n => if (s.node n).line = some l then s.withdrawSequence n else s) s).slotNode = s.slotNode := by
  induction ts generalizing s with
  | nil => simp
  | cons t ts ih => (have h := ih (if (s.node t).line = some l then s.withdrawSequence t else s)); rw [List.foldl_cons]; split at h <;> simp_all

@[simp] theorem Device.withdrawLine_keeps (s : Device) (l : Line) :
    (s.withdrawLine l).time = s.time ∧ (s.withdrawLine l).half = s.half ∧ (s.withdrawLine l).strap = s.strap ∧
    (s.withdrawLine l).port = s.port ∧ (s.withdrawLine l).jobs = s.jobs ∧
    (s.withdrawLine l).requests = s.requests ∧ (s.withdrawLine l).lines = s.lines ∧
    (s.withdrawLine l).memory = s.memory ∧ (s.withdrawLine l).governors = s.governors ∧
    (s.withdrawLine l).hoses = s.hoses ∧ (s.withdrawLine l).tanks = s.tanks ∧
    (s.withdrawLine l).topOffs = s.topOffs ∧ (s.withdrawLine l).shutdown = s.shutdown ∧
    (s.withdrawLine l).targets = s.targets ∧ (s.withdrawLine l).bus = s.bus ∧ (s.withdrawLine l).link = s.link ∧
    (s.withdrawLine l).charter = s.charter ∧ (s.withdrawLine l).reports.usable = s.reports.usable ∧
    (s.withdrawLine l).reports.producer = s.reports.producer ∧
    (s.withdrawLine l).reports.consumer = s.reports.consumer ∧
    (s.withdrawLine l).reports.producerInMemory = s.reports.producerInMemory ∧
    (s.withdrawLine l).reports.interrupt = s.reports.interrupt ∧ (s.withdrawLine l).stills = s.stills ∧
    (s.withdrawLine l).valves = s.valves ∧ (s.withdrawLine l).slotNode = s.slotNode := by
  unfold Device.withdrawLine; simp

/-! ## The rate governor (spec/02) -/

@[simp] theorem Device.claimSpeed_keeps (s : Device) (l : Line) (v : Nat) :
    (s.claimSpeed l v).time = s.time ∧ (s.claimSpeed l v).half = s.half ∧ (s.claimSpeed l v).strap = s.strap ∧
    (s.claimSpeed l v).port = s.port ∧ (s.claimSpeed l v).jobs = s.jobs ∧
    (s.claimSpeed l v).requests = s.requests ∧ (s.claimSpeed l v).lines = s.lines ∧
    (s.claimSpeed l v).memory = s.memory ∧ (s.claimSpeed l v).hoses = s.hoses ∧
    (s.claimSpeed l v).tanks = s.tanks ∧ (s.claimSpeed l v).topOffs = s.topOffs ∧
    (s.claimSpeed l v).shutdown = s.shutdown ∧ (s.claimSpeed l v).link = s.link ∧
    (s.claimSpeed l v).charter = s.charter ∧ (s.claimSpeed l v).reports.usable = s.reports.usable ∧
    (s.claimSpeed l v).reports.producer = s.reports.producer ∧
    (s.claimSpeed l v).reports.consumer = s.reports.consumer ∧
    (s.claimSpeed l v).reports.producerInMemory = s.reports.producerInMemory ∧
    (s.claimSpeed l v).reports.interrupt = s.reports.interrupt ∧ (s.claimSpeed l v).stills = s.stills ∧
    (s.claimSpeed l v).valves = s.valves ∧ (s.claimSpeed l v).bus.mode = s.bus.mode ∧
    (s.claimSpeed l v).bus.tail = s.bus.tail ∧ (s.claimSpeed l v).bus.lastStart = s.bus.lastStart ∧
    (s.claimSpeed l v).bus.idleScan = s.bus.idleScan ∧ (s.claimSpeed l v).bus.startHeld = s.bus.startHeld ∧
    (s.claimSpeed l v).slotNode = s.slotNode := by
  unfold Device.claimSpeed; (try dsimp only); (repeat' split) <;> simp

@[simp] theorem Device.claimIfChanged_keeps (s : Device) (l : Line) (v : Nat) :
    (s.claimIfChanged l v).time = s.time ∧ (s.claimIfChanged l v).half = s.half ∧
    (s.claimIfChanged l v).strap = s.strap ∧ (s.claimIfChanged l v).port = s.port ∧
    (s.claimIfChanged l v).jobs = s.jobs ∧ (s.claimIfChanged l v).requests = s.requests ∧
    (s.claimIfChanged l v).lines = s.lines ∧ (s.claimIfChanged l v).memory = s.memory ∧
    (s.claimIfChanged l v).hoses = s.hoses ∧ (s.claimIfChanged l v).tanks = s.tanks ∧
    (s.claimIfChanged l v).topOffs = s.topOffs ∧ (s.claimIfChanged l v).shutdown = s.shutdown ∧
    (s.claimIfChanged l v).link = s.link ∧ (s.claimIfChanged l v).charter = s.charter ∧
    (s.claimIfChanged l v).reports.usable = s.reports.usable ∧
    (s.claimIfChanged l v).reports.producer = s.reports.producer ∧
    (s.claimIfChanged l v).reports.consumer = s.reports.consumer ∧
    (s.claimIfChanged l v).reports.producerInMemory = s.reports.producerInMemory ∧
    (s.claimIfChanged l v).reports.interrupt = s.reports.interrupt ∧ (s.claimIfChanged l v).stills = s.stills ∧
    (s.claimIfChanged l v).valves = s.valves ∧ (s.claimIfChanged l v).bus.mode = s.bus.mode ∧
    (s.claimIfChanged l v).bus.tail = s.bus.tail ∧ (s.claimIfChanged l v).bus.lastStart = s.bus.lastStart ∧
    (s.claimIfChanged l v).bus.idleScan = s.bus.idleScan ∧ (s.claimIfChanged l v).bus.startHeld = s.bus.startHeld ∧
    (s.claimIfChanged l v).slotNode = s.slotNode := by
  unfold Device.claimIfChanged; (try dsimp only); (repeat' split) <;> simp

@[simp] theorem Device.judgeRateLow_keeps (s : Device) (l : Line) :
    (s.judgeRateLow l).time = s.time ∧ (s.judgeRateLow l).half = s.half ∧ (s.judgeRateLow l).strap = s.strap ∧
    (s.judgeRateLow l).port = s.port ∧ (s.judgeRateLow l).jobs = s.jobs ∧
    (s.judgeRateLow l).requests = s.requests ∧ (s.judgeRateLow l).lines = s.lines ∧
    (s.judgeRateLow l).memory = s.memory ∧ (s.judgeRateLow l).hoses = s.hoses ∧
    (s.judgeRateLow l).tanks = s.tanks ∧ (s.judgeRateLow l).topOffs = s.topOffs ∧
    (s.judgeRateLow l).shutdown = s.shutdown ∧ (s.judgeRateLow l).nodes = s.nodes ∧
    (s.judgeRateLow l).targets = s.targets ∧ (s.judgeRateLow l).bus = s.bus ∧ (s.judgeRateLow l).link = s.link ∧
    (s.judgeRateLow l).charter = s.charter ∧ (s.judgeRateLow l).reports.usable = s.reports.usable ∧
    (s.judgeRateLow l).reports.producer = s.reports.producer ∧
    (s.judgeRateLow l).reports.consumer = s.reports.consumer ∧
    (s.judgeRateLow l).reports.producerInMemory = s.reports.producerInMemory ∧
    (s.judgeRateLow l).reports.interrupt = s.reports.interrupt ∧ (s.judgeRateLow l).stills = s.stills ∧
    (s.judgeRateLow l).valves = s.valves ∧ (s.judgeRateLow l).slotNode = s.slotNode := by
  unfold Device.judgeRateLow; (try dsimp only); (repeat' split) <;> simp

@[simp] theorem Device.governorEnters_keeps (s : Device) (l : Line) (st : LineState) :
    (s.governorEnters l st).time = s.time ∧ (s.governorEnters l st).half = s.half ∧
    (s.governorEnters l st).strap = s.strap ∧ (s.governorEnters l st).port = s.port ∧
    (s.governorEnters l st).jobs = s.jobs ∧ (s.governorEnters l st).requests = s.requests ∧
    (s.governorEnters l st).lines = s.lines ∧ (s.governorEnters l st).memory = s.memory ∧
    (s.governorEnters l st).hoses = s.hoses ∧ (s.governorEnters l st).tanks = s.tanks ∧
    (s.governorEnters l st).topOffs = s.topOffs ∧ (s.governorEnters l st).shutdown = s.shutdown ∧
    (s.governorEnters l st).link = s.link ∧ (s.governorEnters l st).charter = s.charter ∧
    (s.governorEnters l st).reports.usable = s.reports.usable ∧
    (s.governorEnters l st).reports.producer = s.reports.producer ∧
    (s.governorEnters l st).reports.consumer = s.reports.consumer ∧
    (s.governorEnters l st).reports.producerInMemory = s.reports.producerInMemory ∧
    (s.governorEnters l st).reports.interrupt = s.reports.interrupt ∧ (s.governorEnters l st).stills = s.stills ∧
    (s.governorEnters l st).valves = s.valves ∧ (s.governorEnters l st).bus.mode = s.bus.mode ∧
    (s.governorEnters l st).bus.tail = s.bus.tail ∧ (s.governorEnters l st).bus.lastStart = s.bus.lastStart ∧
    (s.governorEnters l st).bus.idleScan = s.bus.idleScan ∧
    (s.governorEnters l st).bus.startHeld = s.bus.startHeld ∧ (s.governorEnters l st).slotNode = s.slotNode := by
  unfold Device.governorEnters; (try dsimp only); (repeat' split) <;> simp

@[simp] theorem Device.primeSpeed_keeps (s : Device) (l : Line) :
    (s.primeSpeed l).time = s.time ∧ (s.primeSpeed l).half = s.half ∧ (s.primeSpeed l).strap = s.strap ∧
    (s.primeSpeed l).port = s.port ∧ (s.primeSpeed l).jobs = s.jobs ∧ (s.primeSpeed l).requests = s.requests ∧
    (s.primeSpeed l).lines = s.lines ∧ (s.primeSpeed l).memory = s.memory ∧ (s.primeSpeed l).hoses = s.hoses ∧
    (s.primeSpeed l).tanks = s.tanks ∧ (s.primeSpeed l).topOffs = s.topOffs ∧
    (s.primeSpeed l).shutdown = s.shutdown ∧ (s.primeSpeed l).link = s.link ∧
    (s.primeSpeed l).charter = s.charter ∧ (s.primeSpeed l).reports.usable = s.reports.usable ∧
    (s.primeSpeed l).reports.producer = s.reports.producer ∧
    (s.primeSpeed l).reports.consumer = s.reports.consumer ∧
    (s.primeSpeed l).reports.producerInMemory = s.reports.producerInMemory ∧
    (s.primeSpeed l).reports.interrupt = s.reports.interrupt ∧ (s.primeSpeed l).stills = s.stills ∧
    (s.primeSpeed l).valves = s.valves ∧ (s.primeSpeed l).bus.mode = s.bus.mode ∧
    (s.primeSpeed l).bus.tail = s.bus.tail ∧ (s.primeSpeed l).bus.lastStart = s.bus.lastStart ∧
    (s.primeSpeed l).bus.idleScan = s.bus.idleScan ∧ (s.primeSpeed l).bus.startHeld = s.bus.startHeld ∧
    (s.primeSpeed l).slotNode = s.slotNode := by
  unfold Device.primeSpeed; (try dsimp only); (repeat' split) <;> simp

@[simp] theorem Device.applyRate_keeps (s : Device) (l : Line) :
    (s.applyRate l).time = s.time ∧ (s.applyRate l).half = s.half ∧ (s.applyRate l).strap = s.strap ∧
    (s.applyRate l).port = s.port ∧ (s.applyRate l).jobs = s.jobs ∧ (s.applyRate l).requests = s.requests ∧
    (s.applyRate l).lines = s.lines ∧ (s.applyRate l).memory = s.memory ∧ (s.applyRate l).hoses = s.hoses ∧
    (s.applyRate l).tanks = s.tanks ∧ (s.applyRate l).topOffs = s.topOffs ∧ (s.applyRate l).shutdown = s.shutdown ∧
    (s.applyRate l).link = s.link ∧ (s.applyRate l).charter = s.charter ∧
    (s.applyRate l).reports.usable = s.reports.usable ∧ (s.applyRate l).reports.producer = s.reports.producer ∧
    (s.applyRate l).reports.consumer = s.reports.consumer ∧
    (s.applyRate l).reports.producerInMemory = s.reports.producerInMemory ∧
    (s.applyRate l).reports.interrupt = s.reports.interrupt ∧ (s.applyRate l).stills = s.stills ∧
    (s.applyRate l).valves = s.valves ∧ (s.applyRate l).bus.mode = s.bus.mode ∧
    (s.applyRate l).bus.tail = s.bus.tail ∧ (s.applyRate l).bus.lastStart = s.bus.lastStart ∧
    (s.applyRate l).bus.idleScan = s.bus.idleScan ∧ (s.applyRate l).bus.startHeld = s.bus.startHeld ∧
    (s.applyRate l).slotNode = s.slotNode := by
  unfold Device.applyRate; (try dsimp only); (repeat' split) <;> simp

@[simp] theorem Device.startRate_keeps (s : Device) (l : Line) :
    (s.startRate l).time = s.time ∧ (s.startRate l).half = s.half ∧ (s.startRate l).strap = s.strap ∧
    (s.startRate l).port = s.port ∧ (s.startRate l).jobs = s.jobs ∧ (s.startRate l).requests = s.requests ∧
    (s.startRate l).lines = s.lines ∧ (s.startRate l).memory = s.memory ∧ (s.startRate l).hoses = s.hoses ∧
    (s.startRate l).tanks = s.tanks ∧ (s.startRate l).topOffs = s.topOffs ∧ (s.startRate l).shutdown = s.shutdown ∧
    (s.startRate l).link = s.link ∧ (s.startRate l).charter = s.charter ∧
    (s.startRate l).reports.usable = s.reports.usable ∧ (s.startRate l).reports.producer = s.reports.producer ∧
    (s.startRate l).reports.consumer = s.reports.consumer ∧
    (s.startRate l).reports.producerInMemory = s.reports.producerInMemory ∧
    (s.startRate l).reports.interrupt = s.reports.interrupt ∧ (s.startRate l).stills = s.stills ∧
    (s.startRate l).valves = s.valves ∧ (s.startRate l).bus.mode = s.bus.mode ∧
    (s.startRate l).bus.tail = s.bus.tail ∧ (s.startRate l).bus.lastStart = s.bus.lastStart ∧
    (s.startRate l).bus.idleScan = s.bus.idleScan ∧ (s.startRate l).bus.startHeld = s.bus.startHeld ∧
    (s.startRate l).slotNode = s.slotNode := by
  unfold Device.startRate; (try dsimp only); (repeat' split) <;> simp

@[simp] theorem Device.deliveryStep_keeps (s : Device) (l : Line) :
    (s.deliveryStep l).time = s.time ∧ (s.deliveryStep l).half = s.half ∧ (s.deliveryStep l).strap = s.strap ∧
    (s.deliveryStep l).port = s.port ∧ (s.deliveryStep l).jobs = s.jobs ∧
    (s.deliveryStep l).requests = s.requests ∧ (s.deliveryStep l).lines = s.lines ∧
    (s.deliveryStep l).memory = s.memory ∧ (s.deliveryStep l).hoses = s.hoses ∧
    (s.deliveryStep l).tanks = s.tanks ∧ (s.deliveryStep l).topOffs = s.topOffs ∧
    (s.deliveryStep l).shutdown = s.shutdown ∧ (s.deliveryStep l).link = s.link ∧
    (s.deliveryStep l).charter = s.charter ∧ (s.deliveryStep l).reports.usable = s.reports.usable ∧
    (s.deliveryStep l).reports.producer = s.reports.producer ∧
    (s.deliveryStep l).reports.consumer = s.reports.consumer ∧
    (s.deliveryStep l).reports.producerInMemory = s.reports.producerInMemory ∧
    (s.deliveryStep l).reports.interrupt = s.reports.interrupt ∧ (s.deliveryStep l).stills = s.stills ∧
    (s.deliveryStep l).valves = s.valves ∧ (s.deliveryStep l).bus.mode = s.bus.mode ∧
    (s.deliveryStep l).bus.tail = s.bus.tail ∧ (s.deliveryStep l).bus.lastStart = s.bus.lastStart ∧
    (s.deliveryStep l).bus.idleScan = s.bus.idleScan ∧ (s.deliveryStep l).bus.startHeld = s.bus.startHeld ∧
    (s.deliveryStep l).slotNode = s.slotNode := by
  unfold Device.deliveryStep; (try dsimp only); (repeat' split) <;> simp

@[simp] theorem Device.primingStep_keeps (s : Device) (l : Line) :
    (s.primingStep l).time = s.time ∧ (s.primingStep l).half = s.half ∧ (s.primingStep l).strap = s.strap ∧
    (s.primingStep l).port = s.port ∧ (s.primingStep l).jobs = s.jobs ∧ (s.primingStep l).requests = s.requests ∧
    (s.primingStep l).lines = s.lines ∧ (s.primingStep l).memory = s.memory ∧ (s.primingStep l).hoses = s.hoses ∧
    (s.primingStep l).tanks = s.tanks ∧ (s.primingStep l).topOffs = s.topOffs ∧
    (s.primingStep l).shutdown = s.shutdown ∧ (s.primingStep l).link = s.link ∧
    (s.primingStep l).charter = s.charter ∧ (s.primingStep l).reports.usable = s.reports.usable ∧
    (s.primingStep l).reports.producer = s.reports.producer ∧
    (s.primingStep l).reports.consumer = s.reports.consumer ∧
    (s.primingStep l).reports.producerInMemory = s.reports.producerInMemory ∧
    (s.primingStep l).reports.interrupt = s.reports.interrupt ∧ (s.primingStep l).stills = s.stills ∧
    (s.primingStep l).valves = s.valves ∧ (s.primingStep l).bus.mode = s.bus.mode ∧
    (s.primingStep l).bus.tail = s.bus.tail ∧ (s.primingStep l).bus.lastStart = s.bus.lastStart ∧
    (s.primingStep l).bus.idleScan = s.bus.idleScan ∧ (s.primingStep l).bus.startHeld = s.bus.startHeld ∧
    (s.primingStep l).slotNode = s.slotNode := by
  unfold Device.primingStep; (try dsimp only); (repeat' split) <;> simp

@[simp] theorem Device.rampStep_keeps (s : Device) (l : Line) :
    (s.rampStep l).time = s.time ∧ (s.rampStep l).half = s.half ∧ (s.rampStep l).strap = s.strap ∧
    (s.rampStep l).port = s.port ∧ (s.rampStep l).jobs = s.jobs ∧ (s.rampStep l).requests = s.requests ∧
    (s.rampStep l).lines = s.lines ∧ (s.rampStep l).memory = s.memory ∧ (s.rampStep l).hoses = s.hoses ∧
    (s.rampStep l).tanks = s.tanks ∧ (s.rampStep l).topOffs = s.topOffs ∧ (s.rampStep l).shutdown = s.shutdown ∧
    (s.rampStep l).link = s.link ∧ (s.rampStep l).charter = s.charter ∧
    (s.rampStep l).reports.usable = s.reports.usable ∧ (s.rampStep l).reports.producer = s.reports.producer ∧
    (s.rampStep l).reports.consumer = s.reports.consumer ∧
    (s.rampStep l).reports.producerInMemory = s.reports.producerInMemory ∧
    (s.rampStep l).reports.interrupt = s.reports.interrupt ∧ (s.rampStep l).stills = s.stills ∧
    (s.rampStep l).valves = s.valves ∧ (s.rampStep l).bus.mode = s.bus.mode ∧
    (s.rampStep l).bus.tail = s.bus.tail ∧ (s.rampStep l).bus.lastStart = s.bus.lastStart ∧
    (s.rampStep l).bus.idleScan = s.bus.idleScan ∧ (s.rampStep l).bus.startHeld = s.bus.startHeld ∧
    (s.rampStep l).slotNode = s.slotNode := by
  unfold Device.rampStep; (try dsimp only); (repeat' split) <;> simp

@[simp] theorem Device.rampEnd_keeps (s : Device) (l : Line) :
    (s.rampEnd l).time = s.time ∧ (s.rampEnd l).half = s.half ∧ (s.rampEnd l).strap = s.strap ∧
    (s.rampEnd l).port = s.port ∧ (s.rampEnd l).jobs = s.jobs ∧ (s.rampEnd l).requests = s.requests ∧
    (s.rampEnd l).lines = s.lines ∧ (s.rampEnd l).memory = s.memory ∧ (s.rampEnd l).hoses = s.hoses ∧
    (s.rampEnd l).tanks = s.tanks ∧ (s.rampEnd l).topOffs = s.topOffs ∧ (s.rampEnd l).shutdown = s.shutdown ∧
    (s.rampEnd l).link = s.link ∧ (s.rampEnd l).charter = s.charter ∧
    (s.rampEnd l).reports.usable = s.reports.usable ∧ (s.rampEnd l).reports.producer = s.reports.producer ∧
    (s.rampEnd l).reports.consumer = s.reports.consumer ∧
    (s.rampEnd l).reports.producerInMemory = s.reports.producerInMemory ∧
    (s.rampEnd l).reports.interrupt = s.reports.interrupt ∧ (s.rampEnd l).stills = s.stills ∧
    (s.rampEnd l).valves = s.valves ∧ (s.rampEnd l).bus.mode = s.bus.mode ∧ (s.rampEnd l).bus.tail = s.bus.tail ∧
    (s.rampEnd l).bus.lastStart = s.bus.lastStart ∧ (s.rampEnd l).bus.idleScan = s.bus.idleScan ∧
    (s.rampEnd l).bus.startHeld = s.bus.startHeld ∧ (s.rampEnd l).slotNode = s.slotNode := by
  unfold Device.rampEnd; (try dsimp only); (repeat' split) <;> simp

@[simp] theorem Device.nextStep_keeps (s : Device) (l : Line) (due : Time) :
    (s.nextStep l due).time = s.time ∧ (s.nextStep l due).half = s.half ∧ (s.nextStep l due).strap = s.strap ∧
    (s.nextStep l due).port = s.port ∧ (s.nextStep l due).jobs = s.jobs ∧
    (s.nextStep l due).requests = s.requests ∧ (s.nextStep l due).reports = s.reports ∧
    (s.nextStep l due).lines = s.lines ∧ (s.nextStep l due).memory = s.memory ∧
    (s.nextStep l due).hoses = s.hoses ∧ (s.nextStep l due).tanks = s.tanks ∧
    (s.nextStep l due).topOffs = s.topOffs ∧ (s.nextStep l due).shutdown = s.shutdown ∧
    (s.nextStep l due).nodes = s.nodes ∧ (s.nextStep l due).targets = s.targets ∧ (s.nextStep l due).bus = s.bus ∧
    (s.nextStep l due).link = s.link ∧ (s.nextStep l due).charter = s.charter ∧
    (s.nextStep l due).stills = s.stills ∧ (s.nextStep l due).valves = s.valves ∧
    (s.nextStep l due).slotNode = s.slotNode := by
  unfold Device.nextStep; (try dsimp only); (repeat' split) <;> simp

@[simp] theorem Device.governorEnd_keeps (s : Device) (l : Line) (n : NodeNo) (a : Act) (o : TxOutcome) :
    (s.governorEnd l n a o).time = s.time ∧ (s.governorEnd l n a o).half = s.half ∧
    (s.governorEnd l n a o).strap = s.strap ∧ (s.governorEnd l n a o).port = s.port ∧
    (s.governorEnd l n a o).jobs = s.jobs ∧ (s.governorEnd l n a o).requests = s.requests ∧
    (s.governorEnd l n a o).reports = s.reports ∧ (s.governorEnd l n a o).lines = s.lines ∧
    (s.governorEnd l n a o).memory = s.memory ∧ (s.governorEnd l n a o).hoses = s.hoses ∧
    (s.governorEnd l n a o).tanks = s.tanks ∧ (s.governorEnd l n a o).topOffs = s.topOffs ∧
    (s.governorEnd l n a o).shutdown = s.shutdown ∧ (s.governorEnd l n a o).nodes = s.nodes ∧
    (s.governorEnd l n a o).targets = s.targets ∧ (s.governorEnd l n a o).bus = s.bus ∧
    (s.governorEnd l n a o).link = s.link ∧ (s.governorEnd l n a o).charter = s.charter ∧
    (s.governorEnd l n a o).stills = s.stills ∧ (s.governorEnd l n a o).valves = s.valves ∧
    (s.governorEnd l n a o).slotNode = s.slotNode := by
  unfold Device.governorEnd; (try dsimp only); (repeat' split) <;> simp

@[simp] theorem Device.takeRateDemand_keeps (s : Device) (l : Line) (v : Word) :
    (s.takeRateDemand l v).time = s.time ∧ (s.takeRateDemand l v).half = s.half ∧
    (s.takeRateDemand l v).strap = s.strap ∧ (s.takeRateDemand l v).port = s.port ∧
    (s.takeRateDemand l v).jobs = s.jobs ∧ (s.takeRateDemand l v).requests = s.requests ∧
    (s.takeRateDemand l v).reports = s.reports ∧ (s.takeRateDemand l v).lines = s.lines ∧
    (s.takeRateDemand l v).memory = s.memory ∧ (s.takeRateDemand l v).hoses = s.hoses ∧
    (s.takeRateDemand l v).tanks = s.tanks ∧ (s.takeRateDemand l v).topOffs = s.topOffs ∧
    (s.takeRateDemand l v).shutdown = s.shutdown ∧ (s.takeRateDemand l v).nodes = s.nodes ∧
    (s.takeRateDemand l v).targets = s.targets ∧ (s.takeRateDemand l v).bus = s.bus ∧
    (s.takeRateDemand l v).link = s.link ∧ (s.takeRateDemand l v).charter = s.charter ∧
    (s.takeRateDemand l v).stills = s.stills ∧ (s.takeRateDemand l v).valves = s.valves ∧
    (s.takeRateDemand l v).slotNode = s.slotNode := by
  unfold Device.takeRateDemand; (try dsimp only); (repeat' split) <;> simp

/-! ## The transmitter and a change of line state -/

@[simp] theorem Device.transmit_keeps (s : Device) :
    (s.transmit).time = s.time ∧ (s.transmit).half = s.half ∧ (s.transmit).strap = s.strap ∧
    (s.transmit).port = s.port ∧ (s.transmit).jobs = s.jobs ∧ (s.transmit).requests = s.requests ∧
    (s.transmit).reports = s.reports ∧ (s.transmit).lines = s.lines ∧ (s.transmit).memory = s.memory ∧
    (s.transmit).governors = s.governors ∧ (s.transmit).hoses = s.hoses ∧ (s.transmit).tanks = s.tanks ∧
    (s.transmit).topOffs = s.topOffs ∧ (s.transmit).shutdown = s.shutdown ∧ (s.transmit).nodes = s.nodes ∧
    (s.transmit).targets = s.targets ∧ (s.transmit).bus = s.bus ∧ (s.transmit).charter = s.charter ∧
    (s.transmit).stills = s.stills ∧ (s.transmit).valves = s.valves ∧ (s.transmit).slotNode = s.slotNode := by
  unfold Device.transmit; (try dsimp only); (repeat' split) <;> simp

@[simp] theorem Device.sendAdvice_keeps (s : Device) (t : TankNo) (v : Advice) :
    (s.sendAdvice t v).time = s.time ∧ (s.sendAdvice t v).half = s.half ∧ (s.sendAdvice t v).strap = s.strap ∧
    (s.sendAdvice t v).port = s.port ∧ (s.sendAdvice t v).jobs = s.jobs ∧
    (s.sendAdvice t v).requests = s.requests ∧ (s.sendAdvice t v).reports = s.reports ∧
    (s.sendAdvice t v).lines = s.lines ∧ (s.sendAdvice t v).memory = s.memory ∧
    (s.sendAdvice t v).governors = s.governors ∧ (s.sendAdvice t v).hoses = s.hoses ∧
    (s.sendAdvice t v).tanks = s.tanks ∧ (s.sendAdvice t v).topOffs = s.topOffs ∧
    (s.sendAdvice t v).shutdown = s.shutdown ∧ (s.sendAdvice t v).nodes = s.nodes ∧
    (s.sendAdvice t v).targets = s.targets ∧ (s.sendAdvice t v).bus = s.bus ∧
    (s.sendAdvice t v).charter = s.charter ∧ (s.sendAdvice t v).stills = s.stills ∧
    (s.sendAdvice t v).valves = s.valves ∧ (s.sendAdvice t v).slotNode = s.slotNode := by
  unfold Device.sendAdvice; (try dsimp only); (repeat' split) <;> simp

@[simp] theorem Device.sendStopping_keeps (s : Device) (l : Line) :
    (s.sendStopping l).time = s.time ∧ (s.sendStopping l).half = s.half ∧ (s.sendStopping l).strap = s.strap ∧
    (s.sendStopping l).port = s.port ∧ (s.sendStopping l).jobs = s.jobs ∧
    (s.sendStopping l).requests = s.requests ∧ (s.sendStopping l).reports = s.reports ∧
    (s.sendStopping l).lines = s.lines ∧ (s.sendStopping l).memory = s.memory ∧
    (s.sendStopping l).governors = s.governors ∧ (s.sendStopping l).hoses = s.hoses ∧
    (s.sendStopping l).tanks = s.tanks ∧ (s.sendStopping l).topOffs = s.topOffs ∧
    (s.sendStopping l).shutdown = s.shutdown ∧ (s.sendStopping l).nodes = s.nodes ∧
    (s.sendStopping l).targets = s.targets ∧ (s.sendStopping l).bus = s.bus ∧
    (s.sendStopping l).charter = s.charter ∧ (s.sendStopping l).stills = s.stills ∧
    (s.sendStopping l).valves = s.valves ∧ (s.sendStopping l).slotNode = s.slotNode := by
  unfold Device.sendStopping; (try dsimp only); (repeat' split) <;> simp

@[simp] theorem Device.recompute_keeps (s : Device) (l : Line) :
    (s.recompute l).time = s.time ∧ (s.recompute l).half = s.half ∧ (s.recompute l).strap = s.strap ∧
    (s.recompute l).port = s.port ∧ (s.recompute l).jobs = s.jobs ∧ (s.recompute l).requests = s.requests ∧
    (s.recompute l).reports = s.reports ∧ (s.recompute l).memory = s.memory ∧
    (s.recompute l).governors = s.governors ∧ (s.recompute l).hoses = s.hoses ∧ (s.recompute l).tanks = s.tanks ∧
    (s.recompute l).shutdown = s.shutdown ∧ (s.recompute l).nodes = s.nodes ∧ (s.recompute l).targets = s.targets ∧
    (s.recompute l).bus = s.bus ∧ (s.recompute l).link = s.link ∧ (s.recompute l).charter = s.charter ∧
    (s.recompute l).stills = s.stills ∧ (s.recompute l).valves = s.valves ∧ (s.recompute l).slotNode = s.slotNode := by
  unfold Device.recompute; (try dsimp only); (repeat' split) <;> simp

@[simp] theorem Device.enterState_keeps (s : Device) (l : Line) (st : LineState) (p : Step) (c : ReportCause) :
    (s.enterState l st p c).time = s.time ∧ (s.enterState l st p c).half = s.half ∧
    (s.enterState l st p c).strap = s.strap ∧ (s.enterState l st p c).port = s.port ∧
    (s.enterState l st p c).jobs = s.jobs ∧ (s.enterState l st p c).requests = s.requests ∧
    (s.enterState l st p c).memory = s.memory ∧ (s.enterState l st p c).tanks = s.tanks ∧
    (s.enterState l st p c).shutdown = s.shutdown ∧ (s.enterState l st p c).charter = s.charter ∧
    (s.enterState l st p c).reports.usable = s.reports.usable ∧
    (s.enterState l st p c).reports.producer = s.reports.producer ∧
    (s.enterState l st p c).reports.consumer = s.reports.consumer ∧
    (s.enterState l st p c).reports.producerInMemory = s.reports.producerInMemory ∧
    (s.enterState l st p c).reports.interrupt = s.reports.interrupt ∧ (s.enterState l st p c).stills = s.stills ∧
    (s.enterState l st p c).valves = s.valves ∧ (s.enterState l st p c).bus.mode = s.bus.mode ∧
    (s.enterState l st p c).bus.tail = s.bus.tail ∧ (s.enterState l st p c).bus.lastStart = s.bus.lastStart ∧
    (s.enterState l st p c).bus.idleScan = s.bus.idleScan ∧
    (s.enterState l st p c).bus.startHeld = s.bus.startHeld ∧ (s.enterState l st p c).slotNode = s.slotNode := by
  unfold Device.enterState; (try dsimp only); (repeat' split) <;> simp

@[simp] theorem Device.setStep_keeps (s : Device) (l : Line) (p : Step) :
    (s.setStep l p).time = s.time ∧ (s.setStep l p).half = s.half ∧ (s.setStep l p).strap = s.strap ∧
    (s.setStep l p).port = s.port ∧ (s.setStep l p).jobs = s.jobs ∧ (s.setStep l p).requests = s.requests ∧
    (s.setStep l p).reports = s.reports ∧ (s.setStep l p).memory = s.memory ∧
    (s.setStep l p).governors = s.governors ∧ (s.setStep l p).hoses = s.hoses ∧ (s.setStep l p).tanks = s.tanks ∧
    (s.setStep l p).topOffs = s.topOffs ∧ (s.setStep l p).shutdown = s.shutdown ∧ (s.setStep l p).nodes = s.nodes ∧
    (s.setStep l p).targets = s.targets ∧ (s.setStep l p).bus = s.bus ∧ (s.setStep l p).link = s.link ∧
    (s.setStep l p).charter = s.charter ∧ (s.setStep l p).stills = s.stills ∧ (s.setStep l p).valves = s.valves ∧
    (s.setStep l p).slotNode = s.slotNode := by
  unfold Device.setStep; (try dsimp only); (repeat' split) <;> simp

@[simp] theorem Device.setDeadline_keeps (s : Device) (l : Line) (d : Time) :
    (s.setDeadline l d).time = s.time ∧ (s.setDeadline l d).half = s.half ∧ (s.setDeadline l d).strap = s.strap ∧
    (s.setDeadline l d).port = s.port ∧ (s.setDeadline l d).jobs = s.jobs ∧
    (s.setDeadline l d).requests = s.requests ∧ (s.setDeadline l d).reports = s.reports ∧
    (s.setDeadline l d).memory = s.memory ∧ (s.setDeadline l d).governors = s.governors ∧
    (s.setDeadline l d).hoses = s.hoses ∧ (s.setDeadline l d).tanks = s.tanks ∧
    (s.setDeadline l d).topOffs = s.topOffs ∧ (s.setDeadline l d).shutdown = s.shutdown ∧
    (s.setDeadline l d).nodes = s.nodes ∧ (s.setDeadline l d).targets = s.targets ∧
    (s.setDeadline l d).bus = s.bus ∧ (s.setDeadline l d).link = s.link ∧ (s.setDeadline l d).charter = s.charter ∧
    (s.setDeadline l d).stills = s.stills ∧ (s.setDeadline l d).valves = s.valves ∧
    (s.setDeadline l d).slotNode = s.slotNode := by
  unfold Device.setDeadline; (try dsimp only); (repeat' split) <;> simp

@[simp] theorem Device.handTopping_keeps (s : Device) (l : Line) :
    (s.handTopping l).time = s.time ∧ (s.handTopping l).half = s.half ∧ (s.handTopping l).strap = s.strap ∧
    (s.handTopping l).port = s.port ∧ (s.handTopping l).jobs = s.jobs ∧ (s.handTopping l).requests = s.requests ∧
    (s.handTopping l).memory = s.memory ∧ (s.handTopping l).tanks = s.tanks ∧
    (s.handTopping l).shutdown = s.shutdown ∧ (s.handTopping l).charter = s.charter ∧
    (s.handTopping l).reports.usable = s.reports.usable ∧ (s.handTopping l).reports.producer = s.reports.producer ∧
    (s.handTopping l).reports.consumer = s.reports.consumer ∧
    (s.handTopping l).reports.producerInMemory = s.reports.producerInMemory ∧
    (s.handTopping l).reports.interrupt = s.reports.interrupt ∧ (s.handTopping l).stills = s.stills ∧
    (s.handTopping l).valves = s.valves ∧ (s.handTopping l).bus.mode = s.bus.mode ∧
    (s.handTopping l).bus.tail = s.bus.tail ∧ (s.handTopping l).bus.lastStart = s.bus.lastStart ∧
    (s.handTopping l).bus.idleScan = s.bus.idleScan ∧ (s.handTopping l).bus.startHeld = s.bus.startHeld ∧
    (s.handTopping l).slotNode = s.slotNode := by
  unfold Device.handTopping; (try dsimp only); (repeat' split) <;> simp

@[simp] theorem Device.handToppingAll_one_keeps (s : Device) (l : Line) :
    (if (s.line l).state = .free then s else s.handTopping l).time = s.time ∧
    (if (s.line l).state = .free then s else s.handTopping l).half = s.half ∧
    (if (s.line l).state = .free then s else s.handTopping l).strap = s.strap ∧
    (if (s.line l).state = .free then s else s.handTopping l).port = s.port ∧
    (if (s.line l).state = .free then s else s.handTopping l).jobs = s.jobs ∧
    (if (s.line l).state = .free then s else s.handTopping l).requests = s.requests ∧
    (if (s.line l).state = .free then s else s.handTopping l).memory = s.memory ∧
    (if (s.line l).state = .free then s else s.handTopping l).tanks = s.tanks ∧
    (if (s.line l).state = .free then s else s.handTopping l).shutdown = s.shutdown ∧
    (if (s.line l).state = .free then s else s.handTopping l).charter = s.charter ∧
    (if (s.line l).state = .free then s else s.handTopping l).reports.usable = s.reports.usable ∧
    (if (s.line l).state = .free then s else s.handTopping l).reports.producer = s.reports.producer ∧
    (if (s.line l).state = .free then s else s.handTopping l).reports.consumer = s.reports.consumer ∧
    (if (s.line l).state = .free then s else s.handTopping l).reports.producerInMemory = s.reports.producerInMemory ∧
    (if (s.line l).state = .free then s else s.handTopping l).reports.interrupt = s.reports.interrupt ∧
    (if (s.line l).state = .free then s else s.handTopping l).stills = s.stills ∧
    (if (s.line l).state = .free then s else s.handTopping l).valves = s.valves ∧
    (if (s.line l).state = .free then s else s.handTopping l).bus.mode = s.bus.mode ∧
    (if (s.line l).state = .free then s else s.handTopping l).bus.tail = s.bus.tail ∧
    (if (s.line l).state = .free then s else s.handTopping l).bus.lastStart = s.bus.lastStart ∧
    (if (s.line l).state = .free then s else s.handTopping l).bus.idleScan = s.bus.idleScan ∧
    (if (s.line l).state = .free then s else s.handTopping l).bus.startHeld = s.bus.startHeld ∧
    (if (s.line l).state = .free then s else s.handTopping l).slotNode = s.slotNode := by
  split <;> simp

@[simp] theorem Device.handToppingAll_keeps (s : Device) :
    (s.handToppingAll).time = s.time ∧ (s.handToppingAll).half = s.half ∧ (s.handToppingAll).strap = s.strap ∧
    (s.handToppingAll).port = s.port ∧ (s.handToppingAll).jobs = s.jobs ∧
    (s.handToppingAll).requests = s.requests ∧ (s.handToppingAll).memory = s.memory ∧
    (s.handToppingAll).tanks = s.tanks ∧ (s.handToppingAll).shutdown = s.shutdown ∧
    (s.handToppingAll).charter = s.charter ∧ (s.handToppingAll).reports.usable = s.reports.usable ∧
    (s.handToppingAll).reports.producer = s.reports.producer ∧
    (s.handToppingAll).reports.consumer = s.reports.consumer ∧
    (s.handToppingAll).reports.producerInMemory = s.reports.producerInMemory ∧
    (s.handToppingAll).reports.interrupt = s.reports.interrupt ∧ (s.handToppingAll).stills = s.stills ∧
    (s.handToppingAll).valves = s.valves ∧ (s.handToppingAll).bus.mode = s.bus.mode ∧
    (s.handToppingAll).bus.tail = s.bus.tail ∧ (s.handToppingAll).bus.lastStart = s.bus.lastStart ∧
    (s.handToppingAll).bus.idleScan = s.bus.idleScan ∧ (s.handToppingAll).bus.startHeld = s.bus.startHeld ∧
    (s.handToppingAll).slotNode = s.slotNode := by
  unfold Device.handToppingAll Device.forLines; simp

/-! ## The shutdown unit (spec/05) -/

@[simp] theorem Device.alarmEvent_keeps (s : Device) :
    (s.alarmEvent).time = s.time ∧ (s.alarmEvent).half = s.half ∧ (s.alarmEvent).strap = s.strap ∧
    (s.alarmEvent).port = s.port ∧ (s.alarmEvent).jobs = s.jobs ∧ (s.alarmEvent).requests = s.requests ∧
    (s.alarmEvent).reports = s.reports ∧ (s.alarmEvent).lines = s.lines ∧ (s.alarmEvent).memory = s.memory ∧
    (s.alarmEvent).governors = s.governors ∧ (s.alarmEvent).hoses = s.hoses ∧ (s.alarmEvent).tanks = s.tanks ∧
    (s.alarmEvent).topOffs = s.topOffs ∧ (s.alarmEvent).nodes = s.nodes ∧ (s.alarmEvent).targets = s.targets ∧
    (s.alarmEvent).bus = s.bus ∧ (s.alarmEvent).link = s.link ∧ (s.alarmEvent).charter = s.charter ∧
    (s.alarmEvent).stills = s.stills ∧ (s.alarmEvent).valves = s.valves ∧ (s.alarmEvent).slotNode = s.slotNode ∧
    (s.alarmEvent).shutdown.shipLoop = s.shutdown.shipLoop ∧ (s.alarmEvent).shutdown.latch = s.shutdown.latch ∧
    (s.alarmEvent).shutdown.first = s.shutdown.first ∧ (s.alarmEvent).shutdown.firstLine = s.shutdown.firstLine ∧
    (s.alarmEvent).shutdown.firstSubject = s.shutdown.firstSubject ∧
    (s.alarmEvent).shutdown.bargeLoop = s.shutdown.bargeLoop ∧
    (s.alarmEvent).shutdown.tankAlarm = s.shutdown.tankAlarm ∧
    (s.alarmEvent).shutdown.valveAlarm = s.shutdown.valveAlarm ∧
    (s.alarmEvent).shutdown.sequence = s.shutdown.sequence ∧
    (s.alarmEvent).shutdown.pumpDeadline = s.shutdown.pumpDeadline := by
  unfold Device.alarmEvent; (try dsimp only); (repeat' split) <;> simp

@[simp] theorem Device.judgeAlarm_keeps (s : Device) :
    (s.judgeAlarm).time = s.time ∧ (s.judgeAlarm).half = s.half ∧ (s.judgeAlarm).strap = s.strap ∧
    (s.judgeAlarm).port = s.port ∧ (s.judgeAlarm).jobs = s.jobs ∧ (s.judgeAlarm).requests = s.requests ∧
    (s.judgeAlarm).reports = s.reports ∧ (s.judgeAlarm).lines = s.lines ∧ (s.judgeAlarm).memory = s.memory ∧
    (s.judgeAlarm).governors = s.governors ∧ (s.judgeAlarm).hoses = s.hoses ∧ (s.judgeAlarm).tanks = s.tanks ∧
    (s.judgeAlarm).topOffs = s.topOffs ∧ (s.judgeAlarm).nodes = s.nodes ∧ (s.judgeAlarm).targets = s.targets ∧
    (s.judgeAlarm).bus = s.bus ∧ (s.judgeAlarm).link = s.link ∧ (s.judgeAlarm).charter = s.charter ∧
    (s.judgeAlarm).stills = s.stills ∧ (s.judgeAlarm).valves = s.valves ∧ (s.judgeAlarm).slotNode = s.slotNode ∧
    (s.judgeAlarm).shutdown.shipLoop = s.shutdown.shipLoop ∧ (s.judgeAlarm).shutdown.latch = s.shutdown.latch ∧
    (s.judgeAlarm).shutdown.first = s.shutdown.first ∧ (s.judgeAlarm).shutdown.firstLine = s.shutdown.firstLine ∧
    (s.judgeAlarm).shutdown.firstSubject = s.shutdown.firstSubject ∧
    (s.judgeAlarm).shutdown.bargeLoop = s.shutdown.bargeLoop ∧
    (s.judgeAlarm).shutdown.tankAlarm = s.shutdown.tankAlarm ∧
    (s.judgeAlarm).shutdown.valveAlarm = s.shutdown.valveAlarm ∧
    (s.judgeAlarm).shutdown.sequence = s.shutdown.sequence ∧
    (s.judgeAlarm).shutdown.pumpDeadline = s.shutdown.pumpDeadline := by
  unfold Device.judgeAlarm; (try dsimp only); (repeat' split) <;> simp

@[simp] theorem Device.retakeTankAlarm_keeps (s : Device) :
    (s.retakeTankAlarm).time = s.time ∧ (s.retakeTankAlarm).half = s.half ∧ (s.retakeTankAlarm).strap = s.strap ∧
    (s.retakeTankAlarm).port = s.port ∧ (s.retakeTankAlarm).jobs = s.jobs ∧
    (s.retakeTankAlarm).requests = s.requests ∧ (s.retakeTankAlarm).reports = s.reports ∧
    (s.retakeTankAlarm).lines = s.lines ∧ (s.retakeTankAlarm).memory = s.memory ∧
    (s.retakeTankAlarm).governors = s.governors ∧ (s.retakeTankAlarm).hoses = s.hoses ∧
    (s.retakeTankAlarm).tanks = s.tanks ∧ (s.retakeTankAlarm).topOffs = s.topOffs ∧
    (s.retakeTankAlarm).nodes = s.nodes ∧ (s.retakeTankAlarm).targets = s.targets ∧
    (s.retakeTankAlarm).bus = s.bus ∧ (s.retakeTankAlarm).link = s.link ∧ (s.retakeTankAlarm).charter = s.charter ∧
    (s.retakeTankAlarm).stills = s.stills ∧ (s.retakeTankAlarm).valves = s.valves ∧
    (s.retakeTankAlarm).slotNode = s.slotNode ∧ (s.retakeTankAlarm).shutdown.shipLoop = s.shutdown.shipLoop ∧
    (s.retakeTankAlarm).shutdown.latch = s.shutdown.latch ∧ (s.retakeTankAlarm).shutdown.first = s.shutdown.first ∧
    (s.retakeTankAlarm).shutdown.firstLine = s.shutdown.firstLine ∧
    (s.retakeTankAlarm).shutdown.firstSubject = s.shutdown.firstSubject ∧
    (s.retakeTankAlarm).shutdown.bargeLoop = s.shutdown.bargeLoop ∧
    (s.retakeTankAlarm).shutdown.valveAlarm = s.shutdown.valveAlarm ∧
    (s.retakeTankAlarm).shutdown.sequence = s.shutdown.sequence ∧
    (s.retakeTankAlarm).shutdown.pumpDeadline = s.shutdown.pumpDeadline := by
  unfold Device.retakeTankAlarm; (try dsimp only); (repeat' split) <;> simp

@[simp] theorem Device.retakeValveAlarm_keeps (s : Device) :
    (s.retakeValveAlarm).time = s.time ∧ (s.retakeValveAlarm).half = s.half ∧
    (s.retakeValveAlarm).strap = s.strap ∧ (s.retakeValveAlarm).port = s.port ∧
    (s.retakeValveAlarm).jobs = s.jobs ∧ (s.retakeValveAlarm).requests = s.requests ∧
    (s.retakeValveAlarm).reports = s.reports ∧ (s.retakeValveAlarm).lines = s.lines ∧
    (s.retakeValveAlarm).memory = s.memory ∧ (s.retakeValveAlarm).governors = s.governors ∧
    (s.retakeValveAlarm).hoses = s.hoses ∧ (s.retakeValveAlarm).tanks = s.tanks ∧
    (s.retakeValveAlarm).topOffs = s.topOffs ∧ (s.retakeValveAlarm).nodes = s.nodes ∧
    (s.retakeValveAlarm).targets = s.targets ∧ (s.retakeValveAlarm).bus = s.bus ∧
    (s.retakeValveAlarm).link = s.link ∧ (s.retakeValveAlarm).charter = s.charter ∧
    (s.retakeValveAlarm).stills = s.stills ∧ (s.retakeValveAlarm).valves = s.valves ∧
    (s.retakeValveAlarm).slotNode = s.slotNode ∧ (s.retakeValveAlarm).shutdown.shipLoop = s.shutdown.shipLoop ∧
    (s.retakeValveAlarm).shutdown.latch = s.shutdown.latch ∧
    (s.retakeValveAlarm).shutdown.first = s.shutdown.first ∧
    (s.retakeValveAlarm).shutdown.firstLine = s.shutdown.firstLine ∧
    (s.retakeValveAlarm).shutdown.firstSubject = s.shutdown.firstSubject ∧
    (s.retakeValveAlarm).shutdown.bargeLoop = s.shutdown.bargeLoop ∧
    (s.retakeValveAlarm).shutdown.tankAlarm = s.shutdown.tankAlarm ∧
    (s.retakeValveAlarm).shutdown.sequence = s.shutdown.sequence ∧
    (s.retakeValveAlarm).shutdown.pumpDeadline = s.shutdown.pumpDeadline := by
  unfold Device.retakeValveAlarm; (try dsimp only); (repeat' split) <;> simp

@[simp] theorem Device.driveBargeLoop_keeps (s : Device) :
    (s.driveBargeLoop).time = s.time ∧ (s.driveBargeLoop).half = s.half ∧ (s.driveBargeLoop).strap = s.strap ∧
    (s.driveBargeLoop).port = s.port ∧ (s.driveBargeLoop).jobs = s.jobs ∧
    (s.driveBargeLoop).requests = s.requests ∧ (s.driveBargeLoop).reports = s.reports ∧
    (s.driveBargeLoop).lines = s.lines ∧ (s.driveBargeLoop).memory = s.memory ∧
    (s.driveBargeLoop).governors = s.governors ∧ (s.driveBargeLoop).hoses = s.hoses ∧
    (s.driveBargeLoop).tanks = s.tanks ∧ (s.driveBargeLoop).topOffs = s.topOffs ∧
    (s.driveBargeLoop).nodes = s.nodes ∧ (s.driveBargeLoop).targets = s.targets ∧ (s.driveBargeLoop).bus = s.bus ∧
    (s.driveBargeLoop).link = s.link ∧ (s.driveBargeLoop).charter = s.charter ∧
    (s.driveBargeLoop).stills = s.stills ∧ (s.driveBargeLoop).valves = s.valves ∧
    (s.driveBargeLoop).slotNode = s.slotNode ∧ (s.driveBargeLoop).shutdown.shipLoop = s.shutdown.shipLoop ∧
    (s.driveBargeLoop).shutdown.latch = s.shutdown.latch ∧ (s.driveBargeLoop).shutdown.first = s.shutdown.first ∧
    (s.driveBargeLoop).shutdown.firstLine = s.shutdown.firstLine ∧
    (s.driveBargeLoop).shutdown.firstSubject = s.shutdown.firstSubject ∧
    (s.driveBargeLoop).shutdown.hornSounding = s.shutdown.hornSounding ∧
    (s.driveBargeLoop).shutdown.alarmPending = s.shutdown.alarmPending ∧
    (s.driveBargeLoop).shutdown.tankAlarm = s.shutdown.tankAlarm ∧
    (s.driveBargeLoop).shutdown.valveAlarm = s.shutdown.valveAlarm ∧
    (s.driveBargeLoop).shutdown.sequence = s.shutdown.sequence ∧
    (s.driveBargeLoop).shutdown.pumpDeadline = s.shutdown.pumpDeadline := by
  unfold Device.driveBargeLoop; (try dsimp only); (repeat' split) <;> simp

@[simp] theorem Device.tripLine_keeps (s : Device) (l : Line) (c : Cause) :
    (s.tripLine l c).time = s.time ∧ (s.tripLine l c).half = s.half ∧ (s.tripLine l c).strap = s.strap ∧
    (s.tripLine l c).port = s.port ∧ (s.tripLine l c).jobs = s.jobs ∧ (s.tripLine l c).requests = s.requests ∧
    (s.tripLine l c).tanks = s.tanks ∧ (s.tripLine l c).shutdown = s.shutdown ∧
    (s.tripLine l c).charter = s.charter ∧ (s.tripLine l c).reports.usable = s.reports.usable ∧
    (s.tripLine l c).reports.producer = s.reports.producer ∧
    (s.tripLine l c).reports.consumer = s.reports.consumer ∧
    (s.tripLine l c).reports.producerInMemory = s.reports.producerInMemory ∧
    (s.tripLine l c).reports.interrupt = s.reports.interrupt ∧ (s.tripLine l c).stills = s.stills ∧
    (s.tripLine l c).valves = s.valves ∧ (s.tripLine l c).bus.mode = s.bus.mode ∧
    (s.tripLine l c).bus.tail = s.bus.tail ∧ (s.tripLine l c).bus.lastStart = s.bus.lastStart ∧
    (s.tripLine l c).bus.idleScan = s.bus.idleScan ∧ (s.tripLine l c).bus.startHeld = s.bus.startHeld ∧
    (s.tripLine l c).slotNode = s.slotNode := by
  unfold Device.tripLine; (try dsimp only); (repeat' split) <;> simp

@[simp] theorem Device.setSequence_keeps (s : Device) (l : Line) (p : Step) :
    (s.setSequence l p).time = s.time ∧ (s.setSequence l p).half = s.half ∧ (s.setSequence l p).strap = s.strap ∧
    (s.setSequence l p).port = s.port ∧ (s.setSequence l p).jobs = s.jobs ∧
    (s.setSequence l p).requests = s.requests ∧ (s.setSequence l p).reports = s.reports ∧
    (s.setSequence l p).memory = s.memory ∧ (s.setSequence l p).governors = s.governors ∧
    (s.setSequence l p).hoses = s.hoses ∧ (s.setSequence l p).tanks = s.tanks ∧
    (s.setSequence l p).topOffs = s.topOffs ∧ (s.setSequence l p).nodes = s.nodes ∧
    (s.setSequence l p).targets = s.targets ∧ (s.setSequence l p).bus = s.bus ∧ (s.setSequence l p).link = s.link ∧
    (s.setSequence l p).charter = s.charter ∧ (s.setSequence l p).stills = s.stills ∧
    (s.setSequence l p).valves = s.valves ∧ (s.setSequence l p).slotNode = s.slotNode ∧
    (s.setSequence l p).shutdown.shipLoop = s.shutdown.shipLoop ∧
    (s.setSequence l p).shutdown.latch = s.shutdown.latch ∧ (s.setSequence l p).shutdown.first = s.shutdown.first ∧
    (s.setSequence l p).shutdown.firstLine = s.shutdown.firstLine ∧
    (s.setSequence l p).shutdown.firstSubject = s.shutdown.firstSubject ∧
    (s.setSequence l p).shutdown.bargeLoop = s.shutdown.bargeLoop ∧
    (s.setSequence l p).shutdown.hornSounding = s.shutdown.hornSounding ∧
    (s.setSequence l p).shutdown.alarmPending = s.shutdown.alarmPending ∧
    (s.setSequence l p).shutdown.tankAlarm = s.shutdown.tankAlarm ∧
    (s.setSequence l p).shutdown.valveAlarm = s.shutdown.valveAlarm ∧
    (s.setSequence l p).shutdown.pumpDeadline = s.shutdown.pumpDeadline := by
  unfold Device.setSequence; (try dsimp only); (repeat' split) <;> simp

@[simp] theorem Device.setPumpDeadline_keeps (s : Device) (l : Line) (d : Option Time) :
    (s.setPumpDeadline l d).time = s.time ∧ (s.setPumpDeadline l d).half = s.half ∧
    (s.setPumpDeadline l d).strap = s.strap ∧ (s.setPumpDeadline l d).port = s.port ∧
    (s.setPumpDeadline l d).jobs = s.jobs ∧ (s.setPumpDeadline l d).requests = s.requests ∧
    (s.setPumpDeadline l d).reports = s.reports ∧ (s.setPumpDeadline l d).lines = s.lines ∧
    (s.setPumpDeadline l d).memory = s.memory ∧ (s.setPumpDeadline l d).governors = s.governors ∧
    (s.setPumpDeadline l d).hoses = s.hoses ∧ (s.setPumpDeadline l d).tanks = s.tanks ∧
    (s.setPumpDeadline l d).topOffs = s.topOffs ∧ (s.setPumpDeadline l d).nodes = s.nodes ∧
    (s.setPumpDeadline l d).targets = s.targets ∧ (s.setPumpDeadline l d).bus = s.bus ∧
    (s.setPumpDeadline l d).link = s.link ∧ (s.setPumpDeadline l d).charter = s.charter ∧
    (s.setPumpDeadline l d).stills = s.stills ∧ (s.setPumpDeadline l d).valves = s.valves ∧
    (s.setPumpDeadline l d).slotNode = s.slotNode ∧
    (s.setPumpDeadline l d).shutdown.shipLoop = s.shutdown.shipLoop ∧
    (s.setPumpDeadline l d).shutdown.latch = s.shutdown.latch ∧
    (s.setPumpDeadline l d).shutdown.first = s.shutdown.first ∧
    (s.setPumpDeadline l d).shutdown.firstLine = s.shutdown.firstLine ∧
    (s.setPumpDeadline l d).shutdown.firstSubject = s.shutdown.firstSubject ∧
    (s.setPumpDeadline l d).shutdown.bargeLoop = s.shutdown.bargeLoop ∧
    (s.setPumpDeadline l d).shutdown.hornSounding = s.shutdown.hornSounding ∧
    (s.setPumpDeadline l d).shutdown.alarmPending = s.shutdown.alarmPending ∧
    (s.setPumpDeadline l d).shutdown.tankAlarm = s.shutdown.tankAlarm ∧
    (s.setPumpDeadline l d).shutdown.valveAlarm = s.shutdown.valveAlarm ∧
    (s.setPumpDeadline l d).shutdown.sequence = s.shutdown.sequence := by
  unfold Device.setPumpDeadline; (try dsimp only); (repeat' split) <;> simp

@[simp] theorem Device.claimUnlessAtRest_keeps (s : Device) (l : Line) (r : Role) (t : Target) :
    (s.claimUnlessAtRest l r t).time = s.time ∧ (s.claimUnlessAtRest l r t).half = s.half ∧
    (s.claimUnlessAtRest l r t).strap = s.strap ∧ (s.claimUnlessAtRest l r t).port = s.port ∧
    (s.claimUnlessAtRest l r t).jobs = s.jobs ∧ (s.claimUnlessAtRest l r t).requests = s.requests ∧
    (s.claimUnlessAtRest l r t).lines = s.lines ∧ (s.claimUnlessAtRest l r t).memory = s.memory ∧
    (s.claimUnlessAtRest l r t).governors = s.governors ∧ (s.claimUnlessAtRest l r t).hoses = s.hoses ∧
    (s.claimUnlessAtRest l r t).tanks = s.tanks ∧ (s.claimUnlessAtRest l r t).topOffs = s.topOffs ∧
    (s.claimUnlessAtRest l r t).shutdown = s.shutdown ∧ (s.claimUnlessAtRest l r t).link = s.link ∧
    (s.claimUnlessAtRest l r t).charter = s.charter ∧
    (s.claimUnlessAtRest l r t).reports.usable = s.reports.usable ∧
    (s.claimUnlessAtRest l r t).reports.producer = s.reports.producer ∧
    (s.claimUnlessAtRest l r t).reports.consumer = s.reports.consumer ∧
    (s.claimUnlessAtRest l r t).reports.producerInMemory = s.reports.producerInMemory ∧
    (s.claimUnlessAtRest l r t).reports.interrupt = s.reports.interrupt ∧
    (s.claimUnlessAtRest l r t).stills = s.stills ∧ (s.claimUnlessAtRest l r t).valves = s.valves ∧
    (s.claimUnlessAtRest l r t).bus.mode = s.bus.mode ∧ (s.claimUnlessAtRest l r t).bus.tail = s.bus.tail ∧
    (s.claimUnlessAtRest l r t).bus.lastStart = s.bus.lastStart ∧
    (s.claimUnlessAtRest l r t).bus.idleScan = s.bus.idleScan ∧
    (s.claimUnlessAtRest l r t).bus.startHeld = s.bus.startHeld ∧ (s.claimUnlessAtRest l r t).slotNode = s.slotNode := by
  unfold Device.claimUnlessAtRest; (try dsimp only); (repeat' split) <;> simp

@[simp] theorem Device.esdStart_keeps (s : Device) (l : Line) :
    (s.esdStart l).time = s.time ∧ (s.esdStart l).half = s.half ∧ (s.esdStart l).strap = s.strap ∧
    (s.esdStart l).port = s.port ∧ (s.esdStart l).jobs = s.jobs ∧ (s.esdStart l).requests = s.requests ∧
    (s.esdStart l).memory = s.memory ∧ (s.esdStart l).governors = s.governors ∧ (s.esdStart l).hoses = s.hoses ∧
    (s.esdStart l).tanks = s.tanks ∧ (s.esdStart l).topOffs = s.topOffs ∧ (s.esdStart l).link = s.link ∧
    (s.esdStart l).charter = s.charter ∧ (s.esdStart l).reports.usable = s.reports.usable ∧
    (s.esdStart l).reports.producer = s.reports.producer ∧ (s.esdStart l).reports.consumer = s.reports.consumer ∧
    (s.esdStart l).reports.producerInMemory = s.reports.producerInMemory ∧
    (s.esdStart l).reports.interrupt = s.reports.interrupt ∧ (s.esdStart l).stills = s.stills ∧
    (s.esdStart l).valves = s.valves ∧ (s.esdStart l).bus.mode = s.bus.mode ∧
    (s.esdStart l).bus.tail = s.bus.tail ∧ (s.esdStart l).bus.lastStart = s.bus.lastStart ∧
    (s.esdStart l).bus.idleScan = s.bus.idleScan ∧ (s.esdStart l).bus.startHeld = s.bus.startHeld ∧
    (s.esdStart l).slotNode = s.slotNode ∧ (s.esdStart l).shutdown.shipLoop = s.shutdown.shipLoop ∧
    (s.esdStart l).shutdown.latch = s.shutdown.latch ∧ (s.esdStart l).shutdown.first = s.shutdown.first ∧
    (s.esdStart l).shutdown.firstLine = s.shutdown.firstLine ∧
    (s.esdStart l).shutdown.firstSubject = s.shutdown.firstSubject ∧
    (s.esdStart l).shutdown.bargeLoop = s.shutdown.bargeLoop ∧
    (s.esdStart l).shutdown.hornSounding = s.shutdown.hornSounding ∧
    (s.esdStart l).shutdown.alarmPending = s.shutdown.alarmPending ∧
    (s.esdStart l).shutdown.tankAlarm = s.shutdown.tankAlarm ∧
    (s.esdStart l).shutdown.valveAlarm = s.shutdown.valveAlarm := by
  unfold Device.esdStart; (try dsimp only); (repeat' split) <;> simp

@[simp] theorem Device.lineSummary_keeps (s : Device) (l : Line) :
    (s.lineSummary l).time = s.time ∧ (s.lineSummary l).half = s.half ∧ (s.lineSummary l).strap = s.strap ∧
    (s.lineSummary l).port = s.port ∧ (s.lineSummary l).jobs = s.jobs ∧ (s.lineSummary l).requests = s.requests ∧
    (s.lineSummary l).lines = s.lines ∧ (s.lineSummary l).memory = s.memory ∧
    (s.lineSummary l).governors = s.governors ∧ (s.lineSummary l).hoses = s.hoses ∧
    (s.lineSummary l).tanks = s.tanks ∧ (s.lineSummary l).topOffs = s.topOffs ∧
    (s.lineSummary l).shutdown = s.shutdown ∧ (s.lineSummary l).nodes = s.nodes ∧
    (s.lineSummary l).targets = s.targets ∧ (s.lineSummary l).bus = s.bus ∧ (s.lineSummary l).link = s.link ∧
    (s.lineSummary l).charter = s.charter ∧ (s.lineSummary l).reports.usable = s.reports.usable ∧
    (s.lineSummary l).reports.producer = s.reports.producer ∧
    (s.lineSummary l).reports.consumer = s.reports.consumer ∧
    (s.lineSummary l).reports.producerInMemory = s.reports.producerInMemory ∧
    (s.lineSummary l).reports.interrupt = s.reports.interrupt ∧ (s.lineSummary l).stills = s.stills ∧
    (s.lineSummary l).valves = s.valves ∧ (s.lineSummary l).slotNode = s.slotNode := by
  unfold Device.lineSummary; (try dsimp only); (repeat' split) <;> simp

@[simp] theorem Device.esdFinish_keeps (s : Device) (l : Line) :
    (s.esdFinish l).time = s.time ∧ (s.esdFinish l).half = s.half ∧ (s.esdFinish l).strap = s.strap ∧
    (s.esdFinish l).port = s.port ∧ (s.esdFinish l).jobs = s.jobs ∧ (s.esdFinish l).requests = s.requests ∧
    (s.esdFinish l).memory = s.memory ∧ (s.esdFinish l).tanks = s.tanks ∧ (s.esdFinish l).charter = s.charter ∧
    (s.esdFinish l).reports.usable = s.reports.usable ∧ (s.esdFinish l).reports.producer = s.reports.producer ∧
    (s.esdFinish l).reports.consumer = s.reports.consumer ∧
    (s.esdFinish l).reports.producerInMemory = s.reports.producerInMemory ∧
    (s.esdFinish l).reports.interrupt = s.reports.interrupt ∧ (s.esdFinish l).stills = s.stills ∧
    (s.esdFinish l).valves = s.valves ∧ (s.esdFinish l).bus.mode = s.bus.mode ∧
    (s.esdFinish l).bus.tail = s.bus.tail ∧ (s.esdFinish l).bus.lastStart = s.bus.lastStart ∧
    (s.esdFinish l).bus.idleScan = s.bus.idleScan ∧ (s.esdFinish l).bus.startHeld = s.bus.startHeld ∧
    (s.esdFinish l).slotNode = s.slotNode ∧ (s.esdFinish l).shutdown.shipLoop = s.shutdown.shipLoop ∧
    (s.esdFinish l).shutdown.latch = s.shutdown.latch ∧ (s.esdFinish l).shutdown.first = s.shutdown.first ∧
    (s.esdFinish l).shutdown.firstLine = s.shutdown.firstLine ∧
    (s.esdFinish l).shutdown.firstSubject = s.shutdown.firstSubject ∧
    (s.esdFinish l).shutdown.bargeLoop = s.shutdown.bargeLoop ∧
    (s.esdFinish l).shutdown.hornSounding = s.shutdown.hornSounding ∧
    (s.esdFinish l).shutdown.alarmPending = s.shutdown.alarmPending ∧
    (s.esdFinish l).shutdown.tankAlarm = s.shutdown.tankAlarm ∧
    (s.esdFinish l).shutdown.valveAlarm = s.shutdown.valveAlarm ∧
    (s.esdFinish l).shutdown.pumpDeadline = s.shutdown.pumpDeadline := by
  unfold Device.esdFinish; (try dsimp only); (repeat' split) <;> simp

@[simp] theorem Device.esdDischarge_keeps (s : Device) (l : Line) :
    (s.esdDischarge l).time = s.time ∧ (s.esdDischarge l).half = s.half ∧ (s.esdDischarge l).strap = s.strap ∧
    (s.esdDischarge l).port = s.port ∧ (s.esdDischarge l).jobs = s.jobs ∧
    (s.esdDischarge l).requests = s.requests ∧ (s.esdDischarge l).memory = s.memory ∧
    (s.esdDischarge l).tanks = s.tanks ∧ (s.esdDischarge l).charter = s.charter ∧
    (s.esdDischarge l).reports.usable = s.reports.usable ∧
    (s.esdDischarge l).reports.producer = s.reports.producer ∧
    (s.esdDischarge l).reports.consumer = s.reports.consumer ∧
    (s.esdDischarge l).reports.producerInMemory = s.reports.producerInMemory ∧
    (s.esdDischarge l).reports.interrupt = s.reports.interrupt ∧ (s.esdDischarge l).stills = s.stills ∧
    (s.esdDischarge l).valves = s.valves ∧ (s.esdDischarge l).bus.mode = s.bus.mode ∧
    (s.esdDischarge l).bus.tail = s.bus.tail ∧ (s.esdDischarge l).bus.lastStart = s.bus.lastStart ∧
    (s.esdDischarge l).bus.idleScan = s.bus.idleScan ∧ (s.esdDischarge l).bus.startHeld = s.bus.startHeld ∧
    (s.esdDischarge l).slotNode = s.slotNode ∧ (s.esdDischarge l).shutdown.shipLoop = s.shutdown.shipLoop ∧
    (s.esdDischarge l).shutdown.latch = s.shutdown.latch ∧ (s.esdDischarge l).shutdown.first = s.shutdown.first ∧
    (s.esdDischarge l).shutdown.firstLine = s.shutdown.firstLine ∧
    (s.esdDischarge l).shutdown.firstSubject = s.shutdown.firstSubject ∧
    (s.esdDischarge l).shutdown.bargeLoop = s.shutdown.bargeLoop ∧
    (s.esdDischarge l).shutdown.hornSounding = s.shutdown.hornSounding ∧
    (s.esdDischarge l).shutdown.alarmPending = s.shutdown.alarmPending ∧
    (s.esdDischarge l).shutdown.tankAlarm = s.shutdown.tankAlarm ∧
    (s.esdDischarge l).shutdown.valveAlarm = s.shutdown.valveAlarm ∧
    (s.esdDischarge l).shutdown.pumpDeadline = s.shutdown.pumpDeadline := by
  unfold Device.esdDischarge; (try dsimp only); (repeat' split) <;> simp

@[simp] theorem Device.esdManifold_keeps (s : Device) (l : Line) :
    (s.esdManifold l).time = s.time ∧ (s.esdManifold l).half = s.half ∧ (s.esdManifold l).strap = s.strap ∧
    (s.esdManifold l).port = s.port ∧ (s.esdManifold l).jobs = s.jobs ∧ (s.esdManifold l).requests = s.requests ∧
    (s.esdManifold l).memory = s.memory ∧ (s.esdManifold l).tanks = s.tanks ∧
    (s.esdManifold l).charter = s.charter ∧ (s.esdManifold l).reports.usable = s.reports.usable ∧
    (s.esdManifold l).reports.producer = s.reports.producer ∧
    (s.esdManifold l).reports.consumer = s.reports.consumer ∧
    (s.esdManifold l).reports.producerInMemory = s.reports.producerInMemory ∧
    (s.esdManifold l).reports.interrupt = s.reports.interrupt ∧ (s.esdManifold l).stills = s.stills ∧
    (s.esdManifold l).valves = s.valves ∧ (s.esdManifold l).bus.mode = s.bus.mode ∧
    (s.esdManifold l).bus.tail = s.bus.tail ∧ (s.esdManifold l).bus.lastStart = s.bus.lastStart ∧
    (s.esdManifold l).bus.idleScan = s.bus.idleScan ∧ (s.esdManifold l).bus.startHeld = s.bus.startHeld ∧
    (s.esdManifold l).slotNode = s.slotNode ∧ (s.esdManifold l).shutdown.shipLoop = s.shutdown.shipLoop ∧
    (s.esdManifold l).shutdown.latch = s.shutdown.latch ∧ (s.esdManifold l).shutdown.first = s.shutdown.first ∧
    (s.esdManifold l).shutdown.firstLine = s.shutdown.firstLine ∧
    (s.esdManifold l).shutdown.firstSubject = s.shutdown.firstSubject ∧
    (s.esdManifold l).shutdown.bargeLoop = s.shutdown.bargeLoop ∧
    (s.esdManifold l).shutdown.hornSounding = s.shutdown.hornSounding ∧
    (s.esdManifold l).shutdown.alarmPending = s.shutdown.alarmPending ∧
    (s.esdManifold l).shutdown.tankAlarm = s.shutdown.tankAlarm ∧
    (s.esdManifold l).shutdown.valveAlarm = s.shutdown.valveAlarm := by
  unfold Device.esdManifold; (try dsimp only); (repeat' split) <;> simp

@[simp] theorem Device.reportEsd_keeps (s : Device) (c : Cause) (l n v f : Nat) :
    (s.reportEsd c l n v f).time = s.time ∧ (s.reportEsd c l n v f).half = s.half ∧
    (s.reportEsd c l n v f).strap = s.strap ∧ (s.reportEsd c l n v f).port = s.port ∧
    (s.reportEsd c l n v f).jobs = s.jobs ∧ (s.reportEsd c l n v f).requests = s.requests ∧
    (s.reportEsd c l n v f).lines = s.lines ∧ (s.reportEsd c l n v f).memory = s.memory ∧
    (s.reportEsd c l n v f).governors = s.governors ∧ (s.reportEsd c l n v f).hoses = s.hoses ∧
    (s.reportEsd c l n v f).tanks = s.tanks ∧ (s.reportEsd c l n v f).topOffs = s.topOffs ∧
    (s.reportEsd c l n v f).shutdown = s.shutdown ∧ (s.reportEsd c l n v f).nodes = s.nodes ∧
    (s.reportEsd c l n v f).targets = s.targets ∧ (s.reportEsd c l n v f).bus = s.bus ∧
    (s.reportEsd c l n v f).link = s.link ∧ (s.reportEsd c l n v f).charter = s.charter ∧
    (s.reportEsd c l n v f).reports.usable = s.reports.usable ∧
    (s.reportEsd c l n v f).reports.producer = s.reports.producer ∧
    (s.reportEsd c l n v f).reports.consumer = s.reports.consumer ∧
    (s.reportEsd c l n v f).reports.producerInMemory = s.reports.producerInMemory ∧
    (s.reportEsd c l n v f).reports.interrupt = s.reports.interrupt ∧ (s.reportEsd c l n v f).stills = s.stills ∧
    (s.reportEsd c l n v f).valves = s.valves ∧ (s.reportEsd c l n v f).slotNode = s.slotNode := by
  unfold Device.reportEsd; (try dsimp only); (repeat' split) <;> simp

@[simp] theorem Device.tripLines_one_keeps (s : Device) (l : Line) (c : Cause) :
    (if (s.line l).state.trips then s.tripLine l c else s).time = s.time ∧
    (if (s.line l).state.trips then s.tripLine l c else s).half = s.half ∧
    (if (s.line l).state.trips then s.tripLine l c else s).strap = s.strap ∧
    (if (s.line l).state.trips then s.tripLine l c else s).port = s.port ∧
    (if (s.line l).state.trips then s.tripLine l c else s).jobs = s.jobs ∧
    (if (s.line l).state.trips then s.tripLine l c else s).requests = s.requests ∧
    (if (s.line l).state.trips then s.tripLine l c else s).tanks = s.tanks ∧
    (if (s.line l).state.trips then s.tripLine l c else s).shutdown = s.shutdown ∧
    (if (s.line l).state.trips then s.tripLine l c else s).charter = s.charter ∧
    (if (s.line l).state.trips then s.tripLine l c else s).reports.usable = s.reports.usable ∧
    (if (s.line l).state.trips then s.tripLine l c else s).reports.producer = s.reports.producer ∧
    (if (s.line l).state.trips then s.tripLine l c else s).reports.consumer = s.reports.consumer ∧
    (if (s.line l).state.trips then s.tripLine l c else s).reports.producerInMemory = s.reports.producerInMemory ∧
    (if (s.line l).state.trips then s.tripLine l c else s).reports.interrupt = s.reports.interrupt ∧
    (if (s.line l).state.trips then s.tripLine l c else s).stills = s.stills ∧
    (if (s.line l).state.trips then s.tripLine l c else s).valves = s.valves ∧
    (if (s.line l).state.trips then s.tripLine l c else s).bus.mode = s.bus.mode ∧
    (if (s.line l).state.trips then s.tripLine l c else s).bus.tail = s.bus.tail ∧
    (if (s.line l).state.trips then s.tripLine l c else s).bus.lastStart = s.bus.lastStart ∧
    (if (s.line l).state.trips then s.tripLine l c else s).bus.idleScan = s.bus.idleScan ∧
    (if (s.line l).state.trips then s.tripLine l c else s).bus.startHeld = s.bus.startHeld ∧
    (if (s.line l).state.trips then s.tripLine l c else s).slotNode = s.slotNode := by
  split <;> simp

@[simp] theorem Device.tripLines_keeps (s : Device) (c : Cause) :
    (s.tripLines c).time = s.time ∧ (s.tripLines c).half = s.half ∧ (s.tripLines c).strap = s.strap ∧
    (s.tripLines c).port = s.port ∧ (s.tripLines c).jobs = s.jobs ∧ (s.tripLines c).requests = s.requests ∧
    (s.tripLines c).tanks = s.tanks ∧ (s.tripLines c).shutdown = s.shutdown ∧ (s.tripLines c).charter = s.charter ∧
    (s.tripLines c).reports.usable = s.reports.usable ∧ (s.tripLines c).reports.producer = s.reports.producer ∧
    (s.tripLines c).reports.consumer = s.reports.consumer ∧
    (s.tripLines c).reports.producerInMemory = s.reports.producerInMemory ∧
    (s.tripLines c).reports.interrupt = s.reports.interrupt ∧ (s.tripLines c).stills = s.stills ∧
    (s.tripLines c).valves = s.valves ∧ (s.tripLines c).bus.mode = s.bus.mode ∧
    (s.tripLines c).bus.tail = s.bus.tail ∧ (s.tripLines c).bus.lastStart = s.bus.lastStart ∧
    (s.tripLines c).bus.idleScan = s.bus.idleScan ∧ (s.tripLines c).bus.startHeld = s.bus.startHeld ∧
    (s.tripLines c).slotNode = s.slotNode := by
  unfold Device.tripLines Device.forLines; simp

@[simp] theorem Device.startSequences_keeps (s : Device) (ls : List Line) :
    (s.startSequences ls).time = s.time ∧ (s.startSequences ls).half = s.half ∧
    (s.startSequences ls).strap = s.strap ∧ (s.startSequences ls).port = s.port ∧
    (s.startSequences ls).jobs = s.jobs ∧ (s.startSequences ls).requests = s.requests ∧
    (s.startSequences ls).memory = s.memory ∧ (s.startSequences ls).governors = s.governors ∧
    (s.startSequences ls).hoses = s.hoses ∧ (s.startSequences ls).tanks = s.tanks ∧
    (s.startSequences ls).topOffs = s.topOffs ∧ (s.startSequences ls).link = s.link ∧
    (s.startSequences ls).charter = s.charter ∧ (s.startSequences ls).reports.usable = s.reports.usable ∧
    (s.startSequences ls).reports.producer = s.reports.producer ∧
    (s.startSequences ls).reports.consumer = s.reports.consumer ∧
    (s.startSequences ls).reports.producerInMemory = s.reports.producerInMemory ∧
    (s.startSequences ls).reports.interrupt = s.reports.interrupt ∧ (s.startSequences ls).stills = s.stills ∧
    (s.startSequences ls).valves = s.valves ∧ (s.startSequences ls).bus.mode = s.bus.mode ∧
    (s.startSequences ls).bus.tail = s.bus.tail ∧ (s.startSequences ls).bus.lastStart = s.bus.lastStart ∧
    (s.startSequences ls).bus.idleScan = s.bus.idleScan ∧ (s.startSequences ls).bus.startHeld = s.bus.startHeld ∧
    (s.startSequences ls).slotNode = s.slotNode ∧ (s.startSequences ls).shutdown.shipLoop = s.shutdown.shipLoop ∧
    (s.startSequences ls).shutdown.latch = s.shutdown.latch ∧
    (s.startSequences ls).shutdown.first = s.shutdown.first ∧
    (s.startSequences ls).shutdown.firstLine = s.shutdown.firstLine ∧
    (s.startSequences ls).shutdown.firstSubject = s.shutdown.firstSubject ∧
    (s.startSequences ls).shutdown.bargeLoop = s.shutdown.bargeLoop ∧
    (s.startSequences ls).shutdown.hornSounding = s.shutdown.hornSounding ∧
    (s.startSequences ls).shutdown.alarmPending = s.shutdown.alarmPending ∧
    (s.startSequences ls).shutdown.tankAlarm = s.shutdown.tankAlarm ∧
    (s.startSequences ls).shutdown.valveAlarm = s.shutdown.valveAlarm := by
  induction ls generalizing s with
  | nil => simp [Device.startSequences]
  | cons l ls ih => have h := ih (s.esdStart l); simp [Device.startSequences, h]

@[simp] theorem Device.setLatch_keeps (s : Device) (c : Cause) (l n v : Nat) :
    (s.setLatch c l n v).time = s.time ∧ (s.setLatch c l n v).half = s.half ∧
    (s.setLatch c l n v).strap = s.strap ∧ (s.setLatch c l n v).port = s.port ∧
    (s.setLatch c l n v).jobs = s.jobs ∧ (s.setLatch c l n v).requests = s.requests ∧
    (s.setLatch c l n v).tanks = s.tanks ∧ (s.setLatch c l n v).charter = s.charter ∧
    (s.setLatch c l n v).reports.usable = s.reports.usable ∧
    (s.setLatch c l n v).reports.producer = s.reports.producer ∧
    (s.setLatch c l n v).reports.consumer = s.reports.consumer ∧
    (s.setLatch c l n v).reports.producerInMemory = s.reports.producerInMemory ∧
    (s.setLatch c l n v).reports.interrupt = s.reports.interrupt ∧ (s.setLatch c l n v).stills = s.stills ∧
    (s.setLatch c l n v).valves = s.valves ∧ (s.setLatch c l n v).bus.mode = s.bus.mode ∧
    (s.setLatch c l n v).bus.tail = s.bus.tail ∧ (s.setLatch c l n v).bus.lastStart = s.bus.lastStart ∧
    (s.setLatch c l n v).bus.idleScan = s.bus.idleScan ∧ (s.setLatch c l n v).bus.startHeld = s.bus.startHeld ∧
    (s.setLatch c l n v).slotNode = s.slotNode ∧ (s.setLatch c l n v).shutdown.shipLoop = s.shutdown.shipLoop ∧
    (s.setLatch c l n v).shutdown.tankAlarm = s.shutdown.tankAlarm ∧
    (s.setLatch c l n v).shutdown.valveAlarm = s.shutdown.valveAlarm := by
  unfold Device.setLatch; (try dsimp only); (repeat' split) <;> simp

@[simp] theorem Device.esdTrigger_keeps (s : Device) (c : Cause) (l n v : Nat) :
    (s.esdTrigger c l n v).time = s.time ∧ (s.esdTrigger c l n v).half = s.half ∧
    (s.esdTrigger c l n v).strap = s.strap ∧ (s.esdTrigger c l n v).port = s.port ∧
    (s.esdTrigger c l n v).jobs = s.jobs ∧ (s.esdTrigger c l n v).requests = s.requests ∧
    (s.esdTrigger c l n v).tanks = s.tanks ∧ (s.esdTrigger c l n v).charter = s.charter ∧
    (s.esdTrigger c l n v).reports.usable = s.reports.usable ∧
    (s.esdTrigger c l n v).reports.producer = s.reports.producer ∧
    (s.esdTrigger c l n v).reports.consumer = s.reports.consumer ∧
    (s.esdTrigger c l n v).reports.producerInMemory = s.reports.producerInMemory ∧
    (s.esdTrigger c l n v).reports.interrupt = s.reports.interrupt ∧ (s.esdTrigger c l n v).stills = s.stills ∧
    (s.esdTrigger c l n v).valves = s.valves ∧ (s.esdTrigger c l n v).bus.mode = s.bus.mode ∧
    (s.esdTrigger c l n v).bus.tail = s.bus.tail ∧ (s.esdTrigger c l n v).bus.lastStart = s.bus.lastStart ∧
    (s.esdTrigger c l n v).bus.idleScan = s.bus.idleScan ∧ (s.esdTrigger c l n v).bus.startHeld = s.bus.startHeld ∧
    (s.esdTrigger c l n v).slotNode = s.slotNode ∧ (s.esdTrigger c l n v).shutdown.shipLoop = s.shutdown.shipLoop ∧
    (s.esdTrigger c l n v).shutdown.tankAlarm = s.shutdown.tankAlarm ∧
    (s.esdTrigger c l n v).shutdown.valveAlarm = s.shutdown.valveAlarm := by
  unfold Device.esdTrigger; (try dsimp only); (repeat' split) <;> simp

@[simp] theorem Device.esdEnd_keeps (s : Device) (l : Line) (n : NodeNo) :
    (s.esdEnd l n).time = s.time ∧ (s.esdEnd l n).half = s.half ∧ (s.esdEnd l n).strap = s.strap ∧
    (s.esdEnd l n).port = s.port ∧ (s.esdEnd l n).jobs = s.jobs ∧ (s.esdEnd l n).requests = s.requests ∧
    (s.esdEnd l n).memory = s.memory ∧ (s.esdEnd l n).tanks = s.tanks ∧ (s.esdEnd l n).charter = s.charter ∧
    (s.esdEnd l n).reports.usable = s.reports.usable ∧ (s.esdEnd l n).reports.producer = s.reports.producer ∧
    (s.esdEnd l n).reports.consumer = s.reports.consumer ∧
    (s.esdEnd l n).reports.producerInMemory = s.reports.producerInMemory ∧
    (s.esdEnd l n).reports.interrupt = s.reports.interrupt ∧ (s.esdEnd l n).stills = s.stills ∧
    (s.esdEnd l n).valves = s.valves ∧ (s.esdEnd l n).bus.mode = s.bus.mode ∧
    (s.esdEnd l n).bus.tail = s.bus.tail ∧ (s.esdEnd l n).bus.lastStart = s.bus.lastStart ∧
    (s.esdEnd l n).bus.idleScan = s.bus.idleScan ∧ (s.esdEnd l n).bus.startHeld = s.bus.startHeld ∧
    (s.esdEnd l n).slotNode = s.slotNode ∧ (s.esdEnd l n).shutdown.shipLoop = s.shutdown.shipLoop ∧
    (s.esdEnd l n).shutdown.latch = s.shutdown.latch ∧ (s.esdEnd l n).shutdown.first = s.shutdown.first ∧
    (s.esdEnd l n).shutdown.firstLine = s.shutdown.firstLine ∧
    (s.esdEnd l n).shutdown.firstSubject = s.shutdown.firstSubject ∧
    (s.esdEnd l n).shutdown.bargeLoop = s.shutdown.bargeLoop ∧
    (s.esdEnd l n).shutdown.hornSounding = s.shutdown.hornSounding ∧
    (s.esdEnd l n).shutdown.alarmPending = s.shutdown.alarmPending ∧
    (s.esdEnd l n).shutdown.tankAlarm = s.shutdown.tankAlarm ∧
    (s.esdEnd l n).shutdown.valveAlarm = s.shutdown.valveAlarm := by
  unfold Device.esdEnd; (try dsimp only); (repeat' split) <;> simp

@[simp] theorem Device.takeShipLoop_keeps (s : Device) (c : Loop) :
    (s.takeShipLoop c).time = s.time ∧ (s.takeShipLoop c).half = s.half ∧ (s.takeShipLoop c).strap = s.strap ∧
    (s.takeShipLoop c).port = s.port ∧ (s.takeShipLoop c).jobs = s.jobs ∧
    (s.takeShipLoop c).requests = s.requests ∧ (s.takeShipLoop c).tanks = s.tanks ∧
    (s.takeShipLoop c).charter = s.charter ∧ (s.takeShipLoop c).reports.usable = s.reports.usable ∧
    (s.takeShipLoop c).reports.producer = s.reports.producer ∧
    (s.takeShipLoop c).reports.consumer = s.reports.consumer ∧
    (s.takeShipLoop c).reports.producerInMemory = s.reports.producerInMemory ∧
    (s.takeShipLoop c).reports.interrupt = s.reports.interrupt ∧ (s.takeShipLoop c).stills = s.stills ∧
    (s.takeShipLoop c).valves = s.valves ∧ (s.takeShipLoop c).bus.mode = s.bus.mode ∧
    (s.takeShipLoop c).bus.tail = s.bus.tail ∧ (s.takeShipLoop c).bus.lastStart = s.bus.lastStart ∧
    (s.takeShipLoop c).bus.idleScan = s.bus.idleScan ∧ (s.takeShipLoop c).bus.startHeld = s.bus.startHeld ∧
    (s.takeShipLoop c).slotNode = s.slotNode ∧ (s.takeShipLoop c).shutdown.tankAlarm = s.shutdown.tankAlarm ∧
    (s.takeShipLoop c).shutdown.valveAlarm = s.shutdown.valveAlarm := by
  unfold Device.takeShipLoop; (try dsimp only); (repeat' split) <;> simp

/-! ## The line controller (spec/01) -/

@[simp] theorem Device.primeClaim_keeps (s : Device) (l : Line) :
    (s.primeClaim l).time = s.time ∧ (s.primeClaim l).half = s.half ∧ (s.primeClaim l).strap = s.strap ∧
    (s.primeClaim l).port = s.port ∧ (s.primeClaim l).jobs = s.jobs ∧ (s.primeClaim l).requests = s.requests ∧
    (s.primeClaim l).memory = s.memory ∧ (s.primeClaim l).tanks = s.tanks ∧
    (s.primeClaim l).shutdown = s.shutdown ∧ (s.primeClaim l).charter = s.charter ∧
    (s.primeClaim l).reports.usable = s.reports.usable ∧ (s.primeClaim l).reports.producer = s.reports.producer ∧
    (s.primeClaim l).reports.consumer = s.reports.consumer ∧
    (s.primeClaim l).reports.producerInMemory = s.reports.producerInMemory ∧
    (s.primeClaim l).reports.interrupt = s.reports.interrupt ∧ (s.primeClaim l).stills = s.stills ∧
    (s.primeClaim l).valves = s.valves ∧ (s.primeClaim l).bus.mode = s.bus.mode ∧
    (s.primeClaim l).bus.tail = s.bus.tail ∧ (s.primeClaim l).bus.lastStart = s.bus.lastStart ∧
    (s.primeClaim l).bus.idleScan = s.bus.idleScan ∧ (s.primeClaim l).bus.startHeld = s.bus.startHeld ∧
    (s.primeClaim l).slotNode = s.slotNode := by
  unfold Device.primeClaim; (try dsimp only); (repeat' split) <;> simp

@[simp] theorem Device.primeFromLineup_keeps (s : Device) (l : Line) :
    (s.primeFromLineup l).time = s.time ∧ (s.primeFromLineup l).half = s.half ∧
    (s.primeFromLineup l).strap = s.strap ∧ (s.primeFromLineup l).port = s.port ∧
    (s.primeFromLineup l).jobs = s.jobs ∧ (s.primeFromLineup l).requests = s.requests ∧
    (s.primeFromLineup l).memory = s.memory ∧ (s.primeFromLineup l).tanks = s.tanks ∧
    (s.primeFromLineup l).shutdown = s.shutdown ∧ (s.primeFromLineup l).charter = s.charter ∧
    (s.primeFromLineup l).reports.usable = s.reports.usable ∧
    (s.primeFromLineup l).reports.producer = s.reports.producer ∧
    (s.primeFromLineup l).reports.consumer = s.reports.consumer ∧
    (s.primeFromLineup l).reports.producerInMemory = s.reports.producerInMemory ∧
    (s.primeFromLineup l).reports.interrupt = s.reports.interrupt ∧ (s.primeFromLineup l).stills = s.stills ∧
    (s.primeFromLineup l).valves = s.valves ∧ (s.primeFromLineup l).bus.mode = s.bus.mode ∧
    (s.primeFromLineup l).bus.tail = s.bus.tail ∧ (s.primeFromLineup l).bus.lastStart = s.bus.lastStart ∧
    (s.primeFromLineup l).bus.idleScan = s.bus.idleScan ∧ (s.primeFromLineup l).bus.startHeld = s.bus.startHeld ∧
    (s.primeFromLineup l).slotNode = s.slotNode := by
  unfold Device.primeFromLineup; (try dsimp only); (repeat' split) <;> simp

@[simp] theorem Device.primeFromHeld_keeps (s : Device) (l : Line) :
    (s.primeFromHeld l).time = s.time ∧ (s.primeFromHeld l).half = s.half ∧ (s.primeFromHeld l).strap = s.strap ∧
    (s.primeFromHeld l).port = s.port ∧ (s.primeFromHeld l).jobs = s.jobs ∧
    (s.primeFromHeld l).requests = s.requests ∧ (s.primeFromHeld l).memory = s.memory ∧
    (s.primeFromHeld l).tanks = s.tanks ∧ (s.primeFromHeld l).shutdown = s.shutdown ∧
    (s.primeFromHeld l).charter = s.charter ∧ (s.primeFromHeld l).reports.usable = s.reports.usable ∧
    (s.primeFromHeld l).reports.producer = s.reports.producer ∧
    (s.primeFromHeld l).reports.consumer = s.reports.consumer ∧
    (s.primeFromHeld l).reports.producerInMemory = s.reports.producerInMemory ∧
    (s.primeFromHeld l).reports.interrupt = s.reports.interrupt ∧ (s.primeFromHeld l).stills = s.stills ∧
    (s.primeFromHeld l).valves = s.valves ∧ (s.primeFromHeld l).bus.mode = s.bus.mode ∧
    (s.primeFromHeld l).bus.tail = s.bus.tail ∧ (s.primeFromHeld l).bus.lastStart = s.bus.lastStart ∧
    (s.primeFromHeld l).bus.idleScan = s.bus.idleScan ∧ (s.primeFromHeld l).bus.startHeld = s.bus.startHeld ∧
    (s.primeFromHeld l).slotNode = s.slotNode := by
  unfold Device.primeFromHeld; (try dsimp only); (repeat' split) <;> simp

@[simp] theorem Device.primingComplete_keeps (s : Device) (l : Line) :
    (s.primingComplete l).time = s.time ∧ (s.primingComplete l).half = s.half ∧
    (s.primingComplete l).strap = s.strap ∧ (s.primingComplete l).port = s.port ∧
    (s.primingComplete l).jobs = s.jobs ∧ (s.primingComplete l).requests = s.requests ∧
    (s.primingComplete l).memory = s.memory ∧ (s.primingComplete l).tanks = s.tanks ∧
    (s.primingComplete l).shutdown = s.shutdown ∧ (s.primingComplete l).charter = s.charter ∧
    (s.primingComplete l).reports.usable = s.reports.usable ∧
    (s.primingComplete l).reports.producer = s.reports.producer ∧
    (s.primingComplete l).reports.consumer = s.reports.consumer ∧
    (s.primingComplete l).reports.producerInMemory = s.reports.producerInMemory ∧
    (s.primingComplete l).reports.interrupt = s.reports.interrupt ∧ (s.primingComplete l).stills = s.stills ∧
    (s.primingComplete l).valves = s.valves ∧ (s.primingComplete l).bus.mode = s.bus.mode ∧
    (s.primingComplete l).bus.tail = s.bus.tail ∧ (s.primingComplete l).bus.lastStart = s.bus.lastStart ∧
    (s.primingComplete l).bus.idleScan = s.bus.idleScan ∧ (s.primingComplete l).bus.startHeld = s.bus.startHeld ∧
    (s.primingComplete l).slotNode = s.slotNode := by
  unfold Device.primingComplete; (try dsimp only); (repeat' split) <;> simp

@[simp] theorem Device.enterHeld_keeps (s : Device) (l : Line) (c : HoldCause) :
    (s.enterHeld l c).time = s.time ∧ (s.enterHeld l c).half = s.half ∧ (s.enterHeld l c).strap = s.strap ∧
    (s.enterHeld l c).port = s.port ∧ (s.enterHeld l c).jobs = s.jobs ∧ (s.enterHeld l c).requests = s.requests ∧
    (s.enterHeld l c).memory = s.memory ∧ (s.enterHeld l c).tanks = s.tanks ∧
    (s.enterHeld l c).shutdown = s.shutdown ∧ (s.enterHeld l c).charter = s.charter ∧
    (s.enterHeld l c).reports.usable = s.reports.usable ∧ (s.enterHeld l c).reports.producer = s.reports.producer ∧
    (s.enterHeld l c).reports.consumer = s.reports.consumer ∧
    (s.enterHeld l c).reports.producerInMemory = s.reports.producerInMemory ∧
    (s.enterHeld l c).reports.interrupt = s.reports.interrupt ∧ (s.enterHeld l c).stills = s.stills ∧
    (s.enterHeld l c).valves = s.valves ∧ (s.enterHeld l c).bus.mode = s.bus.mode ∧
    (s.enterHeld l c).bus.tail = s.bus.tail ∧ (s.enterHeld l c).bus.lastStart = s.bus.lastStart ∧
    (s.enterHeld l c).bus.idleScan = s.bus.idleScan ∧ (s.enterHeld l c).bus.startHeld = s.bus.startHeld ∧
    (s.enterHeld l c).slotNode = s.slotNode := by
  unfold Device.enterHeld; (try dsimp only); (repeat' split) <;> simp

@[simp] theorem Device.holdTrigger_keeps (s : Device) (l : Line) (c : HoldCause) :
    (s.holdTrigger l c).time = s.time ∧ (s.holdTrigger l c).half = s.half ∧ (s.holdTrigger l c).strap = s.strap ∧
    (s.holdTrigger l c).port = s.port ∧ (s.holdTrigger l c).jobs = s.jobs ∧
    (s.holdTrigger l c).requests = s.requests ∧ (s.holdTrigger l c).memory = s.memory ∧
    (s.holdTrigger l c).tanks = s.tanks ∧ (s.holdTrigger l c).shutdown = s.shutdown ∧
    (s.holdTrigger l c).charter = s.charter ∧ (s.holdTrigger l c).reports.usable = s.reports.usable ∧
    (s.holdTrigger l c).reports.producer = s.reports.producer ∧
    (s.holdTrigger l c).reports.consumer = s.reports.consumer ∧
    (s.holdTrigger l c).reports.producerInMemory = s.reports.producerInMemory ∧
    (s.holdTrigger l c).reports.interrupt = s.reports.interrupt ∧ (s.holdTrigger l c).stills = s.stills ∧
    (s.holdTrigger l c).valves = s.valves ∧ (s.holdTrigger l c).bus.mode = s.bus.mode ∧
    (s.holdTrigger l c).bus.tail = s.bus.tail ∧ (s.holdTrigger l c).bus.lastStart = s.bus.lastStart ∧
    (s.holdTrigger l c).bus.idleScan = s.bus.idleScan ∧ (s.holdTrigger l c).bus.startHeld = s.bus.startHeld ∧
    (s.holdTrigger l c).slotNode = s.slotNode := by
  unfold Device.holdTrigger; (try dsimp only); (repeat' split) <;> simp

@[simp] theorem Device.clearHold_keeps (s : Device) (l : Line) (c : HoldCause) :
    (s.clearHold l c).time = s.time ∧ (s.clearHold l c).half = s.half ∧ (s.clearHold l c).strap = s.strap ∧
    (s.clearHold l c).port = s.port ∧ (s.clearHold l c).jobs = s.jobs ∧ (s.clearHold l c).requests = s.requests ∧
    (s.clearHold l c).memory = s.memory ∧ (s.clearHold l c).tanks = s.tanks ∧
    (s.clearHold l c).shutdown = s.shutdown ∧ (s.clearHold l c).charter = s.charter ∧
    (s.clearHold l c).reports.usable = s.reports.usable ∧ (s.clearHold l c).reports.producer = s.reports.producer ∧
    (s.clearHold l c).reports.consumer = s.reports.consumer ∧
    (s.clearHold l c).reports.producerInMemory = s.reports.producerInMemory ∧
    (s.clearHold l c).reports.interrupt = s.reports.interrupt ∧ (s.clearHold l c).stills = s.stills ∧
    (s.clearHold l c).valves = s.valves ∧ (s.clearHold l c).bus.mode = s.bus.mode ∧
    (s.clearHold l c).bus.tail = s.bus.tail ∧ (s.clearHold l c).bus.lastStart = s.bus.lastStart ∧
    (s.clearHold l c).bus.idleScan = s.bus.idleScan ∧ (s.clearHold l c).bus.startHeld = s.bus.startHeld ∧
    (s.clearHold l c).slotNode = s.slotNode := by
  unfold Device.clearHold; (try dsimp only); (repeat' split) <;> simp

@[simp] theorem Device.reportTank_keeps (s : Device) (t : TankNo) (e : Tank) (c : ReportCause) :
    (s.reportTank t e c).time = s.time ∧ (s.reportTank t e c).half = s.half ∧
    (s.reportTank t e c).strap = s.strap ∧ (s.reportTank t e c).port = s.port ∧
    (s.reportTank t e c).jobs = s.jobs ∧ (s.reportTank t e c).requests = s.requests ∧
    (s.reportTank t e c).lines = s.lines ∧ (s.reportTank t e c).memory = s.memory ∧
    (s.reportTank t e c).governors = s.governors ∧ (s.reportTank t e c).hoses = s.hoses ∧
    (s.reportTank t e c).tanks = s.tanks ∧ (s.reportTank t e c).topOffs = s.topOffs ∧
    (s.reportTank t e c).shutdown = s.shutdown ∧ (s.reportTank t e c).nodes = s.nodes ∧
    (s.reportTank t e c).targets = s.targets ∧ (s.reportTank t e c).bus = s.bus ∧
    (s.reportTank t e c).link = s.link ∧ (s.reportTank t e c).charter = s.charter ∧
    (s.reportTank t e c).reports.usable = s.reports.usable ∧
    (s.reportTank t e c).reports.producer = s.reports.producer ∧
    (s.reportTank t e c).reports.consumer = s.reports.consumer ∧
    (s.reportTank t e c).reports.producerInMemory = s.reports.producerInMemory ∧
    (s.reportTank t e c).reports.interrupt = s.reports.interrupt ∧ (s.reportTank t e c).stills = s.stills ∧
    (s.reportTank t e c).valves = s.valves ∧ (s.reportTank t e c).slotNode = s.slotNode := by
  unfold Device.reportTank; (try dsimp only); (repeat' split) <;> simp

@[simp] theorem Device.restate_keeps (s : Device) (t : TankNo) (e : Tank) :
    (s.restate t e).time = s.time ∧ (s.restate t e).half = s.half ∧ (s.restate t e).strap = s.strap ∧
    (s.restate t e).port = s.port ∧ (s.restate t e).jobs = s.jobs ∧ (s.restate t e).requests = s.requests ∧
    (s.restate t e).lines = s.lines ∧ (s.restate t e).memory = s.memory ∧ (s.restate t e).governors = s.governors ∧
    (s.restate t e).hoses = s.hoses ∧ (s.restate t e).topOffs = s.topOffs ∧ (s.restate t e).shutdown = s.shutdown ∧
    (s.restate t e).nodes = s.nodes ∧ (s.restate t e).targets = s.targets ∧ (s.restate t e).bus = s.bus ∧
    (s.restate t e).link = s.link ∧ (s.restate t e).charter = s.charter ∧
    (s.restate t e).reports.usable = s.reports.usable ∧ (s.restate t e).reports.producer = s.reports.producer ∧
    (s.restate t e).reports.consumer = s.reports.consumer ∧
    (s.restate t e).reports.producerInMemory = s.reports.producerInMemory ∧
    (s.restate t e).reports.interrupt = s.reports.interrupt ∧ (s.restate t e).stills = s.stills ∧
    (s.restate t e).valves = s.valves ∧ (s.restate t e).slotNode = s.slotNode := by
  unfold Device.restate; (try dsimp only); (repeat' split) <;> simp

@[simp] theorem Device.releaseTank_keeps (s : Device) (l : Line) (t : TankNo) :
    (s.releaseTank l t).time = s.time ∧ (s.releaseTank l t).half = s.half ∧ (s.releaseTank l t).strap = s.strap ∧
    (s.releaseTank l t).port = s.port ∧ (s.releaseTank l t).jobs = s.jobs ∧
    (s.releaseTank l t).requests = s.requests ∧ (s.releaseTank l t).lines = s.lines ∧
    (s.releaseTank l t).memory = s.memory ∧ (s.releaseTank l t).governors = s.governors ∧
    (s.releaseTank l t).hoses = s.hoses ∧ (s.releaseTank l t).topOffs = s.topOffs ∧
    (s.releaseTank l t).shutdown = s.shutdown ∧ (s.releaseTank l t).nodes = s.nodes ∧
    (s.releaseTank l t).targets = s.targets ∧ (s.releaseTank l t).bus = s.bus ∧ (s.releaseTank l t).link = s.link ∧
    (s.releaseTank l t).charter = s.charter ∧ (s.releaseTank l t).reports.usable = s.reports.usable ∧
    (s.releaseTank l t).reports.producer = s.reports.producer ∧
    (s.releaseTank l t).reports.consumer = s.reports.consumer ∧
    (s.releaseTank l t).reports.producerInMemory = s.reports.producerInMemory ∧
    (s.releaseTank l t).reports.interrupt = s.reports.interrupt ∧ (s.releaseTank l t).stills = s.stills ∧
    (s.releaseTank l t).valves = s.valves ∧ (s.releaseTank l t).slotNode = s.slotNode := by
  unfold Device.releaseTank; (try dsimp only); (repeat' split) <;> simp

@[simp] theorem Device.releaseTank_fold_keeps (s : Device) (l : Line) (ts : List TankNo) :
    (ts.foldl (fun s t => s.releaseTank l t) s).time = s.time ∧
    (ts.foldl (fun s t => s.releaseTank l t) s).half = s.half ∧
    (ts.foldl (fun s t => s.releaseTank l t) s).strap = s.strap ∧
    (ts.foldl (fun s t => s.releaseTank l t) s).port = s.port ∧
    (ts.foldl (fun s t => s.releaseTank l t) s).jobs = s.jobs ∧
    (ts.foldl (fun s t => s.releaseTank l t) s).requests = s.requests ∧
    (ts.foldl (fun s t => s.releaseTank l t) s).lines = s.lines ∧
    (ts.foldl (fun s t => s.releaseTank l t) s).memory = s.memory ∧
    (ts.foldl (fun s t => s.releaseTank l t) s).governors = s.governors ∧
    (ts.foldl (fun s t => s.releaseTank l t) s).hoses = s.hoses ∧
    (ts.foldl (fun s t => s.releaseTank l t) s).topOffs = s.topOffs ∧
    (ts.foldl (fun s t => s.releaseTank l t) s).shutdown = s.shutdown ∧
    (ts.foldl (fun s t => s.releaseTank l t) s).nodes = s.nodes ∧
    (ts.foldl (fun s t => s.releaseTank l t) s).targets = s.targets ∧
    (ts.foldl (fun s t => s.releaseTank l t) s).bus = s.bus ∧
    (ts.foldl (fun s t => s.releaseTank l t) s).link = s.link ∧
    (ts.foldl (fun s t => s.releaseTank l t) s).charter = s.charter ∧
    (ts.foldl (fun s t => s.releaseTank l t) s).reports.usable = s.reports.usable ∧
    (ts.foldl (fun s t => s.releaseTank l t) s).reports.producer = s.reports.producer ∧
    (ts.foldl (fun s t => s.releaseTank l t) s).reports.consumer = s.reports.consumer ∧
    (ts.foldl (fun s t => s.releaseTank l t) s).reports.producerInMemory = s.reports.producerInMemory ∧
    (ts.foldl (fun s t => s.releaseTank l t) s).reports.interrupt = s.reports.interrupt ∧
    (ts.foldl (fun s t => s.releaseTank l t) s).stills = s.stills ∧
    (ts.foldl (fun s t => s.releaseTank l t) s).valves = s.valves ∧
    (ts.foldl (fun s t => s.releaseTank l t) s).slotNode = s.slotNode := by
  induction ts generalizing s with
  | nil => simp
  | cons t ts ih => have h := ih (s.releaseTank l t); simp [h]

@[simp] theorem Device.release_keeps (s : Device) (l : Line) :
    (s.release l).time = s.time ∧ (s.release l).half = s.half ∧ (s.release l).strap = s.strap ∧
    (s.release l).port = s.port ∧ (s.release l).jobs = s.jobs ∧ (s.release l).requests = s.requests ∧
    (s.release l).lines = s.lines ∧ (s.release l).memory = s.memory ∧ (s.release l).governors = s.governors ∧
    (s.release l).hoses = s.hoses ∧ (s.release l).shutdown = s.shutdown ∧ (s.release l).nodes = s.nodes ∧
    (s.release l).targets = s.targets ∧ (s.release l).bus = s.bus ∧ (s.release l).link = s.link ∧
    (s.release l).charter = s.charter ∧ (s.release l).reports.usable = s.reports.usable ∧
    (s.release l).reports.producer = s.reports.producer ∧ (s.release l).reports.consumer = s.reports.consumer ∧
    (s.release l).reports.producerInMemory = s.reports.producerInMemory ∧
    (s.release l).reports.interrupt = s.reports.interrupt ∧ (s.release l).stills = s.stills ∧
    (s.release l).valves = s.valves ∧ (s.release l).slotNode = s.slotNode := by
  unfold Device.release; simp

@[simp] theorem Device.enterFree_keeps (s : Device) (l : Line) :
    (s.enterFree l).time = s.time ∧ (s.enterFree l).half = s.half ∧ (s.enterFree l).strap = s.strap ∧
    (s.enterFree l).port = s.port ∧ (s.enterFree l).jobs = s.jobs ∧ (s.enterFree l).requests = s.requests ∧
    (s.enterFree l).shutdown = s.shutdown ∧ (s.enterFree l).charter = s.charter ∧
    (s.enterFree l).reports.usable = s.reports.usable ∧ (s.enterFree l).reports.producer = s.reports.producer ∧
    (s.enterFree l).reports.consumer = s.reports.consumer ∧
    (s.enterFree l).reports.producerInMemory = s.reports.producerInMemory ∧
    (s.enterFree l).reports.interrupt = s.reports.interrupt ∧ (s.enterFree l).stills = s.stills ∧
    (s.enterFree l).valves = s.valves ∧ (s.enterFree l).bus.tail = s.bus.tail ∧
    (s.enterFree l).bus.lastStart = s.bus.lastStart ∧ (s.enterFree l).bus.idleScan = s.bus.idleScan ∧
    (s.enterFree l).bus.startHeld = s.bus.startHeld ∧ (s.enterFree l).slotNode = s.slotNode := by
  unfold Device.enterFree; (try dsimp only); (repeat' split) <;> simp

@[simp] theorem Device.closeValve_keeps (s : Device) (l : Line) (r : Role) :
    (s.closeValve l r).time = s.time ∧ (s.closeValve l r).half = s.half ∧ (s.closeValve l r).strap = s.strap ∧
    (s.closeValve l r).port = s.port ∧ (s.closeValve l r).jobs = s.jobs ∧
    (s.closeValve l r).requests = s.requests ∧ (s.closeValve l r).lines = s.lines ∧
    (s.closeValve l r).governors = s.governors ∧ (s.closeValve l r).hoses = s.hoses ∧
    (s.closeValve l r).tanks = s.tanks ∧ (s.closeValve l r).topOffs = s.topOffs ∧
    (s.closeValve l r).shutdown = s.shutdown ∧ (s.closeValve l r).link = s.link ∧
    (s.closeValve l r).charter = s.charter ∧ (s.closeValve l r).reports.usable = s.reports.usable ∧
    (s.closeValve l r).reports.producer = s.reports.producer ∧
    (s.closeValve l r).reports.consumer = s.reports.consumer ∧
    (s.closeValve l r).reports.producerInMemory = s.reports.producerInMemory ∧
    (s.closeValve l r).reports.interrupt = s.reports.interrupt ∧ (s.closeValve l r).stills = s.stills ∧
    (s.closeValve l r).valves = s.valves ∧ (s.closeValve l r).bus.mode = s.bus.mode ∧
    (s.closeValve l r).bus.tail = s.bus.tail ∧ (s.closeValve l r).bus.lastStart = s.bus.lastStart ∧
    (s.closeValve l r).bus.idleScan = s.bus.idleScan ∧ (s.closeValve l r).bus.startHeld = s.bus.startHeld ∧
    (s.closeValve l r).slotNode = s.slotNode := by
  unfold Device.closeValve; (try dsimp only); (repeat' split) <;> simp

@[simp] theorem Device.closeValves_keeps (s : Device) (l : Line) :
    (s.closeValves l).time = s.time ∧ (s.closeValves l).half = s.half ∧ (s.closeValves l).strap = s.strap ∧
    (s.closeValves l).port = s.port ∧ (s.closeValves l).jobs = s.jobs ∧ (s.closeValves l).requests = s.requests ∧
    (s.closeValves l).shutdown = s.shutdown ∧ (s.closeValves l).charter = s.charter ∧
    (s.closeValves l).reports.usable = s.reports.usable ∧ (s.closeValves l).reports.producer = s.reports.producer ∧
    (s.closeValves l).reports.consumer = s.reports.consumer ∧
    (s.closeValves l).reports.producerInMemory = s.reports.producerInMemory ∧
    (s.closeValves l).reports.interrupt = s.reports.interrupt ∧ (s.closeValves l).stills = s.stills ∧
    (s.closeValves l).valves = s.valves ∧ (s.closeValves l).bus.tail = s.bus.tail ∧
    (s.closeValves l).bus.lastStart = s.bus.lastStart ∧ (s.closeValves l).bus.idleScan = s.bus.idleScan ∧
    (s.closeValves l).bus.startHeld = s.bus.startHeld ∧ (s.closeValves l).slotNode = s.slotNode := by
  unfold Device.closeValves; (try dsimp only); (repeat' split) <;> simp

@[simp] theorem Device.closeManifold_keeps (s : Device) (l : Line) :
    (s.closeManifold l).time = s.time ∧ (s.closeManifold l).half = s.half ∧ (s.closeManifold l).strap = s.strap ∧
    (s.closeManifold l).port = s.port ∧ (s.closeManifold l).jobs = s.jobs ∧
    (s.closeManifold l).requests = s.requests ∧ (s.closeManifold l).shutdown = s.shutdown ∧
    (s.closeManifold l).charter = s.charter ∧ (s.closeManifold l).reports.usable = s.reports.usable ∧
    (s.closeManifold l).reports.producer = s.reports.producer ∧
    (s.closeManifold l).reports.consumer = s.reports.consumer ∧
    (s.closeManifold l).reports.producerInMemory = s.reports.producerInMemory ∧
    (s.closeManifold l).reports.interrupt = s.reports.interrupt ∧ (s.closeManifold l).stills = s.stills ∧
    (s.closeManifold l).valves = s.valves ∧ (s.closeManifold l).bus.tail = s.bus.tail ∧
    (s.closeManifold l).bus.lastStart = s.bus.lastStart ∧ (s.closeManifold l).bus.idleScan = s.bus.idleScan ∧
    (s.closeManifold l).bus.startHeld = s.bus.startHeld ∧ (s.closeManifold l).slotNode = s.slotNode := by
  unfold Device.closeManifold; (try dsimp only); (repeat' split) <;> simp

@[simp] theorem Device.enterClosing_keeps (s : Device) (l : Line) :
    (s.enterClosing l).time = s.time ∧ (s.enterClosing l).half = s.half ∧ (s.enterClosing l).strap = s.strap ∧
    (s.enterClosing l).port = s.port ∧ (s.enterClosing l).jobs = s.jobs ∧
    (s.enterClosing l).requests = s.requests ∧ (s.enterClosing l).shutdown = s.shutdown ∧
    (s.enterClosing l).charter = s.charter ∧ (s.enterClosing l).reports.usable = s.reports.usable ∧
    (s.enterClosing l).reports.producer = s.reports.producer ∧
    (s.enterClosing l).reports.consumer = s.reports.consumer ∧
    (s.enterClosing l).reports.producerInMemory = s.reports.producerInMemory ∧
    (s.enterClosing l).reports.interrupt = s.reports.interrupt ∧ (s.enterClosing l).stills = s.stills ∧
    (s.enterClosing l).valves = s.valves ∧ (s.enterClosing l).bus.tail = s.bus.tail ∧
    (s.enterClosing l).bus.lastStart = s.bus.lastStart ∧ (s.enterClosing l).bus.idleScan = s.bus.idleScan ∧
    (s.enterClosing l).bus.startHeld = s.bus.startHeld ∧ (s.enterClosing l).slotNode = s.slotNode := by
  unfold Device.enterClosing; (try dsimp only); (repeat' split) <;> simp

@[simp] theorem Device.enterStripping_keeps (s : Device) (l : Line) :
    (s.enterStripping l).time = s.time ∧ (s.enterStripping l).half = s.half ∧
    (s.enterStripping l).strap = s.strap ∧ (s.enterStripping l).port = s.port ∧
    (s.enterStripping l).jobs = s.jobs ∧ (s.enterStripping l).requests = s.requests ∧
    (s.enterStripping l).memory = s.memory ∧ (s.enterStripping l).tanks = s.tanks ∧
    (s.enterStripping l).shutdown = s.shutdown ∧ (s.enterStripping l).charter = s.charter ∧
    (s.enterStripping l).reports.usable = s.reports.usable ∧
    (s.enterStripping l).reports.producer = s.reports.producer ∧
    (s.enterStripping l).reports.consumer = s.reports.consumer ∧
    (s.enterStripping l).reports.producerInMemory = s.reports.producerInMemory ∧
    (s.enterStripping l).reports.interrupt = s.reports.interrupt ∧ (s.enterStripping l).stills = s.stills ∧
    (s.enterStripping l).valves = s.valves ∧ (s.enterStripping l).bus.mode = s.bus.mode ∧
    (s.enterStripping l).bus.tail = s.bus.tail ∧ (s.enterStripping l).bus.lastStart = s.bus.lastStart ∧
    (s.enterStripping l).bus.idleScan = s.bus.idleScan ∧ (s.enterStripping l).bus.startHeld = s.bus.startHeld ∧
    (s.enterStripping l).slotNode = s.slotNode := by
  unfold Device.enterStripping; (try dsimp only); (repeat' split) <;> simp

@[simp] theorem Device.leaveStopping_keeps (s : Device) (l : Line) :
    (s.leaveStopping l).time = s.time ∧ (s.leaveStopping l).half = s.half ∧ (s.leaveStopping l).strap = s.strap ∧
    (s.leaveStopping l).port = s.port ∧ (s.leaveStopping l).jobs = s.jobs ∧
    (s.leaveStopping l).requests = s.requests ∧ (s.leaveStopping l).shutdown = s.shutdown ∧
    (s.leaveStopping l).charter = s.charter ∧ (s.leaveStopping l).reports.usable = s.reports.usable ∧
    (s.leaveStopping l).reports.producer = s.reports.producer ∧
    (s.leaveStopping l).reports.consumer = s.reports.consumer ∧
    (s.leaveStopping l).reports.producerInMemory = s.reports.producerInMemory ∧
    (s.leaveStopping l).reports.interrupt = s.reports.interrupt ∧ (s.leaveStopping l).stills = s.stills ∧
    (s.leaveStopping l).valves = s.valves ∧ (s.leaveStopping l).bus.tail = s.bus.tail ∧
    (s.leaveStopping l).bus.lastStart = s.bus.lastStart ∧ (s.leaveStopping l).bus.idleScan = s.bus.idleScan ∧
    (s.leaveStopping l).bus.startHeld = s.bus.startHeld ∧ (s.leaveStopping l).slotNode = s.slotNode := by
  unfold Device.leaveStopping; (try dsimp only); (repeat' split) <;> simp

@[simp] theorem Device.enterPumpStopping_keeps (s : Device) (l : Line) :
    (s.enterPumpStopping l).time = s.time ∧ (s.enterPumpStopping l).half = s.half ∧
    (s.enterPumpStopping l).strap = s.strap ∧ (s.enterPumpStopping l).port = s.port ∧
    (s.enterPumpStopping l).jobs = s.jobs ∧ (s.enterPumpStopping l).requests = s.requests ∧
    (s.enterPumpStopping l).shutdown = s.shutdown ∧ (s.enterPumpStopping l).charter = s.charter ∧
    (s.enterPumpStopping l).reports.usable = s.reports.usable ∧
    (s.enterPumpStopping l).reports.producer = s.reports.producer ∧
    (s.enterPumpStopping l).reports.consumer = s.reports.consumer ∧
    (s.enterPumpStopping l).reports.producerInMemory = s.reports.producerInMemory ∧
    (s.enterPumpStopping l).reports.interrupt = s.reports.interrupt ∧ (s.enterPumpStopping l).stills = s.stills ∧
    (s.enterPumpStopping l).valves = s.valves ∧ (s.enterPumpStopping l).bus.tail = s.bus.tail ∧
    (s.enterPumpStopping l).bus.lastStart = s.bus.lastStart ∧
    (s.enterPumpStopping l).bus.idleScan = s.bus.idleScan ∧
    (s.enterPumpStopping l).bus.startHeld = s.bus.startHeld ∧ (s.enterPumpStopping l).slotNode = s.slotNode := by
  unfold Device.enterPumpStopping; (try dsimp only); (repeat' split) <;> simp

@[simp] theorem Device.enterStopping_keeps (s : Device) (l : Line) (c : Cause) (b : Bool) :
    (s.enterStopping l c b).time = s.time ∧ (s.enterStopping l c b).half = s.half ∧
    (s.enterStopping l c b).strap = s.strap ∧ (s.enterStopping l c b).port = s.port ∧
    (s.enterStopping l c b).jobs = s.jobs ∧ (s.enterStopping l c b).requests = s.requests ∧
    (s.enterStopping l c b).shutdown = s.shutdown ∧ (s.enterStopping l c b).charter = s.charter ∧
    (s.enterStopping l c b).reports.usable = s.reports.usable ∧
    (s.enterStopping l c b).reports.producer = s.reports.producer ∧
    (s.enterStopping l c b).reports.consumer = s.reports.consumer ∧
    (s.enterStopping l c b).reports.producerInMemory = s.reports.producerInMemory ∧
    (s.enterStopping l c b).reports.interrupt = s.reports.interrupt ∧ (s.enterStopping l c b).stills = s.stills ∧
    (s.enterStopping l c b).valves = s.valves ∧ (s.enterStopping l c b).bus.tail = s.bus.tail ∧
    (s.enterStopping l c b).bus.lastStart = s.bus.lastStart ∧
    (s.enterStopping l c b).bus.idleScan = s.bus.idleScan ∧
    (s.enterStopping l c b).bus.startHeld = s.bus.startHeld ∧ (s.enterStopping l c b).slotNode = s.slotNode := by
  unfold Device.enterStopping; (try dsimp only); (repeat' split) <;> simp

@[simp] theorem Device.closeFromLineup_keeps (s : Device) (l : Line) (c : Cause) :
    (s.closeFromLineup l c).time = s.time ∧ (s.closeFromLineup l c).half = s.half ∧
    (s.closeFromLineup l c).strap = s.strap ∧ (s.closeFromLineup l c).port = s.port ∧
    (s.closeFromLineup l c).jobs = s.jobs ∧ (s.closeFromLineup l c).requests = s.requests ∧
    (s.closeFromLineup l c).shutdown = s.shutdown ∧ (s.closeFromLineup l c).charter = s.charter ∧
    (s.closeFromLineup l c).reports.usable = s.reports.usable ∧
    (s.closeFromLineup l c).reports.producer = s.reports.producer ∧
    (s.closeFromLineup l c).reports.consumer = s.reports.consumer ∧
    (s.closeFromLineup l c).reports.producerInMemory = s.reports.producerInMemory ∧
    (s.closeFromLineup l c).reports.interrupt = s.reports.interrupt ∧ (s.closeFromLineup l c).stills = s.stills ∧
    (s.closeFromLineup l c).valves = s.valves ∧ (s.closeFromLineup l c).bus.tail = s.bus.tail ∧
    (s.closeFromLineup l c).bus.lastStart = s.bus.lastStart ∧
    (s.closeFromLineup l c).bus.idleScan = s.bus.idleScan ∧
    (s.closeFromLineup l c).bus.startHeld = s.bus.startHeld ∧ (s.closeFromLineup l c).slotNode = s.slotNode := by
  unfold Device.closeFromLineup; (try dsimp only); (repeat' split) <;> simp

@[simp] theorem Device.stopTrigger_keeps (s : Device) (l : Line) (c : Cause) (b : Bool) :
    (s.stopTrigger l c b).time = s.time ∧ (s.stopTrigger l c b).half = s.half ∧
    (s.stopTrigger l c b).strap = s.strap ∧ (s.stopTrigger l c b).port = s.port ∧
    (s.stopTrigger l c b).jobs = s.jobs ∧ (s.stopTrigger l c b).requests = s.requests ∧
    (s.stopTrigger l c b).shutdown = s.shutdown ∧ (s.stopTrigger l c b).charter = s.charter ∧
    (s.stopTrigger l c b).reports.usable = s.reports.usable ∧
    (s.stopTrigger l c b).reports.producer = s.reports.producer ∧
    (s.stopTrigger l c b).reports.consumer = s.reports.consumer ∧
    (s.stopTrigger l c b).reports.producerInMemory = s.reports.producerInMemory ∧
    (s.stopTrigger l c b).reports.interrupt = s.reports.interrupt ∧ (s.stopTrigger l c b).stills = s.stills ∧
    (s.stopTrigger l c b).valves = s.valves ∧ (s.stopTrigger l c b).bus.tail = s.bus.tail ∧
    (s.stopTrigger l c b).bus.lastStart = s.bus.lastStart ∧ (s.stopTrigger l c b).bus.idleScan = s.bus.idleScan ∧
    (s.stopTrigger l c b).bus.startHeld = s.bus.startHeld ∧ (s.stopTrigger l c b).slotNode = s.slotNode := by
  unfold Device.stopTrigger; (try dsimp only); (repeat' split) <;> simp

@[simp] theorem Device.finishRamp_keeps (s : Device) (l : Line) :
    (s.finishRamp l).time = s.time ∧ (s.finishRamp l).half = s.half ∧ (s.finishRamp l).strap = s.strap ∧
    (s.finishRamp l).port = s.port ∧ (s.finishRamp l).jobs = s.jobs ∧ (s.finishRamp l).requests = s.requests ∧
    (s.finishRamp l).shutdown = s.shutdown ∧ (s.finishRamp l).charter = s.charter ∧
    (s.finishRamp l).reports.usable = s.reports.usable ∧ (s.finishRamp l).reports.producer = s.reports.producer ∧
    (s.finishRamp l).reports.consumer = s.reports.consumer ∧
    (s.finishRamp l).reports.producerInMemory = s.reports.producerInMemory ∧
    (s.finishRamp l).reports.interrupt = s.reports.interrupt ∧ (s.finishRamp l).stills = s.stills ∧
    (s.finishRamp l).valves = s.valves ∧ (s.finishRamp l).bus.tail = s.bus.tail ∧
    (s.finishRamp l).bus.lastStart = s.bus.lastStart ∧ (s.finishRamp l).bus.idleScan = s.bus.idleScan ∧
    (s.finishRamp l).bus.startHeld = s.bus.startHeld ∧ (s.finishRamp l).slotNode = s.slotNode := by
  unfold Device.finishRamp; (try dsimp only); (repeat' split) <;> simp

@[simp] theorem Device.governorStep_keeps (s : Device) (l : Line) (d : Time) :
    (s.governorStep l d).time = s.time ∧ (s.governorStep l d).half = s.half ∧
    (s.governorStep l d).strap = s.strap ∧ (s.governorStep l d).port = s.port ∧
    (s.governorStep l d).jobs = s.jobs ∧ (s.governorStep l d).requests = s.requests ∧
    (s.governorStep l d).shutdown = s.shutdown ∧ (s.governorStep l d).charter = s.charter ∧
    (s.governorStep l d).reports.usable = s.reports.usable ∧
    (s.governorStep l d).reports.producer = s.reports.producer ∧
    (s.governorStep l d).reports.consumer = s.reports.consumer ∧
    (s.governorStep l d).reports.producerInMemory = s.reports.producerInMemory ∧
    (s.governorStep l d).reports.interrupt = s.reports.interrupt ∧ (s.governorStep l d).stills = s.stills ∧
    (s.governorStep l d).valves = s.valves ∧ (s.governorStep l d).bus.tail = s.bus.tail ∧
    (s.governorStep l d).bus.lastStart = s.bus.lastStart ∧ (s.governorStep l d).bus.idleScan = s.bus.idleScan ∧
    (s.governorStep l d).bus.startHeld = s.bus.startHeld ∧ (s.governorStep l d).slotNode = s.slotNode := by
  unfold Device.governorStep; (try dsimp only); (repeat' split) <;> simp

@[simp] theorem Device.stripComplete_keeps (s : Device) (l : Line) :
    (s.stripComplete l).time = s.time ∧ (s.stripComplete l).half = s.half ∧ (s.stripComplete l).strap = s.strap ∧
    (s.stripComplete l).port = s.port ∧ (s.stripComplete l).jobs = s.jobs ∧
    (s.stripComplete l).requests = s.requests ∧ (s.stripComplete l).shutdown = s.shutdown ∧
    (s.stripComplete l).charter = s.charter ∧ (s.stripComplete l).reports.usable = s.reports.usable ∧
    (s.stripComplete l).reports.producer = s.reports.producer ∧
    (s.stripComplete l).reports.consumer = s.reports.consumer ∧
    (s.stripComplete l).reports.producerInMemory = s.reports.producerInMemory ∧
    (s.stripComplete l).reports.interrupt = s.reports.interrupt ∧ (s.stripComplete l).stills = s.stills ∧
    (s.stripComplete l).valves = s.valves ∧ (s.stripComplete l).bus.tail = s.bus.tail ∧
    (s.stripComplete l).bus.lastStart = s.bus.lastStart ∧ (s.stripComplete l).bus.idleScan = s.bus.idleScan ∧
    (s.stripComplete l).bus.startHeld = s.bus.startHeld ∧ (s.stripComplete l).slotNode = s.slotNode := by
  unfold Device.stripComplete; (try dsimp only); (repeat' split) <;> simp

@[simp] theorem Device.startTest_keeps (s : Device) (l : Line) :
    (s.startTest l).time = s.time ∧ (s.startTest l).half = s.half ∧ (s.startTest l).strap = s.strap ∧
    (s.startTest l).port = s.port ∧ (s.startTest l).jobs = s.jobs ∧ (s.startTest l).requests = s.requests ∧
    (s.startTest l).memory = s.memory ∧ (s.startTest l).tanks = s.tanks ∧ (s.startTest l).shutdown = s.shutdown ∧
    (s.startTest l).charter = s.charter ∧ (s.startTest l).reports.usable = s.reports.usable ∧
    (s.startTest l).reports.producer = s.reports.producer ∧ (s.startTest l).reports.consumer = s.reports.consumer ∧
    (s.startTest l).reports.producerInMemory = s.reports.producerInMemory ∧
    (s.startTest l).reports.interrupt = s.reports.interrupt ∧ (s.startTest l).stills = s.stills ∧
    (s.startTest l).valves = s.valves ∧ (s.startTest l).bus.mode = s.bus.mode ∧
    (s.startTest l).bus.tail = s.bus.tail ∧ (s.startTest l).bus.lastStart = s.bus.lastStart ∧
    (s.startTest l).bus.idleScan = s.bus.idleScan ∧ (s.startTest l).bus.startHeld = s.bus.startHeld ∧
    (s.startTest l).slotNode = s.slotNode := by
  unfold Device.startTest; (try dsimp only); (repeat' split) <;> simp

@[simp] theorem Device.enterStartWait_keeps (s : Device) (l : Line) :
    (s.enterStartWait l).time = s.time ∧ (s.enterStartWait l).half = s.half ∧
    (s.enterStartWait l).strap = s.strap ∧ (s.enterStartWait l).port = s.port ∧
    (s.enterStartWait l).jobs = s.jobs ∧ (s.enterStartWait l).requests = s.requests ∧
    (s.enterStartWait l).memory = s.memory ∧ (s.enterStartWait l).tanks = s.tanks ∧
    (s.enterStartWait l).shutdown = s.shutdown ∧ (s.enterStartWait l).charter = s.charter ∧
    (s.enterStartWait l).reports.usable = s.reports.usable ∧
    (s.enterStartWait l).reports.producer = s.reports.producer ∧
    (s.enterStartWait l).reports.consumer = s.reports.consumer ∧
    (s.enterStartWait l).reports.producerInMemory = s.reports.producerInMemory ∧
    (s.enterStartWait l).reports.interrupt = s.reports.interrupt ∧ (s.enterStartWait l).stills = s.stills ∧
    (s.enterStartWait l).valves = s.valves ∧ (s.enterStartWait l).bus.mode = s.bus.mode ∧
    (s.enterStartWait l).bus.tail = s.bus.tail ∧ (s.enterStartWait l).bus.lastStart = s.bus.lastStart ∧
    (s.enterStartWait l).bus.idleScan = s.bus.idleScan ∧ (s.enterStartWait l).bus.startHeld = s.bus.startHeld ∧
    (s.enterStartWait l).slotNode = s.slotNode := by
  unfold Device.enterStartWait; (try dsimp only); (repeat' split) <;> simp

@[simp] theorem Device.enterManifoldOpening_keeps (s : Device) (l : Line) :
    (s.enterManifoldOpening l).time = s.time ∧ (s.enterManifoldOpening l).half = s.half ∧
    (s.enterManifoldOpening l).strap = s.strap ∧ (s.enterManifoldOpening l).port = s.port ∧
    (s.enterManifoldOpening l).jobs = s.jobs ∧ (s.enterManifoldOpening l).requests = s.requests ∧
    (s.enterManifoldOpening l).memory = s.memory ∧ (s.enterManifoldOpening l).tanks = s.tanks ∧
    (s.enterManifoldOpening l).shutdown = s.shutdown ∧ (s.enterManifoldOpening l).charter = s.charter ∧
    (s.enterManifoldOpening l).reports.usable = s.reports.usable ∧
    (s.enterManifoldOpening l).reports.producer = s.reports.producer ∧
    (s.enterManifoldOpening l).reports.consumer = s.reports.consumer ∧
    (s.enterManifoldOpening l).reports.producerInMemory = s.reports.producerInMemory ∧
    (s.enterManifoldOpening l).reports.interrupt = s.reports.interrupt ∧
    (s.enterManifoldOpening l).stills = s.stills ∧ (s.enterManifoldOpening l).valves = s.valves ∧
    (s.enterManifoldOpening l).bus.mode = s.bus.mode ∧ (s.enterManifoldOpening l).bus.tail = s.bus.tail ∧
    (s.enterManifoldOpening l).bus.lastStart = s.bus.lastStart ∧
    (s.enterManifoldOpening l).bus.idleScan = s.bus.idleScan ∧
    (s.enterManifoldOpening l).bus.startHeld = s.bus.startHeld ∧ (s.enterManifoldOpening l).slotNode = s.slotNode := by
  unfold Device.enterManifoldOpening; (try dsimp only); (repeat' split) <;> simp

@[simp] theorem Device.lineupClaims_keeps (s : Device) (l : Line) :
    (s.lineupClaims l).time = s.time ∧ (s.lineupClaims l).half = s.half ∧ (s.lineupClaims l).strap = s.strap ∧
    (s.lineupClaims l).port = s.port ∧ (s.lineupClaims l).jobs = s.jobs ∧
    (s.lineupClaims l).requests = s.requests ∧ (s.lineupClaims l).memory = s.memory ∧
    (s.lineupClaims l).tanks = s.tanks ∧ (s.lineupClaims l).shutdown = s.shutdown ∧
    (s.lineupClaims l).charter = s.charter ∧ (s.lineupClaims l).reports.usable = s.reports.usable ∧
    (s.lineupClaims l).reports.producer = s.reports.producer ∧
    (s.lineupClaims l).reports.consumer = s.reports.consumer ∧
    (s.lineupClaims l).reports.producerInMemory = s.reports.producerInMemory ∧
    (s.lineupClaims l).reports.interrupt = s.reports.interrupt ∧ (s.lineupClaims l).stills = s.stills ∧
    (s.lineupClaims l).valves = s.valves ∧ (s.lineupClaims l).bus.mode = s.bus.mode ∧
    (s.lineupClaims l).bus.tail = s.bus.tail ∧ (s.lineupClaims l).bus.lastStart = s.bus.lastStart ∧
    (s.lineupClaims l).bus.idleScan = s.bus.idleScan ∧ (s.lineupClaims l).bus.startHeld = s.bus.startHeld ∧
    (s.lineupClaims l).slotNode = s.slotNode := by
  unfold Device.lineupClaims; (try dsimp only); (repeat' split) <;> simp

@[simp] theorem Device.valveRemote_keeps (s : Device) (l : Line) (r : Role) :
    (s.valveRemote l r).time = s.time ∧ (s.valveRemote l r).half = s.half ∧ (s.valveRemote l r).strap = s.strap ∧
    (s.valveRemote l r).port = s.port ∧ (s.valveRemote l r).jobs = s.jobs ∧
    (s.valveRemote l r).requests = s.requests ∧ (s.valveRemote l r).tanks = s.tanks ∧
    (s.valveRemote l r).shutdown = s.shutdown ∧ (s.valveRemote l r).charter = s.charter ∧
    (s.valveRemote l r).reports.usable = s.reports.usable ∧
    (s.valveRemote l r).reports.producer = s.reports.producer ∧
    (s.valveRemote l r).reports.consumer = s.reports.consumer ∧
    (s.valveRemote l r).reports.producerInMemory = s.reports.producerInMemory ∧
    (s.valveRemote l r).reports.interrupt = s.reports.interrupt ∧ (s.valveRemote l r).stills = s.stills ∧
    (s.valveRemote l r).valves = s.valves ∧ (s.valveRemote l r).bus.mode = s.bus.mode ∧
    (s.valveRemote l r).bus.tail = s.bus.tail ∧ (s.valveRemote l r).bus.lastStart = s.bus.lastStart ∧
    (s.valveRemote l r).bus.idleScan = s.bus.idleScan ∧ (s.valveRemote l r).bus.startHeld = s.bus.startHeld ∧
    (s.valveRemote l r).slotNode = s.slotNode := by
  unfold Device.valveRemote; (try dsimp only); (repeat' split) <;> simp

@[simp] theorem Device.lineupEnd_keeps (s : Device) (l : Line) (r : Role) (o : TxOutcome) :
    (s.lineupEnd l r o).time = s.time ∧ (s.lineupEnd l r o).half = s.half ∧ (s.lineupEnd l r o).strap = s.strap ∧
    (s.lineupEnd l r o).port = s.port ∧ (s.lineupEnd l r o).jobs = s.jobs ∧
    (s.lineupEnd l r o).requests = s.requests ∧ (s.lineupEnd l r o).tanks = s.tanks ∧
    (s.lineupEnd l r o).shutdown = s.shutdown ∧ (s.lineupEnd l r o).charter = s.charter ∧
    (s.lineupEnd l r o).reports.usable = s.reports.usable ∧
    (s.lineupEnd l r o).reports.producer = s.reports.producer ∧
    (s.lineupEnd l r o).reports.consumer = s.reports.consumer ∧
    (s.lineupEnd l r o).reports.producerInMemory = s.reports.producerInMemory ∧
    (s.lineupEnd l r o).reports.interrupt = s.reports.interrupt ∧ (s.lineupEnd l r o).stills = s.stills ∧
    (s.lineupEnd l r o).valves = s.valves ∧ (s.lineupEnd l r o).bus.mode = s.bus.mode ∧
    (s.lineupEnd l r o).bus.tail = s.bus.tail ∧ (s.lineupEnd l r o).bus.lastStart = s.bus.lastStart ∧
    (s.lineupEnd l r o).bus.idleScan = s.bus.idleScan ∧ (s.lineupEnd l r o).bus.startHeld = s.bus.startHeld ∧
    (s.lineupEnd l r o).slotNode = s.slotNode := by
  unfold Device.lineupEnd; (try dsimp only); (repeat' split) <;> simp

@[simp] theorem Device.closingEnd_keeps (s : Device) (l : Line) (n : NodeNo) (r : Role) :
    (s.closingEnd l n r).time = s.time ∧ (s.closingEnd l n r).half = s.half ∧
    (s.closingEnd l n r).strap = s.strap ∧ (s.closingEnd l n r).port = s.port ∧
    (s.closingEnd l n r).jobs = s.jobs ∧ (s.closingEnd l n r).requests = s.requests ∧
    (s.closingEnd l n r).shutdown = s.shutdown ∧ (s.closingEnd l n r).charter = s.charter ∧
    (s.closingEnd l n r).reports.usable = s.reports.usable ∧
    (s.closingEnd l n r).reports.producer = s.reports.producer ∧
    (s.closingEnd l n r).reports.consumer = s.reports.consumer ∧
    (s.closingEnd l n r).reports.producerInMemory = s.reports.producerInMemory ∧
    (s.closingEnd l n r).reports.interrupt = s.reports.interrupt ∧ (s.closingEnd l n r).stills = s.stills ∧
    (s.closingEnd l n r).valves = s.valves ∧ (s.closingEnd l n r).bus.tail = s.bus.tail ∧
    (s.closingEnd l n r).bus.lastStart = s.bus.lastStart ∧ (s.closingEnd l n r).bus.idleScan = s.bus.idleScan ∧
    (s.closingEnd l n r).bus.startHeld = s.bus.startHeld ∧ (s.closingEnd l n r).slotNode = s.slotNode := by
  unfold Device.closingEnd; (try dsimp only); (repeat' split) <;> simp

@[simp] theorem Device.valveEnd_keeps (s : Device) (l : Line) (n : NodeNo) (a : Act) (o : TxOutcome) :
    (s.valveEnd l n a o).time = s.time ∧ (s.valveEnd l n a o).half = s.half ∧
    (s.valveEnd l n a o).strap = s.strap ∧ (s.valveEnd l n a o).port = s.port ∧
    (s.valveEnd l n a o).jobs = s.jobs ∧ (s.valveEnd l n a o).requests = s.requests ∧
    (s.valveEnd l n a o).shutdown = s.shutdown ∧ (s.valveEnd l n a o).charter = s.charter ∧
    (s.valveEnd l n a o).reports.usable = s.reports.usable ∧
    (s.valveEnd l n a o).reports.producer = s.reports.producer ∧
    (s.valveEnd l n a o).reports.consumer = s.reports.consumer ∧
    (s.valveEnd l n a o).reports.producerInMemory = s.reports.producerInMemory ∧
    (s.valveEnd l n a o).reports.interrupt = s.reports.interrupt ∧ (s.valveEnd l n a o).stills = s.stills ∧
    (s.valveEnd l n a o).valves = s.valves ∧ (s.valveEnd l n a o).bus.tail = s.bus.tail ∧
    (s.valveEnd l n a o).bus.lastStart = s.bus.lastStart ∧ (s.valveEnd l n a o).bus.idleScan = s.bus.idleScan ∧
    (s.valveEnd l n a o).bus.startHeld = s.bus.startHeld ∧ (s.valveEnd l n a o).slotNode = s.slotNode := by
  unfold Device.valveEnd; (try dsimp only); (repeat' split) <;> simp

@[simp] theorem Device.pumpEnd_keeps (s : Device) (l : Line) (n : NodeNo) :
    (s.pumpEnd l n).time = s.time ∧ (s.pumpEnd l n).half = s.half ∧ (s.pumpEnd l n).strap = s.strap ∧
    (s.pumpEnd l n).port = s.port ∧ (s.pumpEnd l n).jobs = s.jobs ∧ (s.pumpEnd l n).requests = s.requests ∧
    (s.pumpEnd l n).shutdown = s.shutdown ∧ (s.pumpEnd l n).charter = s.charter ∧
    (s.pumpEnd l n).reports.usable = s.reports.usable ∧ (s.pumpEnd l n).reports.producer = s.reports.producer ∧
    (s.pumpEnd l n).reports.consumer = s.reports.consumer ∧
    (s.pumpEnd l n).reports.producerInMemory = s.reports.producerInMemory ∧
    (s.pumpEnd l n).reports.interrupt = s.reports.interrupt ∧ (s.pumpEnd l n).stills = s.stills ∧
    (s.pumpEnd l n).valves = s.valves ∧ (s.pumpEnd l n).bus.tail = s.bus.tail ∧
    (s.pumpEnd l n).bus.lastStart = s.bus.lastStart ∧ (s.pumpEnd l n).bus.idleScan = s.bus.idleScan ∧
    (s.pumpEnd l n).bus.startHeld = s.bus.startHeld ∧ (s.pumpEnd l n).slotNode = s.slotNode := by
  unfold Device.pumpEnd; (try dsimp only); (repeat' split) <;> simp

@[simp] theorem Device.lineupExpired_keeps (s : Device) (l : Line) :
    (s.lineupExpired l).time = s.time ∧ (s.lineupExpired l).half = s.half ∧ (s.lineupExpired l).strap = s.strap ∧
    (s.lineupExpired l).port = s.port ∧ (s.lineupExpired l).jobs = s.jobs ∧
    (s.lineupExpired l).requests = s.requests ∧ (s.lineupExpired l).charter = s.charter ∧
    (s.lineupExpired l).reports.usable = s.reports.usable ∧
    (s.lineupExpired l).reports.producer = s.reports.producer ∧
    (s.lineupExpired l).reports.consumer = s.reports.consumer ∧
    (s.lineupExpired l).reports.producerInMemory = s.reports.producerInMemory ∧
    (s.lineupExpired l).reports.interrupt = s.reports.interrupt ∧ (s.lineupExpired l).stills = s.stills ∧
    (s.lineupExpired l).valves = s.valves ∧ (s.lineupExpired l).bus.tail = s.bus.tail ∧
    (s.lineupExpired l).bus.lastStart = s.bus.lastStart ∧ (s.lineupExpired l).bus.idleScan = s.bus.idleScan ∧
    (s.lineupExpired l).bus.startHeld = s.bus.startHeld ∧ (s.lineupExpired l).slotNode = s.slotNode ∧
    (s.lineupExpired l).shutdown.shipLoop = s.shutdown.shipLoop ∧
    (s.lineupExpired l).shutdown.tankAlarm = s.shutdown.tankAlarm ∧
    (s.lineupExpired l).shutdown.valveAlarm = s.shutdown.valveAlarm := by
  unfold Device.lineupExpired; (try dsimp only); (repeat' split) <;> simp

@[simp] theorem Device.stripExpired_keeps (s : Device) (l : Line) :
    (s.stripExpired l).time = s.time ∧ (s.stripExpired l).half = s.half ∧ (s.stripExpired l).strap = s.strap ∧
    (s.stripExpired l).port = s.port ∧ (s.stripExpired l).jobs = s.jobs ∧
    (s.stripExpired l).requests = s.requests ∧ (s.stripExpired l).shutdown = s.shutdown ∧
    (s.stripExpired l).charter = s.charter ∧ (s.stripExpired l).reports.usable = s.reports.usable ∧
    (s.stripExpired l).reports.producer = s.reports.producer ∧
    (s.stripExpired l).reports.consumer = s.reports.consumer ∧
    (s.stripExpired l).reports.producerInMemory = s.reports.producerInMemory ∧
    (s.stripExpired l).reports.interrupt = s.reports.interrupt ∧ (s.stripExpired l).stills = s.stills ∧
    (s.stripExpired l).valves = s.valves ∧ (s.stripExpired l).bus.tail = s.bus.tail ∧
    (s.stripExpired l).bus.lastStart = s.bus.lastStart ∧ (s.stripExpired l).bus.idleScan = s.bus.idleScan ∧
    (s.stripExpired l).bus.startHeld = s.bus.startHeld ∧ (s.stripExpired l).slotNode = s.slotNode := by
  unfold Device.stripExpired; (try dsimp only); (repeat' split) <;> simp

@[simp] theorem Device.clearLatch_one_keeps (s : Device) (l : Line) :
    (if (s.line l).state = .tripped then s.enterClosing l else s).time = s.time ∧
    (if (s.line l).state = .tripped then s.enterClosing l else s).half = s.half ∧
    (if (s.line l).state = .tripped then s.enterClosing l else s).strap = s.strap ∧
    (if (s.line l).state = .tripped then s.enterClosing l else s).port = s.port ∧
    (if (s.line l).state = .tripped then s.enterClosing l else s).jobs = s.jobs ∧
    (if (s.line l).state = .tripped then s.enterClosing l else s).requests = s.requests ∧
    (if (s.line l).state = .tripped then s.enterClosing l else s).shutdown = s.shutdown ∧
    (if (s.line l).state = .tripped then s.enterClosing l else s).charter = s.charter ∧
    (if (s.line l).state = .tripped then s.enterClosing l else s).reports.usable = s.reports.usable ∧
    (if (s.line l).state = .tripped then s.enterClosing l else s).reports.producer = s.reports.producer ∧
    (if (s.line l).state = .tripped then s.enterClosing l else s).reports.consumer = s.reports.consumer ∧
    (if (s.line l).state = .tripped then s.enterClosing l else s).reports.producerInMemory = s.reports.producerInMemory ∧
    (if (s.line l).state = .tripped then s.enterClosing l else s).reports.interrupt = s.reports.interrupt ∧
    (if (s.line l).state = .tripped then s.enterClosing l else s).stills = s.stills ∧
    (if (s.line l).state = .tripped then s.enterClosing l else s).valves = s.valves ∧
    (if (s.line l).state = .tripped then s.enterClosing l else s).bus.tail = s.bus.tail ∧
    (if (s.line l).state = .tripped then s.enterClosing l else s).bus.lastStart = s.bus.lastStart ∧
    (if (s.line l).state = .tripped then s.enterClosing l else s).bus.idleScan = s.bus.idleScan ∧
    (if (s.line l).state = .tripped then s.enterClosing l else s).bus.startHeld = s.bus.startHeld ∧
    (if (s.line l).state = .tripped then s.enterClosing l else s).slotNode = s.slotNode := by
  split <;> simp

@[simp] theorem Device.dropLatch_keeps (s : Device) :
    (s.dropLatch).time = s.time ∧ (s.dropLatch).half = s.half ∧ (s.dropLatch).strap = s.strap ∧
    (s.dropLatch).port = s.port ∧ (s.dropLatch).jobs = s.jobs ∧ (s.dropLatch).requests = s.requests ∧
    (s.dropLatch).lines = s.lines ∧ (s.dropLatch).memory = s.memory ∧ (s.dropLatch).governors = s.governors ∧
    (s.dropLatch).hoses = s.hoses ∧ (s.dropLatch).tanks = s.tanks ∧ (s.dropLatch).topOffs = s.topOffs ∧
    (s.dropLatch).nodes = s.nodes ∧ (s.dropLatch).targets = s.targets ∧ (s.dropLatch).bus = s.bus ∧
    (s.dropLatch).link = s.link ∧ (s.dropLatch).charter = s.charter ∧
    (s.dropLatch).reports.usable = s.reports.usable ∧ (s.dropLatch).reports.producer = s.reports.producer ∧
    (s.dropLatch).reports.consumer = s.reports.consumer ∧
    (s.dropLatch).reports.producerInMemory = s.reports.producerInMemory ∧
    (s.dropLatch).reports.interrupt = s.reports.interrupt ∧ (s.dropLatch).stills = s.stills ∧
    (s.dropLatch).valves = s.valves ∧ (s.dropLatch).slotNode = s.slotNode ∧
    (s.dropLatch).shutdown.shipLoop = s.shutdown.shipLoop ∧
    (s.dropLatch).shutdown.hornSounding = s.shutdown.hornSounding ∧
    (s.dropLatch).shutdown.alarmPending = s.shutdown.alarmPending ∧
    (s.dropLatch).shutdown.tankAlarm = s.shutdown.tankAlarm ∧
    (s.dropLatch).shutdown.valveAlarm = s.shutdown.valveAlarm ∧
    (s.dropLatch).shutdown.sequence = s.shutdown.sequence ∧
    (s.dropLatch).shutdown.pumpDeadline = s.shutdown.pumpDeadline := by
  unfold Device.dropLatch; (try dsimp only); (repeat' split) <;> simp

@[simp] theorem Device.closeTripped_keeps (s : Device) :
    (s.closeTripped).time = s.time ∧ (s.closeTripped).half = s.half ∧ (s.closeTripped).strap = s.strap ∧
    (s.closeTripped).port = s.port ∧ (s.closeTripped).jobs = s.jobs ∧ (s.closeTripped).requests = s.requests ∧
    (s.closeTripped).shutdown = s.shutdown ∧ (s.closeTripped).charter = s.charter ∧
    (s.closeTripped).reports.usable = s.reports.usable ∧ (s.closeTripped).reports.producer = s.reports.producer ∧
    (s.closeTripped).reports.consumer = s.reports.consumer ∧
    (s.closeTripped).reports.producerInMemory = s.reports.producerInMemory ∧
    (s.closeTripped).reports.interrupt = s.reports.interrupt ∧ (s.closeTripped).stills = s.stills ∧
    (s.closeTripped).valves = s.valves ∧ (s.closeTripped).bus.tail = s.bus.tail ∧
    (s.closeTripped).bus.lastStart = s.bus.lastStart ∧ (s.closeTripped).bus.idleScan = s.bus.idleScan ∧
    (s.closeTripped).bus.startHeld = s.bus.startHeld ∧ (s.closeTripped).slotNode = s.slotNode := by
  unfold Device.closeTripped Device.forLines; simp

@[simp] theorem Device.clearLatch_keeps (s : Device) :
    (s.clearLatch).time = s.time ∧ (s.clearLatch).half = s.half ∧ (s.clearLatch).strap = s.strap ∧
    (s.clearLatch).port = s.port ∧ (s.clearLatch).jobs = s.jobs ∧ (s.clearLatch).requests = s.requests ∧
    (s.clearLatch).charter = s.charter ∧ (s.clearLatch).reports.usable = s.reports.usable ∧
    (s.clearLatch).reports.producer = s.reports.producer ∧ (s.clearLatch).reports.consumer = s.reports.consumer ∧
    (s.clearLatch).reports.producerInMemory = s.reports.producerInMemory ∧
    (s.clearLatch).reports.interrupt = s.reports.interrupt ∧ (s.clearLatch).stills = s.stills ∧
    (s.clearLatch).valves = s.valves ∧ (s.clearLatch).bus.tail = s.bus.tail ∧
    (s.clearLatch).bus.lastStart = s.bus.lastStart ∧ (s.clearLatch).bus.idleScan = s.bus.idleScan ∧
    (s.clearLatch).bus.startHeld = s.bus.startHeld ∧ (s.clearLatch).slotNode = s.slotNode ∧
    (s.clearLatch).shutdown.shipLoop = s.shutdown.shipLoop ∧
    (s.clearLatch).shutdown.tankAlarm = s.shutdown.tankAlarm ∧
    (s.clearLatch).shutdown.valveAlarm = s.shutdown.valveAlarm ∧
    (s.clearLatch).shutdown.sequence = s.shutdown.sequence ∧
    (s.clearLatch).shutdown.pumpDeadline = s.shutdown.pumpDeadline := by
  unfold Device.clearLatch; (try dsimp only); (repeat' split) <;> simp

@[simp] theorem Device.stopActive_one_keeps (s : Device) (l : Line) (c : Cause) :
    (if (s.line l).state.active then s.stopTrigger l c false else s).time = s.time ∧
    (if (s.line l).state.active then s.stopTrigger l c false else s).half = s.half ∧
    (if (s.line l).state.active then s.stopTrigger l c false else s).strap = s.strap ∧
    (if (s.line l).state.active then s.stopTrigger l c false else s).port = s.port ∧
    (if (s.line l).state.active then s.stopTrigger l c false else s).jobs = s.jobs ∧
    (if (s.line l).state.active then s.stopTrigger l c false else s).requests = s.requests ∧
    (if (s.line l).state.active then s.stopTrigger l c false else s).shutdown = s.shutdown ∧
    (if (s.line l).state.active then s.stopTrigger l c false else s).charter = s.charter ∧
    (if (s.line l).state.active then s.stopTrigger l c false else s).reports.usable = s.reports.usable ∧
    (if (s.line l).state.active then s.stopTrigger l c false else s).reports.producer = s.reports.producer ∧
    (if (s.line l).state.active then s.stopTrigger l c false else s).reports.consumer = s.reports.consumer ∧
    (if (s.line l).state.active then s.stopTrigger l c false else s).reports.producerInMemory = s.reports.producerInMemory ∧
    (if (s.line l).state.active then s.stopTrigger l c false else s).reports.interrupt = s.reports.interrupt ∧
    (if (s.line l).state.active then s.stopTrigger l c false else s).stills = s.stills ∧
    (if (s.line l).state.active then s.stopTrigger l c false else s).valves = s.valves ∧
    (if (s.line l).state.active then s.stopTrigger l c false else s).bus.tail = s.bus.tail ∧
    (if (s.line l).state.active then s.stopTrigger l c false else s).bus.lastStart = s.bus.lastStart ∧
    (if (s.line l).state.active then s.stopTrigger l c false else s).bus.idleScan = s.bus.idleScan ∧
    (if (s.line l).state.active then s.stopTrigger l c false else s).bus.startHeld = s.bus.startHeld ∧
    (if (s.line l).state.active then s.stopTrigger l c false else s).slotNode = s.slotNode := by
  split <;> simp

@[simp] theorem Device.stopActive_keeps (s : Device) (c : Cause) :
    (s.stopActive c).time = s.time ∧ (s.stopActive c).half = s.half ∧ (s.stopActive c).strap = s.strap ∧
    (s.stopActive c).port = s.port ∧ (s.stopActive c).jobs = s.jobs ∧ (s.stopActive c).requests = s.requests ∧
    (s.stopActive c).shutdown = s.shutdown ∧ (s.stopActive c).charter = s.charter ∧
    (s.stopActive c).reports.usable = s.reports.usable ∧ (s.stopActive c).reports.producer = s.reports.producer ∧
    (s.stopActive c).reports.consumer = s.reports.consumer ∧
    (s.stopActive c).reports.producerInMemory = s.reports.producerInMemory ∧
    (s.stopActive c).reports.interrupt = s.reports.interrupt ∧ (s.stopActive c).stills = s.stills ∧
    (s.stopActive c).valves = s.valves ∧ (s.stopActive c).bus.tail = s.bus.tail ∧
    (s.stopActive c).bus.lastStart = s.bus.lastStart ∧ (s.stopActive c).bus.idleScan = s.bus.idleScan ∧
    (s.stopActive c).bus.startHeld = s.bus.startHeld ∧ (s.stopActive c).slotNode = s.slotNode := by
  unfold Device.stopActive Device.forLines; simp

/-! ## The tank watch (spec/03) -/

@[simp] theorem Device.advise_keeps (s : Device) (t : TankNo) (v : Advice) :
    (s.advise t v).time = s.time ∧ (s.advise t v).half = s.half ∧ (s.advise t v).strap = s.strap ∧
    (s.advise t v).port = s.port ∧ (s.advise t v).jobs = s.jobs ∧ (s.advise t v).requests = s.requests ∧
    (s.advise t v).lines = s.lines ∧ (s.advise t v).memory = s.memory ∧ (s.advise t v).governors = s.governors ∧
    (s.advise t v).hoses = s.hoses ∧ (s.advise t v).topOffs = s.topOffs ∧ (s.advise t v).shutdown = s.shutdown ∧
    (s.advise t v).nodes = s.nodes ∧ (s.advise t v).targets = s.targets ∧ (s.advise t v).bus = s.bus ∧
    (s.advise t v).charter = s.charter ∧ (s.advise t v).reports.usable = s.reports.usable ∧
    (s.advise t v).reports.producer = s.reports.producer ∧ (s.advise t v).reports.consumer = s.reports.consumer ∧
    (s.advise t v).reports.producerInMemory = s.reports.producerInMemory ∧
    (s.advise t v).reports.interrupt = s.reports.interrupt ∧ (s.advise t v).stills = s.stills ∧
    (s.advise t v).valves = s.valves ∧ (s.advise t v).slotNode = s.slotNode := by
  unfold Device.advise; (try dsimp only); (repeat' split) <;> simp

@[simp] theorem Device.setCloseDeadline_keeps (s : Device) (t : TankNo) (d : Option Time) :
    (s.setCloseDeadline t d).time = s.time ∧ (s.setCloseDeadline t d).half = s.half ∧
    (s.setCloseDeadline t d).strap = s.strap ∧ (s.setCloseDeadline t d).port = s.port ∧
    (s.setCloseDeadline t d).jobs = s.jobs ∧ (s.setCloseDeadline t d).requests = s.requests ∧
    (s.setCloseDeadline t d).reports = s.reports ∧ (s.setCloseDeadline t d).lines = s.lines ∧
    (s.setCloseDeadline t d).memory = s.memory ∧ (s.setCloseDeadline t d).governors = s.governors ∧
    (s.setCloseDeadline t d).hoses = s.hoses ∧ (s.setCloseDeadline t d).topOffs = s.topOffs ∧
    (s.setCloseDeadline t d).shutdown = s.shutdown ∧ (s.setCloseDeadline t d).nodes = s.nodes ∧
    (s.setCloseDeadline t d).targets = s.targets ∧ (s.setCloseDeadline t d).bus = s.bus ∧
    (s.setCloseDeadline t d).link = s.link ∧ (s.setCloseDeadline t d).charter = s.charter ∧
    (s.setCloseDeadline t d).stills = s.stills ∧ (s.setCloseDeadline t d).valves = s.valves ∧
    (s.setCloseDeadline t d).slotNode = s.slotNode := by
  unfold Device.setCloseDeadline; (try dsimp only); (repeat' split) <;> simp

@[simp] theorem Device.adviseTank_keeps (s : Device) (t : TankNo) (o : TankState) :
    (s.adviseTank t o).time = s.time ∧ (s.adviseTank t o).half = s.half ∧ (s.adviseTank t o).strap = s.strap ∧
    (s.adviseTank t o).port = s.port ∧ (s.adviseTank t o).jobs = s.jobs ∧
    (s.adviseTank t o).requests = s.requests ∧ (s.adviseTank t o).lines = s.lines ∧
    (s.adviseTank t o).memory = s.memory ∧ (s.adviseTank t o).governors = s.governors ∧
    (s.adviseTank t o).hoses = s.hoses ∧ (s.adviseTank t o).topOffs = s.topOffs ∧
    (s.adviseTank t o).shutdown = s.shutdown ∧ (s.adviseTank t o).nodes = s.nodes ∧
    (s.adviseTank t o).targets = s.targets ∧ (s.adviseTank t o).bus = s.bus ∧
    (s.adviseTank t o).charter = s.charter ∧ (s.adviseTank t o).reports.usable = s.reports.usable ∧
    (s.adviseTank t o).reports.producer = s.reports.producer ∧
    (s.adviseTank t o).reports.consumer = s.reports.consumer ∧
    (s.adviseTank t o).reports.producerInMemory = s.reports.producerInMemory ∧
    (s.adviseTank t o).reports.interrupt = s.reports.interrupt ∧ (s.adviseTank t o).stills = s.stills ∧
    (s.adviseTank t o).valves = s.valves ∧ (s.adviseTank t o).slotNode = s.slotNode := by
  unfold Device.adviseTank; (try dsimp only); (repeat' split) <;> simp

@[simp] theorem Device.overfillTrigger_keeps (s : Device) (l : Line) (t : TankNo) (e : Tank) :
    (s.overfillTrigger l t e).time = s.time ∧ (s.overfillTrigger l t e).half = s.half ∧
    (s.overfillTrigger l t e).strap = s.strap ∧ (s.overfillTrigger l t e).port = s.port ∧
    (s.overfillTrigger l t e).jobs = s.jobs ∧ (s.overfillTrigger l t e).requests = s.requests ∧
    (s.overfillTrigger l t e).tanks = s.tanks ∧ (s.overfillTrigger l t e).charter = s.charter ∧
    (s.overfillTrigger l t e).reports.usable = s.reports.usable ∧
    (s.overfillTrigger l t e).reports.producer = s.reports.producer ∧
    (s.overfillTrigger l t e).reports.consumer = s.reports.consumer ∧
    (s.overfillTrigger l t e).reports.producerInMemory = s.reports.producerInMemory ∧
    (s.overfillTrigger l t e).reports.interrupt = s.reports.interrupt ∧
    (s.overfillTrigger l t e).stills = s.stills ∧ (s.overfillTrigger l t e).valves = s.valves ∧
    (s.overfillTrigger l t e).bus.mode = s.bus.mode ∧ (s.overfillTrigger l t e).bus.tail = s.bus.tail ∧
    (s.overfillTrigger l t e).bus.lastStart = s.bus.lastStart ∧
    (s.overfillTrigger l t e).bus.idleScan = s.bus.idleScan ∧
    (s.overfillTrigger l t e).bus.startHeld = s.bus.startHeld ∧ (s.overfillTrigger l t e).slotNode = s.slotNode ∧
    (s.overfillTrigger l t e).shutdown.shipLoop = s.shutdown.shipLoop ∧
    (s.overfillTrigger l t e).shutdown.tankAlarm = s.shutdown.tankAlarm ∧
    (s.overfillTrigger l t e).shutdown.valveAlarm = s.shutdown.valveAlarm := by
  unfold Device.overfillTrigger; (try dsimp only); (repeat' split) <;> simp

@[simp] theorem Device.checkLastTank_keeps (s : Device) (l : Line) :
    (s.checkLastTank l).time = s.time ∧ (s.checkLastTank l).half = s.half ∧ (s.checkLastTank l).strap = s.strap ∧
    (s.checkLastTank l).port = s.port ∧ (s.checkLastTank l).jobs = s.jobs ∧
    (s.checkLastTank l).requests = s.requests ∧ (s.checkLastTank l).shutdown = s.shutdown ∧
    (s.checkLastTank l).charter = s.charter ∧ (s.checkLastTank l).reports.usable = s.reports.usable ∧
    (s.checkLastTank l).reports.producer = s.reports.producer ∧
    (s.checkLastTank l).reports.consumer = s.reports.consumer ∧
    (s.checkLastTank l).reports.producerInMemory = s.reports.producerInMemory ∧
    (s.checkLastTank l).reports.interrupt = s.reports.interrupt ∧ (s.checkLastTank l).stills = s.stills ∧
    (s.checkLastTank l).valves = s.valves ∧ (s.checkLastTank l).bus.tail = s.bus.tail ∧
    (s.checkLastTank l).bus.lastStart = s.bus.lastStart ∧ (s.checkLastTank l).bus.idleScan = s.bus.idleScan ∧
    (s.checkLastTank l).bus.startHeld = s.bus.startHeld ∧ (s.checkLastTank l).slotNode = s.slotNode := by
  unfold Device.checkLastTank; (try dsimp only); (repeat' split) <;> simp

@[simp] theorem Device.pathEffect_keeps (s : Device) (l : Line) (a b : Nat) :
    (s.pathEffect l a b).time = s.time ∧ (s.pathEffect l a b).half = s.half ∧
    (s.pathEffect l a b).strap = s.strap ∧ (s.pathEffect l a b).port = s.port ∧
    (s.pathEffect l a b).jobs = s.jobs ∧ (s.pathEffect l a b).requests = s.requests ∧
    (s.pathEffect l a b).memory = s.memory ∧ (s.pathEffect l a b).tanks = s.tanks ∧
    (s.pathEffect l a b).shutdown = s.shutdown ∧ (s.pathEffect l a b).charter = s.charter ∧
    (s.pathEffect l a b).reports.usable = s.reports.usable ∧
    (s.pathEffect l a b).reports.producer = s.reports.producer ∧
    (s.pathEffect l a b).reports.consumer = s.reports.consumer ∧
    (s.pathEffect l a b).reports.producerInMemory = s.reports.producerInMemory ∧
    (s.pathEffect l a b).reports.interrupt = s.reports.interrupt ∧ (s.pathEffect l a b).stills = s.stills ∧
    (s.pathEffect l a b).valves = s.valves ∧ (s.pathEffect l a b).bus.mode = s.bus.mode ∧
    (s.pathEffect l a b).bus.tail = s.bus.tail ∧ (s.pathEffect l a b).bus.lastStart = s.bus.lastStart ∧
    (s.pathEffect l a b).bus.idleScan = s.bus.idleScan ∧ (s.pathEffect l a b).bus.startHeld = s.bus.startHeld ∧
    (s.pathEffect l a b).slotNode = s.slotNode := by
  unfold Device.pathEffect; (try dsimp only); (repeat' split) <;> simp

@[simp] theorem Device.lineEffects_keeps (s : Device) (l : Line) (t : TankNo) (o : TankState) (e : Tank) (n : Nat) :
    (s.lineEffects l t o e n).time = s.time ∧ (s.lineEffects l t o e n).half = s.half ∧
    (s.lineEffects l t o e n).strap = s.strap ∧ (s.lineEffects l t o e n).port = s.port ∧
    (s.lineEffects l t o e n).jobs = s.jobs ∧ (s.lineEffects l t o e n).requests = s.requests ∧
    (s.lineEffects l t o e n).charter = s.charter ∧ (s.lineEffects l t o e n).reports.usable = s.reports.usable ∧
    (s.lineEffects l t o e n).reports.producer = s.reports.producer ∧
    (s.lineEffects l t o e n).reports.consumer = s.reports.consumer ∧
    (s.lineEffects l t o e n).reports.producerInMemory = s.reports.producerInMemory ∧
    (s.lineEffects l t o e n).reports.interrupt = s.reports.interrupt ∧
    (s.lineEffects l t o e n).stills = s.stills ∧ (s.lineEffects l t o e n).valves = s.valves ∧
    (s.lineEffects l t o e n).bus.tail = s.bus.tail ∧ (s.lineEffects l t o e n).bus.lastStart = s.bus.lastStart ∧
    (s.lineEffects l t o e n).bus.idleScan = s.bus.idleScan ∧
    (s.lineEffects l t o e n).bus.startHeld = s.bus.startHeld ∧ (s.lineEffects l t o e n).slotNode = s.slotNode ∧
    (s.lineEffects l t o e n).shutdown.shipLoop = s.shutdown.shipLoop ∧
    (s.lineEffects l t o e n).shutdown.tankAlarm = s.shutdown.tankAlarm ∧
    (s.lineEffects l t o e n).shutdown.valveAlarm = s.shutdown.valveAlarm := by
  unfold Device.lineEffects; (try dsimp only); (repeat' split) <;> simp

@[simp] theorem Device.evaluate_keeps (s : Device) (r : TankReport) :
    (s.evaluate r).time = s.time ∧ (s.evaluate r).half = s.half ∧ (s.evaluate r).strap = s.strap ∧
    (s.evaluate r).port = s.port ∧ (s.evaluate r).jobs = s.jobs ∧ (s.evaluate r).requests = s.requests ∧
    (s.evaluate r).charter = s.charter ∧ (s.evaluate r).reports.usable = s.reports.usable ∧
    (s.evaluate r).reports.producer = s.reports.producer ∧ (s.evaluate r).reports.consumer = s.reports.consumer ∧
    (s.evaluate r).reports.producerInMemory = s.reports.producerInMemory ∧
    (s.evaluate r).reports.interrupt = s.reports.interrupt ∧ (s.evaluate r).stills = s.stills ∧
    (s.evaluate r).valves = s.valves ∧ (s.evaluate r).bus.tail = s.bus.tail ∧
    (s.evaluate r).bus.lastStart = s.bus.lastStart ∧ (s.evaluate r).bus.idleScan = s.bus.idleScan ∧
    (s.evaluate r).bus.startHeld = s.bus.startHeld ∧ (s.evaluate r).slotNode = s.slotNode ∧
    (s.evaluate r).shutdown.shipLoop = s.shutdown.shipLoop ∧
    (s.evaluate r).shutdown.valveAlarm = s.shutdown.valveAlarm := by
  unfold Device.evaluate; (try dsimp only); (repeat' split) <;> simp

@[simp] theorem Device.handToppingOf_keeps (s : Device) (e : Tank) :
    (s.handToppingOf e).time = s.time ∧ (s.handToppingOf e).half = s.half ∧ (s.handToppingOf e).strap = s.strap ∧
    (s.handToppingOf e).port = s.port ∧ (s.handToppingOf e).jobs = s.jobs ∧
    (s.handToppingOf e).requests = s.requests ∧ (s.handToppingOf e).memory = s.memory ∧
    (s.handToppingOf e).tanks = s.tanks ∧ (s.handToppingOf e).shutdown = s.shutdown ∧
    (s.handToppingOf e).charter = s.charter ∧ (s.handToppingOf e).reports.usable = s.reports.usable ∧
    (s.handToppingOf e).reports.producer = s.reports.producer ∧
    (s.handToppingOf e).reports.consumer = s.reports.consumer ∧
    (s.handToppingOf e).reports.producerInMemory = s.reports.producerInMemory ∧
    (s.handToppingOf e).reports.interrupt = s.reports.interrupt ∧ (s.handToppingOf e).stills = s.stills ∧
    (s.handToppingOf e).valves = s.valves ∧ (s.handToppingOf e).bus.mode = s.bus.mode ∧
    (s.handToppingOf e).bus.tail = s.bus.tail ∧ (s.handToppingOf e).bus.lastStart = s.bus.lastStart ∧
    (s.handToppingOf e).bus.idleScan = s.bus.idleScan ∧ (s.handToppingOf e).bus.startHeld = s.bus.startHeld ∧
    (s.handToppingOf e).slotNode = s.slotNode := by
  unfold Device.handToppingOf; (try dsimp only); (repeat' split) <;> simp

@[simp] theorem Device.tankSilent_keeps (s : Device) (t : TankNo) (e : Tank) :
    (s.tankSilent t e).time = s.time ∧ (s.tankSilent t e).half = s.half ∧ (s.tankSilent t e).strap = s.strap ∧
    (s.tankSilent t e).port = s.port ∧ (s.tankSilent t e).jobs = s.jobs ∧
    (s.tankSilent t e).requests = s.requests ∧ (s.tankSilent t e).shutdown = s.shutdown ∧
    (s.tankSilent t e).charter = s.charter ∧ (s.tankSilent t e).reports.usable = s.reports.usable ∧
    (s.tankSilent t e).reports.producer = s.reports.producer ∧
    (s.tankSilent t e).reports.consumer = s.reports.consumer ∧
    (s.tankSilent t e).reports.producerInMemory = s.reports.producerInMemory ∧
    (s.tankSilent t e).reports.interrupt = s.reports.interrupt ∧ (s.tankSilent t e).stills = s.stills ∧
    (s.tankSilent t e).valves = s.valves ∧ (s.tankSilent t e).bus.mode = s.bus.mode ∧
    (s.tankSilent t e).bus.tail = s.bus.tail ∧ (s.tankSilent t e).bus.lastStart = s.bus.lastStart ∧
    (s.tankSilent t e).bus.idleScan = s.bus.idleScan ∧ (s.tankSilent t e).bus.startHeld = s.bus.startHeld ∧
    (s.tankSilent t e).slotNode = s.slotNode := by
  unfold Device.tankSilent; (try dsimp only); (repeat' split) <;> simp

@[simp] theorem Device.tankLost_keeps (s : Device) (t : TankNo) (e : Tank) :
    (s.tankLost t e).time = s.time ∧ (s.tankLost t e).half = s.half ∧ (s.tankLost t e).strap = s.strap ∧
    (s.tankLost t e).port = s.port ∧ (s.tankLost t e).jobs = s.jobs ∧ (s.tankLost t e).requests = s.requests ∧
    (s.tankLost t e).shutdown = s.shutdown ∧ (s.tankLost t e).charter = s.charter ∧
    (s.tankLost t e).reports.usable = s.reports.usable ∧ (s.tankLost t e).reports.producer = s.reports.producer ∧
    (s.tankLost t e).reports.consumer = s.reports.consumer ∧
    (s.tankLost t e).reports.producerInMemory = s.reports.producerInMemory ∧
    (s.tankLost t e).reports.interrupt = s.reports.interrupt ∧ (s.tankLost t e).stills = s.stills ∧
    (s.tankLost t e).valves = s.valves ∧ (s.tankLost t e).bus.tail = s.bus.tail ∧
    (s.tankLost t e).bus.lastStart = s.bus.lastStart ∧ (s.tankLost t e).bus.idleScan = s.bus.idleScan ∧
    (s.tankLost t e).bus.startHeld = s.bus.startHeld ∧ (s.tankLost t e).slotNode = s.slotNode := by
  unfold Device.tankLost; (try dsimp only); (repeat' split) <;> simp

@[simp] theorem Device.closeOverdue_keeps (s : Device) (t : TankNo) (e : Tank) :
    (s.closeOverdue t e).time = s.time ∧ (s.closeOverdue t e).half = s.half ∧
    (s.closeOverdue t e).strap = s.strap ∧ (s.closeOverdue t e).port = s.port ∧
    (s.closeOverdue t e).jobs = s.jobs ∧ (s.closeOverdue t e).requests = s.requests ∧
    (s.closeOverdue t e).shutdown = s.shutdown ∧ (s.closeOverdue t e).charter = s.charter ∧
    (s.closeOverdue t e).reports.usable = s.reports.usable ∧
    (s.closeOverdue t e).reports.producer = s.reports.producer ∧
    (s.closeOverdue t e).reports.consumer = s.reports.consumer ∧
    (s.closeOverdue t e).reports.producerInMemory = s.reports.producerInMemory ∧
    (s.closeOverdue t e).reports.interrupt = s.reports.interrupt ∧ (s.closeOverdue t e).stills = s.stills ∧
    (s.closeOverdue t e).valves = s.valves ∧ (s.closeOverdue t e).bus.tail = s.bus.tail ∧
    (s.closeOverdue t e).bus.lastStart = s.bus.lastStart ∧ (s.closeOverdue t e).bus.idleScan = s.bus.idleScan ∧
    (s.closeOverdue t e).bus.startHeld = s.bus.startHeld ∧ (s.closeOverdue t e).slotNode = s.slotNode := by
  unfold Device.closeOverdue; (try dsimp only); (repeat' split) <;> simp

@[simp] theorem Device.assignTank_keeps (s : Device) (l : Line) (t : TankNo) :
    (s.assignTank l t).time = s.time ∧ (s.assignTank l t).half = s.half ∧ (s.assignTank l t).strap = s.strap ∧
    (s.assignTank l t).port = s.port ∧ (s.assignTank l t).jobs = s.jobs ∧
    (s.assignTank l t).requests = s.requests ∧ (s.assignTank l t).lines = s.lines ∧
    (s.assignTank l t).memory = s.memory ∧ (s.assignTank l t).governors = s.governors ∧
    (s.assignTank l t).hoses = s.hoses ∧ (s.assignTank l t).topOffs = s.topOffs ∧
    (s.assignTank l t).shutdown = s.shutdown ∧ (s.assignTank l t).nodes = s.nodes ∧
    (s.assignTank l t).targets = s.targets ∧ (s.assignTank l t).bus = s.bus ∧ (s.assignTank l t).link = s.link ∧
    (s.assignTank l t).charter = s.charter ∧ (s.assignTank l t).reports.usable = s.reports.usable ∧
    (s.assignTank l t).reports.producer = s.reports.producer ∧
    (s.assignTank l t).reports.consumer = s.reports.consumer ∧
    (s.assignTank l t).reports.producerInMemory = s.reports.producerInMemory ∧
    (s.assignTank l t).reports.interrupt = s.reports.interrupt ∧ (s.assignTank l t).stills = s.stills ∧
    (s.assignTank l t).valves = s.valves ∧ (s.assignTank l t).slotNode = s.slotNode := by
  unfold Device.assignTank; (try dsimp only); (repeat' split) <;> simp

@[simp] theorem Device.assignTank_fold_keeps (s : Device) (l : Line) (ts : List TankNo) :
    (ts.foldl (fun s t => s.assignTank l t) s).time = s.time ∧
    (ts.foldl (fun s t => s.assignTank l t) s).half = s.half ∧
    (ts.foldl (fun s t => s.assignTank l t) s).strap = s.strap ∧
    (ts.foldl (fun s t => s.assignTank l t) s).port = s.port ∧
    (ts.foldl (fun s t => s.assignTank l t) s).jobs = s.jobs ∧
    (ts.foldl (fun s t => s.assignTank l t) s).requests = s.requests ∧
    (ts.foldl (fun s t => s.assignTank l t) s).lines = s.lines ∧
    (ts.foldl (fun s t => s.assignTank l t) s).memory = s.memory ∧
    (ts.foldl (fun s t => s.assignTank l t) s).governors = s.governors ∧
    (ts.foldl (fun s t => s.assignTank l t) s).hoses = s.hoses ∧
    (ts.foldl (fun s t => s.assignTank l t) s).topOffs = s.topOffs ∧
    (ts.foldl (fun s t => s.assignTank l t) s).shutdown = s.shutdown ∧
    (ts.foldl (fun s t => s.assignTank l t) s).nodes = s.nodes ∧
    (ts.foldl (fun s t => s.assignTank l t) s).targets = s.targets ∧
    (ts.foldl (fun s t => s.assignTank l t) s).bus = s.bus ∧
    (ts.foldl (fun s t => s.assignTank l t) s).link = s.link ∧
    (ts.foldl (fun s t => s.assignTank l t) s).charter = s.charter ∧
    (ts.foldl (fun s t => s.assignTank l t) s).reports.usable = s.reports.usable ∧
    (ts.foldl (fun s t => s.assignTank l t) s).reports.producer = s.reports.producer ∧
    (ts.foldl (fun s t => s.assignTank l t) s).reports.consumer = s.reports.consumer ∧
    (ts.foldl (fun s t => s.assignTank l t) s).reports.producerInMemory = s.reports.producerInMemory ∧
    (ts.foldl (fun s t => s.assignTank l t) s).reports.interrupt = s.reports.interrupt ∧
    (ts.foldl (fun s t => s.assignTank l t) s).stills = s.stills ∧
    (ts.foldl (fun s t => s.assignTank l t) s).valves = s.valves ∧
    (ts.foldl (fun s t => s.assignTank l t) s).slotNode = s.slotNode := by
  induction ts generalizing s with
  | nil => simp
  | cons t ts ih => have h := ih (s.assignTank l t); simp [h]

@[simp] theorem Device.assignTanks_keeps (s : Device) (l : Line) (ts : List TankNo) :
    (s.assignTanks l ts).time = s.time ∧ (s.assignTanks l ts).half = s.half ∧
    (s.assignTanks l ts).strap = s.strap ∧ (s.assignTanks l ts).port = s.port ∧
    (s.assignTanks l ts).jobs = s.jobs ∧ (s.assignTanks l ts).requests = s.requests ∧
    (s.assignTanks l ts).memory = s.memory ∧ (s.assignTanks l ts).governors = s.governors ∧
    (s.assignTanks l ts).hoses = s.hoses ∧ (s.assignTanks l ts).shutdown = s.shutdown ∧
    (s.assignTanks l ts).nodes = s.nodes ∧ (s.assignTanks l ts).targets = s.targets ∧
    (s.assignTanks l ts).bus = s.bus ∧ (s.assignTanks l ts).link = s.link ∧
    (s.assignTanks l ts).charter = s.charter ∧ (s.assignTanks l ts).reports.usable = s.reports.usable ∧
    (s.assignTanks l ts).reports.producer = s.reports.producer ∧
    (s.assignTanks l ts).reports.consumer = s.reports.consumer ∧
    (s.assignTanks l ts).reports.producerInMemory = s.reports.producerInMemory ∧
    (s.assignTanks l ts).reports.interrupt = s.reports.interrupt ∧ (s.assignTanks l ts).stills = s.stills ∧
    (s.assignTanks l ts).valves = s.valves ∧ (s.assignTanks l ts).slotNode = s.slotNode := by
  unfold Device.assignTanks; simp

@[simp] theorem Device.assignEffect_keeps (s : Device) (l : Line) (t : TankNo) :
    (s.assignEffect l t).time = s.time ∧ (s.assignEffect l t).half = s.half ∧
    (s.assignEffect l t).strap = s.strap ∧ (s.assignEffect l t).port = s.port ∧
    (s.assignEffect l t).jobs = s.jobs ∧ (s.assignEffect l t).requests = s.requests ∧
    (s.assignEffect l t).charter = s.charter ∧ (s.assignEffect l t).reports.usable = s.reports.usable ∧
    (s.assignEffect l t).reports.producer = s.reports.producer ∧
    (s.assignEffect l t).reports.consumer = s.reports.consumer ∧
    (s.assignEffect l t).reports.producerInMemory = s.reports.producerInMemory ∧
    (s.assignEffect l t).reports.interrupt = s.reports.interrupt ∧ (s.assignEffect l t).stills = s.stills ∧
    (s.assignEffect l t).valves = s.valves ∧ (s.assignEffect l t).bus.mode = s.bus.mode ∧
    (s.assignEffect l t).bus.tail = s.bus.tail ∧ (s.assignEffect l t).bus.lastStart = s.bus.lastStart ∧
    (s.assignEffect l t).bus.idleScan = s.bus.idleScan ∧ (s.assignEffect l t).bus.startHeld = s.bus.startHeld ∧
    (s.assignEffect l t).slotNode = s.slotNode ∧ (s.assignEffect l t).shutdown.shipLoop = s.shutdown.shipLoop ∧
    (s.assignEffect l t).shutdown.tankAlarm = s.shutdown.tankAlarm ∧
    (s.assignEffect l t).shutdown.valveAlarm = s.shutdown.valveAlarm := by
  unfold Device.assignEffect; (try dsimp only); (repeat' split) <;> simp

@[simp] theorem Device.assignEffect_fold_keeps (s : Device) (l : Line) (ts : List TankNo) :
    (ts.foldl (fun s t => s.assignEffect l t) s).time = s.time ∧
    (ts.foldl (fun s t => s.assignEffect l t) s).half = s.half ∧
    (ts.foldl (fun s t => s.assignEffect l t) s).strap = s.strap ∧
    (ts.foldl (fun s t => s.assignEffect l t) s).port = s.port ∧
    (ts.foldl (fun s t => s.assignEffect l t) s).jobs = s.jobs ∧
    (ts.foldl (fun s t => s.assignEffect l t) s).requests = s.requests ∧
    (ts.foldl (fun s t => s.assignEffect l t) s).charter = s.charter ∧
    (ts.foldl (fun s t => s.assignEffect l t) s).reports.usable = s.reports.usable ∧
    (ts.foldl (fun s t => s.assignEffect l t) s).reports.producer = s.reports.producer ∧
    (ts.foldl (fun s t => s.assignEffect l t) s).reports.consumer = s.reports.consumer ∧
    (ts.foldl (fun s t => s.assignEffect l t) s).reports.producerInMemory = s.reports.producerInMemory ∧
    (ts.foldl (fun s t => s.assignEffect l t) s).reports.interrupt = s.reports.interrupt ∧
    (ts.foldl (fun s t => s.assignEffect l t) s).stills = s.stills ∧
    (ts.foldl (fun s t => s.assignEffect l t) s).valves = s.valves ∧
    (ts.foldl (fun s t => s.assignEffect l t) s).bus.mode = s.bus.mode ∧
    (ts.foldl (fun s t => s.assignEffect l t) s).bus.tail = s.bus.tail ∧
    (ts.foldl (fun s t => s.assignEffect l t) s).bus.lastStart = s.bus.lastStart ∧
    (ts.foldl (fun s t => s.assignEffect l t) s).bus.idleScan = s.bus.idleScan ∧
    (ts.foldl (fun s t => s.assignEffect l t) s).bus.startHeld = s.bus.startHeld ∧
    (ts.foldl (fun s t => s.assignEffect l t) s).slotNode = s.slotNode ∧
    (ts.foldl (fun s t => s.assignEffect l t) s).shutdown.shipLoop = s.shutdown.shipLoop ∧
    (ts.foldl (fun s t => s.assignEffect l t) s).shutdown.tankAlarm = s.shutdown.tankAlarm ∧
    (ts.foldl (fun s t => s.assignEffect l t) s).shutdown.valveAlarm = s.shutdown.valveAlarm := by
  induction ts generalizing s with
  | nil => simp
  | cons t ts ih => have h := ih (s.assignEffect l t); simp [h]

@[simp] theorem Device.assignEffects_keeps (s : Device) (l : Line) :
    (s.assignEffects l).time = s.time ∧ (s.assignEffects l).half = s.half ∧ (s.assignEffects l).strap = s.strap ∧
    (s.assignEffects l).port = s.port ∧ (s.assignEffects l).jobs = s.jobs ∧
    (s.assignEffects l).requests = s.requests ∧ (s.assignEffects l).charter = s.charter ∧
    (s.assignEffects l).reports.usable = s.reports.usable ∧
    (s.assignEffects l).reports.producer = s.reports.producer ∧
    (s.assignEffects l).reports.consumer = s.reports.consumer ∧
    (s.assignEffects l).reports.producerInMemory = s.reports.producerInMemory ∧
    (s.assignEffects l).reports.interrupt = s.reports.interrupt ∧ (s.assignEffects l).stills = s.stills ∧
    (s.assignEffects l).valves = s.valves ∧ (s.assignEffects l).bus.tail = s.bus.tail ∧
    (s.assignEffects l).bus.lastStart = s.bus.lastStart ∧ (s.assignEffects l).bus.idleScan = s.bus.idleScan ∧
    (s.assignEffects l).bus.startHeld = s.bus.startHeld ∧ (s.assignEffects l).slotNode = s.slotNode ∧
    (s.assignEffects l).shutdown.shipLoop = s.shutdown.shipLoop ∧
    (s.assignEffects l).shutdown.tankAlarm = s.shutdown.tankAlarm ∧
    (s.assignEffects l).shutdown.valveAlarm = s.shutdown.valveAlarm := by
  unfold Device.assignEffects; simp

@[simp] theorem Device.takeOpen_keeps (s : Device) (l : Line) (p : Plan) :
    (s.takeOpen l p).time = s.time ∧ (s.takeOpen l p).half = s.half ∧ (s.takeOpen l p).strap = s.strap ∧
    (s.takeOpen l p).port = s.port ∧ (s.takeOpen l p).jobs = s.jobs ∧ (s.takeOpen l p).requests = s.requests ∧
    (s.takeOpen l p).charter = s.charter ∧ (s.takeOpen l p).reports.usable = s.reports.usable ∧
    (s.takeOpen l p).reports.producer = s.reports.producer ∧
    (s.takeOpen l p).reports.consumer = s.reports.consumer ∧
    (s.takeOpen l p).reports.producerInMemory = s.reports.producerInMemory ∧
    (s.takeOpen l p).reports.interrupt = s.reports.interrupt ∧ (s.takeOpen l p).stills = s.stills ∧
    (s.takeOpen l p).valves = s.valves ∧ (s.takeOpen l p).bus.tail = s.bus.tail ∧
    (s.takeOpen l p).bus.lastStart = s.bus.lastStart ∧ (s.takeOpen l p).bus.idleScan = s.bus.idleScan ∧
    (s.takeOpen l p).bus.startHeld = s.bus.startHeld ∧ (s.takeOpen l p).slotNode = s.slotNode ∧
    (s.takeOpen l p).shutdown.shipLoop = s.shutdown.shipLoop ∧
    (s.takeOpen l p).shutdown.tankAlarm = s.shutdown.tankAlarm ∧
    (s.takeOpen l p).shutdown.valveAlarm = s.shutdown.valveAlarm := by
  unfold Device.takeOpen; (try dsimp only); (repeat' split) <;> simp

/-! ## The end of a transaction and fresh readings (R74 to R82, R132 to R136) -/

@[simp] theorem Device.emptyInFlight_keeps (s : Device) (n : NodeNo) (a : Act) (o : TxOutcome) :
    (s.emptyInFlight n a o).time = s.time ∧ (s.emptyInFlight n a o).half = s.half ∧
    (s.emptyInFlight n a o).strap = s.strap ∧ (s.emptyInFlight n a o).port = s.port ∧
    (s.emptyInFlight n a o).jobs = s.jobs ∧ (s.emptyInFlight n a o).requests = s.requests ∧
    (s.emptyInFlight n a o).reports = s.reports ∧ (s.emptyInFlight n a o).lines = s.lines ∧
    (s.emptyInFlight n a o).memory = s.memory ∧ (s.emptyInFlight n a o).governors = s.governors ∧
    (s.emptyInFlight n a o).hoses = s.hoses ∧ (s.emptyInFlight n a o).tanks = s.tanks ∧
    (s.emptyInFlight n a o).topOffs = s.topOffs ∧ (s.emptyInFlight n a o).shutdown = s.shutdown ∧
    (s.emptyInFlight n a o).targets = s.targets ∧ (s.emptyInFlight n a o).bus = s.bus ∧
    (s.emptyInFlight n a o).link = s.link ∧ (s.emptyInFlight n a o).charter = s.charter ∧
    (s.emptyInFlight n a o).stills = s.stills ∧ (s.emptyInFlight n a o).slotNode = s.slotNode := by
  unfold Device.emptyInFlight; simp

@[simp] theorem Device.endTriggers_keeps (s : Device) (n : NodeNo) (l : Line) (a : Act) (o : TxOutcome) :
    (s.endTriggers n l a o).time = s.time ∧ (s.endTriggers n l a o).half = s.half ∧
    (s.endTriggers n l a o).strap = s.strap ∧ (s.endTriggers n l a o).port = s.port ∧
    (s.endTriggers n l a o).jobs = s.jobs ∧ (s.endTriggers n l a o).requests = s.requests ∧
    (s.endTriggers n l a o).charter = s.charter ∧ (s.endTriggers n l a o).reports.usable = s.reports.usable ∧
    (s.endTriggers n l a o).reports.producer = s.reports.producer ∧
    (s.endTriggers n l a o).reports.consumer = s.reports.consumer ∧
    (s.endTriggers n l a o).reports.producerInMemory = s.reports.producerInMemory ∧
    (s.endTriggers n l a o).reports.interrupt = s.reports.interrupt ∧ (s.endTriggers n l a o).stills = s.stills ∧
    (s.endTriggers n l a o).valves = s.valves ∧ (s.endTriggers n l a o).bus.mode = s.bus.mode ∧
    (s.endTriggers n l a o).bus.tail = s.bus.tail ∧ (s.endTriggers n l a o).bus.lastStart = s.bus.lastStart ∧
    (s.endTriggers n l a o).bus.idleScan = s.bus.idleScan ∧
    (s.endTriggers n l a o).bus.startHeld = s.bus.startHeld ∧ (s.endTriggers n l a o).slotNode = s.slotNode ∧
    (s.endTriggers n l a o).shutdown.shipLoop = s.shutdown.shipLoop ∧
    (s.endTriggers n l a o).shutdown.tankAlarm = s.shutdown.tankAlarm := by
  unfold Device.endTriggers; (try dsimp only); (repeat' split) <;> simp

@[simp] theorem Device.promote_keeps (s : Device) (n : NodeNo) :
    (s.promote n).time = s.time ∧ (s.promote n).half = s.half ∧ (s.promote n).strap = s.strap ∧
    (s.promote n).port = s.port ∧ (s.promote n).jobs = s.jobs ∧ (s.promote n).requests = s.requests ∧
    (s.promote n).reports = s.reports ∧ (s.promote n).lines = s.lines ∧ (s.promote n).memory = s.memory ∧
    (s.promote n).governors = s.governors ∧ (s.promote n).hoses = s.hoses ∧ (s.promote n).tanks = s.tanks ∧
    (s.promote n).topOffs = s.topOffs ∧ (s.promote n).shutdown = s.shutdown ∧ (s.promote n).link = s.link ∧
    (s.promote n).charter = s.charter ∧ (s.promote n).stills = s.stills ∧ (s.promote n).valves = s.valves ∧
    (s.promote n).bus.mode = s.bus.mode ∧ (s.promote n).bus.tail = s.bus.tail ∧
    (s.promote n).bus.lastStart = s.bus.lastStart ∧ (s.promote n).bus.idleScan = s.bus.idleScan ∧
    (s.promote n).bus.startHeld = s.bus.startHeld ∧ (s.promote n).slotNode = s.slotNode := by
  unfold Device.promote; (try dsimp only); (repeat' split) <;> simp

@[simp] theorem Device.handEnd_keeps (s : Device) (n : NodeNo) (l : Line) (t : Transaction) (o : TxOutcome) :
    (s.handEnd n l t o).time = s.time ∧ (s.handEnd n l t o).half = s.half ∧ (s.handEnd n l t o).strap = s.strap ∧
    (s.handEnd n l t o).port = s.port ∧ (s.handEnd n l t o).jobs = s.jobs ∧
    (s.handEnd n l t o).requests = s.requests ∧ (s.handEnd n l t o).charter = s.charter ∧
    (s.handEnd n l t o).reports.usable = s.reports.usable ∧
    (s.handEnd n l t o).reports.producer = s.reports.producer ∧
    (s.handEnd n l t o).reports.consumer = s.reports.consumer ∧
    (s.handEnd n l t o).reports.producerInMemory = s.reports.producerInMemory ∧
    (s.handEnd n l t o).reports.interrupt = s.reports.interrupt ∧ (s.handEnd n l t o).stills = s.stills ∧
    (s.handEnd n l t o).valves = s.valves ∧ (s.handEnd n l t o).bus.tail = s.bus.tail ∧
    (s.handEnd n l t o).bus.lastStart = s.bus.lastStart ∧ (s.handEnd n l t o).bus.idleScan = s.bus.idleScan ∧
    (s.handEnd n l t o).bus.startHeld = s.bus.startHeld ∧ (s.handEnd n l t o).slotNode = s.slotNode ∧
    (s.handEnd n l t o).shutdown.shipLoop = s.shutdown.shipLoop ∧
    (s.handEnd n l t o).shutdown.latch = s.shutdown.latch ∧ (s.handEnd n l t o).shutdown.first = s.shutdown.first ∧
    (s.handEnd n l t o).shutdown.firstLine = s.shutdown.firstLine ∧
    (s.handEnd n l t o).shutdown.firstSubject = s.shutdown.firstSubject ∧
    (s.handEnd n l t o).shutdown.bargeLoop = s.shutdown.bargeLoop ∧
    (s.handEnd n l t o).shutdown.hornSounding = s.shutdown.hornSounding ∧
    (s.handEnd n l t o).shutdown.alarmPending = s.shutdown.alarmPending ∧
    (s.handEnd n l t o).shutdown.tankAlarm = s.shutdown.tankAlarm ∧
    (s.handEnd n l t o).shutdown.valveAlarm = s.shutdown.valveAlarm := by
  unfold Device.handEnd; (try dsimp only); (repeat' split) <;> simp

@[simp] theorem Device.endTransaction_keeps (s : Device) (n : NodeNo) (o : TxOutcome) :
    (s.endTransaction n o).time = s.time ∧ (s.endTransaction n o).half = s.half ∧
    (s.endTransaction n o).strap = s.strap ∧ (s.endTransaction n o).port = s.port ∧
    (s.endTransaction n o).jobs = s.jobs ∧ (s.endTransaction n o).requests = s.requests ∧
    (s.endTransaction n o).charter = s.charter ∧ (s.endTransaction n o).reports.usable = s.reports.usable ∧
    (s.endTransaction n o).reports.producer = s.reports.producer ∧
    (s.endTransaction n o).reports.consumer = s.reports.consumer ∧
    (s.endTransaction n o).reports.producerInMemory = s.reports.producerInMemory ∧
    (s.endTransaction n o).reports.interrupt = s.reports.interrupt ∧ (s.endTransaction n o).stills = s.stills ∧
    (s.endTransaction n o).bus.tail = s.bus.tail ∧ (s.endTransaction n o).bus.lastStart = s.bus.lastStart ∧
    (s.endTransaction n o).bus.idleScan = s.bus.idleScan ∧ (s.endTransaction n o).bus.startHeld = s.bus.startHeld ∧
    (s.endTransaction n o).slotNode = s.slotNode ∧ (s.endTransaction n o).shutdown.shipLoop = s.shutdown.shipLoop ∧
    (s.endTransaction n o).shutdown.tankAlarm = s.shutdown.tankAlarm := by
  unfold Device.endTransaction; (try dsimp only); (repeat' split) <;> simp

@[simp] theorem Device.travelExpired_keeps (s : Device) (n : NodeNo) :
    (s.travelExpired n).time = s.time ∧ (s.travelExpired n).half = s.half ∧ (s.travelExpired n).strap = s.strap ∧
    (s.travelExpired n).port = s.port ∧ (s.travelExpired n).jobs = s.jobs ∧
    (s.travelExpired n).requests = s.requests ∧ (s.travelExpired n).charter = s.charter ∧
    (s.travelExpired n).reports.usable = s.reports.usable ∧
    (s.travelExpired n).reports.producer = s.reports.producer ∧
    (s.travelExpired n).reports.consumer = s.reports.consumer ∧
    (s.travelExpired n).reports.producerInMemory = s.reports.producerInMemory ∧
    (s.travelExpired n).reports.interrupt = s.reports.interrupt ∧ (s.travelExpired n).stills = s.stills ∧
    (s.travelExpired n).bus.tail = s.bus.tail ∧ (s.travelExpired n).bus.lastStart = s.bus.lastStart ∧
    (s.travelExpired n).bus.idleScan = s.bus.idleScan ∧ (s.travelExpired n).bus.startHeld = s.bus.startHeld ∧
    (s.travelExpired n).slotNode = s.slotNode ∧ (s.travelExpired n).shutdown.shipLoop = s.shutdown.shipLoop ∧
    (s.travelExpired n).shutdown.tankAlarm = s.shutdown.tankAlarm := by
  unfold Device.travelExpired; (try dsimp only); (repeat' split) <;> simp

@[simp] theorem Device.tripReading_keeps (s : Device) (l : Line) (p : Nat) (b : Option Band) :
    (s.tripReading l p b).time = s.time ∧ (s.tripReading l p b).half = s.half ∧
    (s.tripReading l p b).strap = s.strap ∧ (s.tripReading l p b).port = s.port ∧
    (s.tripReading l p b).jobs = s.jobs ∧ (s.tripReading l p b).requests = s.requests ∧
    (s.tripReading l p b).tanks = s.tanks ∧ (s.tripReading l p b).charter = s.charter ∧
    (s.tripReading l p b).reports.usable = s.reports.usable ∧
    (s.tripReading l p b).reports.producer = s.reports.producer ∧
    (s.tripReading l p b).reports.consumer = s.reports.consumer ∧
    (s.tripReading l p b).reports.producerInMemory = s.reports.producerInMemory ∧
    (s.tripReading l p b).reports.interrupt = s.reports.interrupt ∧ (s.tripReading l p b).stills = s.stills ∧
    (s.tripReading l p b).valves = s.valves ∧ (s.tripReading l p b).bus.mode = s.bus.mode ∧
    (s.tripReading l p b).bus.tail = s.bus.tail ∧ (s.tripReading l p b).bus.lastStart = s.bus.lastStart ∧
    (s.tripReading l p b).bus.idleScan = s.bus.idleScan ∧ (s.tripReading l p b).bus.startHeld = s.bus.startHeld ∧
    (s.tripReading l p b).slotNode = s.slotNode ∧ (s.tripReading l p b).shutdown.shipLoop = s.shutdown.shipLoop ∧
    (s.tripReading l p b).shutdown.tankAlarm = s.shutdown.tankAlarm ∧
    (s.tripReading l p b).shutdown.valveAlarm = s.shutdown.valveAlarm := by
  unfold Device.tripReading; (try dsimp only); (repeat' split) <;> simp

@[simp] theorem Device.primingReading_keeps (s : Device) (l : Line) (p : Nat) :
    (s.primingReading l p).time = s.time ∧ (s.primingReading l p).half = s.half ∧
    (s.primingReading l p).strap = s.strap ∧ (s.primingReading l p).port = s.port ∧
    (s.primingReading l p).jobs = s.jobs ∧ (s.primingReading l p).requests = s.requests ∧
    (s.primingReading l p).memory = s.memory ∧ (s.primingReading l p).tanks = s.tanks ∧
    (s.primingReading l p).shutdown = s.shutdown ∧ (s.primingReading l p).charter = s.charter ∧
    (s.primingReading l p).reports.usable = s.reports.usable ∧
    (s.primingReading l p).reports.producer = s.reports.producer ∧
    (s.primingReading l p).reports.consumer = s.reports.consumer ∧
    (s.primingReading l p).reports.producerInMemory = s.reports.producerInMemory ∧
    (s.primingReading l p).reports.interrupt = s.reports.interrupt ∧ (s.primingReading l p).stills = s.stills ∧
    (s.primingReading l p).valves = s.valves ∧ (s.primingReading l p).bus.mode = s.bus.mode ∧
    (s.primingReading l p).bus.tail = s.bus.tail ∧ (s.primingReading l p).bus.lastStart = s.bus.lastStart ∧
    (s.primingReading l p).bus.idleScan = s.bus.idleScan ∧ (s.primingReading l p).bus.startHeld = s.bus.startHeld ∧
    (s.primingReading l p).slotNode = s.slotNode := by
  unfold Device.primingReading; (try dsimp only); (repeat' split) <;> simp

@[simp] theorem Device.lowReading_keeps (s : Device) (l : Line) (p : Nat) :
    (s.lowReading l p).time = s.time ∧ (s.lowReading l p).half = s.half ∧ (s.lowReading l p).strap = s.strap ∧
    (s.lowReading l p).port = s.port ∧ (s.lowReading l p).jobs = s.jobs ∧
    (s.lowReading l p).requests = s.requests ∧ (s.lowReading l p).tanks = s.tanks ∧
    (s.lowReading l p).charter = s.charter ∧ (s.lowReading l p).reports.usable = s.reports.usable ∧
    (s.lowReading l p).reports.producer = s.reports.producer ∧
    (s.lowReading l p).reports.consumer = s.reports.consumer ∧
    (s.lowReading l p).reports.producerInMemory = s.reports.producerInMemory ∧
    (s.lowReading l p).reports.interrupt = s.reports.interrupt ∧ (s.lowReading l p).stills = s.stills ∧
    (s.lowReading l p).valves = s.valves ∧ (s.lowReading l p).bus.mode = s.bus.mode ∧
    (s.lowReading l p).bus.tail = s.bus.tail ∧ (s.lowReading l p).bus.lastStart = s.bus.lastStart ∧
    (s.lowReading l p).bus.idleScan = s.bus.idleScan ∧ (s.lowReading l p).bus.startHeld = s.bus.startHeld ∧
    (s.lowReading l p).slotNode = s.slotNode ∧ (s.lowReading l p).shutdown.shipLoop = s.shutdown.shipLoop ∧
    (s.lowReading l p).shutdown.tankAlarm = s.shutdown.tankAlarm ∧
    (s.lowReading l p).shutdown.valveAlarm = s.shutdown.valveAlarm := by
  unfold Device.lowReading; (try dsimp only); (repeat' split) <;> simp

@[simp] theorem Device.stripReading_keeps (s : Device) (l : Line) (p : Nat) :
    (s.stripReading l p).time = s.time ∧ (s.stripReading l p).half = s.half ∧
    (s.stripReading l p).strap = s.strap ∧ (s.stripReading l p).port = s.port ∧
    (s.stripReading l p).jobs = s.jobs ∧ (s.stripReading l p).requests = s.requests ∧
    (s.stripReading l p).shutdown = s.shutdown ∧ (s.stripReading l p).charter = s.charter ∧
    (s.stripReading l p).reports.usable = s.reports.usable ∧
    (s.stripReading l p).reports.producer = s.reports.producer ∧
    (s.stripReading l p).reports.consumer = s.reports.consumer ∧
    (s.stripReading l p).reports.producerInMemory = s.reports.producerInMemory ∧
    (s.stripReading l p).reports.interrupt = s.reports.interrupt ∧ (s.stripReading l p).stills = s.stills ∧
    (s.stripReading l p).valves = s.valves ∧ (s.stripReading l p).bus.tail = s.bus.tail ∧
    (s.stripReading l p).bus.lastStart = s.bus.lastStart ∧ (s.stripReading l p).bus.idleScan = s.bus.idleScan ∧
    (s.stripReading l p).bus.startHeld = s.bus.startHeld ∧ (s.stripReading l p).slotNode = s.slotNode := by
  unfold Device.stripReading; (try dsimp only); (repeat' split) <;> simp

@[simp] theorem Device.resetLow_keeps (s : Device) (l : Line) :
    (s.resetLow l).time = s.time ∧ (s.resetLow l).half = s.half ∧ (s.resetLow l).strap = s.strap ∧
    (s.resetLow l).port = s.port ∧ (s.resetLow l).jobs = s.jobs ∧ (s.resetLow l).requests = s.requests ∧
    (s.resetLow l).reports = s.reports ∧ (s.resetLow l).lines = s.lines ∧ (s.resetLow l).memory = s.memory ∧
    (s.resetLow l).governors = s.governors ∧ (s.resetLow l).tanks = s.tanks ∧ (s.resetLow l).topOffs = s.topOffs ∧
    (s.resetLow l).shutdown = s.shutdown ∧ (s.resetLow l).nodes = s.nodes ∧ (s.resetLow l).targets = s.targets ∧
    (s.resetLow l).bus = s.bus ∧ (s.resetLow l).link = s.link ∧ (s.resetLow l).charter = s.charter ∧
    (s.resetLow l).stills = s.stills ∧ (s.resetLow l).valves = s.valves ∧ (s.resetLow l).slotNode = s.slotNode := by
  unfold Device.resetLow; (try dsimp only); (repeat' split) <;> simp

@[simp] theorem Device.stopReading_keeps (s : Device) (l : Line) :
    (s.stopReading l).time = s.time ∧ (s.stopReading l).half = s.half ∧ (s.stopReading l).strap = s.strap ∧
    (s.stopReading l).port = s.port ∧ (s.stopReading l).jobs = s.jobs ∧ (s.stopReading l).requests = s.requests ∧
    (s.stopReading l).shutdown = s.shutdown ∧ (s.stopReading l).charter = s.charter ∧
    (s.stopReading l).reports.usable = s.reports.usable ∧ (s.stopReading l).reports.producer = s.reports.producer ∧
    (s.stopReading l).reports.consumer = s.reports.consumer ∧
    (s.stopReading l).reports.producerInMemory = s.reports.producerInMemory ∧
    (s.stopReading l).reports.interrupt = s.reports.interrupt ∧ (s.stopReading l).stills = s.stills ∧
    (s.stopReading l).valves = s.valves ∧ (s.stopReading l).bus.tail = s.bus.tail ∧
    (s.stopReading l).bus.lastStart = s.bus.lastStart ∧ (s.stopReading l).bus.idleScan = s.bus.idleScan ∧
    (s.stopReading l).bus.startHeld = s.bus.startHeld ∧ (s.stopReading l).slotNode = s.slotNode := by
  unfold Device.stopReading; (try dsimp only); (repeat' split) <;> simp

@[simp] theorem Device.readingEffect_keeps (s : Device) (l : Line) (p : Nat) (b : Option Band) (k : Band) :
    (s.readingEffect l p b k).time = s.time ∧ (s.readingEffect l p b k).half = s.half ∧
    (s.readingEffect l p b k).strap = s.strap ∧ (s.readingEffect l p b k).port = s.port ∧
    (s.readingEffect l p b k).jobs = s.jobs ∧ (s.readingEffect l p b k).requests = s.requests ∧
    (s.readingEffect l p b k).charter = s.charter ∧ (s.readingEffect l p b k).reports.usable = s.reports.usable ∧
    (s.readingEffect l p b k).reports.producer = s.reports.producer ∧
    (s.readingEffect l p b k).reports.consumer = s.reports.consumer ∧
    (s.readingEffect l p b k).reports.producerInMemory = s.reports.producerInMemory ∧
    (s.readingEffect l p b k).reports.interrupt = s.reports.interrupt ∧
    (s.readingEffect l p b k).stills = s.stills ∧ (s.readingEffect l p b k).valves = s.valves ∧
    (s.readingEffect l p b k).bus.tail = s.bus.tail ∧ (s.readingEffect l p b k).bus.lastStart = s.bus.lastStart ∧
    (s.readingEffect l p b k).bus.idleScan = s.bus.idleScan ∧
    (s.readingEffect l p b k).bus.startHeld = s.bus.startHeld ∧ (s.readingEffect l p b k).slotNode = s.slotNode ∧
    (s.readingEffect l p b k).shutdown.shipLoop = s.shutdown.shipLoop ∧
    (s.readingEffect l p b k).shutdown.tankAlarm = s.shutdown.tankAlarm ∧
    (s.readingEffect l p b k).shutdown.valveAlarm = s.shutdown.valveAlarm := by
  unfold Device.readingEffect; (try dsimp only); (repeat' split) <;> simp

@[simp] theorem Device.pressureReading_keeps (s : Device) (l : Line) (p : Nat) :
    (s.pressureReading l p).time = s.time ∧ (s.pressureReading l p).half = s.half ∧
    (s.pressureReading l p).strap = s.strap ∧ (s.pressureReading l p).port = s.port ∧
    (s.pressureReading l p).jobs = s.jobs ∧ (s.pressureReading l p).requests = s.requests ∧
    (s.pressureReading l p).charter = s.charter ∧ (s.pressureReading l p).reports.usable = s.reports.usable ∧
    (s.pressureReading l p).reports.producer = s.reports.producer ∧
    (s.pressureReading l p).reports.consumer = s.reports.consumer ∧
    (s.pressureReading l p).reports.producerInMemory = s.reports.producerInMemory ∧
    (s.pressureReading l p).reports.interrupt = s.reports.interrupt ∧ (s.pressureReading l p).stills = s.stills ∧
    (s.pressureReading l p).valves = s.valves ∧ (s.pressureReading l p).bus.tail = s.bus.tail ∧
    (s.pressureReading l p).bus.lastStart = s.bus.lastStart ∧
    (s.pressureReading l p).bus.idleScan = s.bus.idleScan ∧
    (s.pressureReading l p).bus.startHeld = s.bus.startHeld ∧ (s.pressureReading l p).slotNode = s.slotNode ∧
    (s.pressureReading l p).shutdown.shipLoop = s.shutdown.shipLoop ∧
    (s.pressureReading l p).shutdown.tankAlarm = s.shutdown.tankAlarm ∧
    (s.pressureReading l p).shutdown.valveAlarm = s.shutdown.valveAlarm := by
  unfold Device.pressureReading; (try dsimp only); (repeat' split) <;> simp

@[simp] theorem Device.countDelivered_keeps (s : Device) (l : Line) (w : Word) :
    (s.countDelivered l w).time = s.time ∧ (s.countDelivered l w).half = s.half ∧
    (s.countDelivered l w).strap = s.strap ∧ (s.countDelivered l w).port = s.port ∧
    (s.countDelivered l w).jobs = s.jobs ∧ (s.countDelivered l w).requests = s.requests ∧
    (s.countDelivered l w).memory = s.memory ∧ (s.countDelivered l w).tanks = s.tanks ∧
    (s.countDelivered l w).shutdown = s.shutdown ∧ (s.countDelivered l w).charter = s.charter ∧
    (s.countDelivered l w).reports.usable = s.reports.usable ∧
    (s.countDelivered l w).reports.producer = s.reports.producer ∧
    (s.countDelivered l w).reports.consumer = s.reports.consumer ∧
    (s.countDelivered l w).reports.producerInMemory = s.reports.producerInMemory ∧
    (s.countDelivered l w).reports.interrupt = s.reports.interrupt ∧ (s.countDelivered l w).stills = s.stills ∧
    (s.countDelivered l w).valves = s.valves ∧ (s.countDelivered l w).bus.mode = s.bus.mode ∧
    (s.countDelivered l w).bus.tail = s.bus.tail ∧ (s.countDelivered l w).bus.lastStart = s.bus.lastStart ∧
    (s.countDelivered l w).bus.idleScan = s.bus.idleScan ∧ (s.countDelivered l w).bus.startHeld = s.bus.startHeld ∧
    (s.countDelivered l w).slotNode = s.slotNode := by
  unfold Device.countDelivered; (try dsimp only); (repeat' split) <;> simp

@[simp] theorem Device.flowReading_keeps (s : Device) (l : Line) (w : Word) :
    (s.flowReading l w).time = s.time ∧ (s.flowReading l w).half = s.half ∧ (s.flowReading l w).strap = s.strap ∧
    (s.flowReading l w).port = s.port ∧ (s.flowReading l w).jobs = s.jobs ∧
    (s.flowReading l w).requests = s.requests ∧ (s.flowReading l w).shutdown = s.shutdown ∧
    (s.flowReading l w).charter = s.charter ∧ (s.flowReading l w).reports.usable = s.reports.usable ∧
    (s.flowReading l w).reports.producer = s.reports.producer ∧
    (s.flowReading l w).reports.consumer = s.reports.consumer ∧
    (s.flowReading l w).reports.producerInMemory = s.reports.producerInMemory ∧
    (s.flowReading l w).reports.interrupt = s.reports.interrupt ∧ (s.flowReading l w).stills = s.stills ∧
    (s.flowReading l w).valves = s.valves ∧ (s.flowReading l w).bus.tail = s.bus.tail ∧
    (s.flowReading l w).bus.lastStart = s.bus.lastStart ∧ (s.flowReading l w).bus.idleScan = s.bus.idleScan ∧
    (s.flowReading l w).bus.startHeld = s.bus.startHeld ∧ (s.flowReading l w).slotNode = s.slotNode := by
  unfold Device.flowReading; (try dsimp only); (repeat' split) <;> simp

end Sys2Proof.Machine
end

