-- ==== Sys2Proof/Laws/Blocks.lean ====
section
/-! SUPPORT. What the deck bus controller, the ship link controller, the end of an event, the request unit and the memory
port keep. -/

namespace Sys2Proof.Machine

open Sys2Proof

/-! ## The evaluation of a slot (R113) -/

@[simp] theorem Device.firstTarget_keeps (s : Device) (n : NodeNo) (v : ValveState) :
    (s.firstTarget n v).time = s.time ∧ (s.firstTarget n v).half = s.half ∧ (s.firstTarget n v).strap = s.strap ∧
    (s.firstTarget n v).port = s.port ∧ (s.firstTarget n v).jobs = s.jobs ∧
    (s.firstTarget n v).requests = s.requests ∧ (s.firstTarget n v).reports = s.reports ∧
    (s.firstTarget n v).lines = s.lines ∧ (s.firstTarget n v).memory = s.memory ∧
    (s.firstTarget n v).governors = s.governors ∧ (s.firstTarget n v).hoses = s.hoses ∧
    (s.firstTarget n v).tanks = s.tanks ∧ (s.firstTarget n v).topOffs = s.topOffs ∧
    (s.firstTarget n v).shutdown = s.shutdown ∧ (s.firstTarget n v).nodes = s.nodes ∧
    (s.firstTarget n v).bus = s.bus ∧ (s.firstTarget n v).link = s.link ∧ (s.firstTarget n v).charter = s.charter ∧
    (s.firstTarget n v).stills = s.stills ∧ (s.firstTarget n v).valves = s.valves ∧
    (s.firstTarget n v).slotNode = s.slotNode := by
  unfold Device.firstTarget; (try dsimp only); (repeat' split) <;> simp

@[simp] theorem Device.clearLocal_keeps (s : Device) (l : Line) :
    (s.clearLocal l).time = s.time ∧ (s.clearLocal l).half = s.half ∧ (s.clearLocal l).strap = s.strap ∧
    (s.clearLocal l).port = s.port ∧ (s.clearLocal l).jobs = s.jobs ∧ (s.clearLocal l).requests = s.requests ∧
    (s.clearLocal l).memory = s.memory ∧ (s.clearLocal l).tanks = s.tanks ∧
    (s.clearLocal l).shutdown = s.shutdown ∧ (s.clearLocal l).charter = s.charter ∧
    (s.clearLocal l).reports.usable = s.reports.usable ∧ (s.clearLocal l).reports.producer = s.reports.producer ∧
    (s.clearLocal l).reports.consumer = s.reports.consumer ∧
    (s.clearLocal l).reports.producerInMemory = s.reports.producerInMemory ∧
    (s.clearLocal l).reports.interrupt = s.reports.interrupt ∧ (s.clearLocal l).stills = s.stills ∧
    (s.clearLocal l).valves = s.valves ∧ (s.clearLocal l).bus.mode = s.bus.mode ∧
    (s.clearLocal l).bus.tail = s.bus.tail ∧ (s.clearLocal l).bus.lastStart = s.bus.lastStart ∧
    (s.clearLocal l).bus.idleScan = s.bus.idleScan ∧ (s.clearLocal l).bus.startHeld = s.bus.startHeld ∧
    (s.clearLocal l).slotNode = s.slotNode := by
  unfold Device.clearLocal; (try dsimp only); (repeat' split) <;> simp

@[simp] theorem Device.positionTaken_keeps (s : Device) (b : Node) :
    (s.positionTaken b).time = s.time ∧ (s.positionTaken b).half = s.half ∧ (s.positionTaken b).strap = s.strap ∧
    (s.positionTaken b).port = s.port ∧ (s.positionTaken b).jobs = s.jobs ∧
    (s.positionTaken b).requests = s.requests ∧ (s.positionTaken b).tanks = s.tanks ∧
    (s.positionTaken b).shutdown = s.shutdown ∧ (s.positionTaken b).charter = s.charter ∧
    (s.positionTaken b).reports.usable = s.reports.usable ∧
    (s.positionTaken b).reports.producer = s.reports.producer ∧
    (s.positionTaken b).reports.consumer = s.reports.consumer ∧
    (s.positionTaken b).reports.producerInMemory = s.reports.producerInMemory ∧
    (s.positionTaken b).reports.interrupt = s.reports.interrupt ∧ (s.positionTaken b).stills = s.stills ∧
    (s.positionTaken b).valves = s.valves ∧ (s.positionTaken b).bus.mode = s.bus.mode ∧
    (s.positionTaken b).bus.tail = s.bus.tail ∧ (s.positionTaken b).bus.lastStart = s.bus.lastStart ∧
    (s.positionTaken b).bus.idleScan = s.bus.idleScan ∧ (s.positionTaken b).bus.startHeld = s.bus.startHeld ∧
    (s.positionTaken b).slotNode = s.slotNode := by
  unfold Device.positionTaken; (try dsimp only); (repeat' split) <;> simp

@[simp] theorem Device.takePosition_keeps (s : Device) (n : NodeNo) (b : Node) (a : Answer) :
    (s.takePosition n b a).time = s.time ∧ (s.takePosition n b a).half = s.half ∧
    (s.takePosition n b a).strap = s.strap ∧ (s.takePosition n b a).port = s.port ∧
    (s.takePosition n b a).jobs = s.jobs ∧ (s.takePosition n b a).requests = s.requests ∧
    (s.takePosition n b a).tanks = s.tanks ∧ (s.takePosition n b a).shutdown = s.shutdown ∧
    (s.takePosition n b a).charter = s.charter ∧ (s.takePosition n b a).reports.usable = s.reports.usable ∧
    (s.takePosition n b a).reports.producer = s.reports.producer ∧
    (s.takePosition n b a).reports.consumer = s.reports.consumer ∧
    (s.takePosition n b a).reports.producerInMemory = s.reports.producerInMemory ∧
    (s.takePosition n b a).reports.interrupt = s.reports.interrupt ∧ (s.takePosition n b a).stills = s.stills ∧
    (s.takePosition n b a).bus.mode = s.bus.mode ∧ (s.takePosition n b a).bus.tail = s.bus.tail ∧
    (s.takePosition n b a).bus.lastStart = s.bus.lastStart ∧ (s.takePosition n b a).bus.idleScan = s.bus.idleScan ∧
    (s.takePosition n b a).bus.startHeld = s.bus.startHeld ∧ (s.takePosition n b a).slotNode = s.slotNode := by
  unfold Device.takePosition; (try dsimp only); (repeat' split) <;> simp

@[simp] theorem Device.takeRecord_keeps (s : Device) (n : NodeNo) (b : Node) (o : SlotOutcome) :
    (s.takeRecord n b o).time = s.time ∧ (s.takeRecord n b o).half = s.half ∧
    (s.takeRecord n b o).strap = s.strap ∧ (s.takeRecord n b o).port = s.port ∧
    (s.takeRecord n b o).jobs = s.jobs ∧ (s.takeRecord n b o).requests = s.requests ∧
    (s.takeRecord n b o).tanks = s.tanks ∧ (s.takeRecord n b o).shutdown = s.shutdown ∧
    (s.takeRecord n b o).charter = s.charter ∧ (s.takeRecord n b o).reports.usable = s.reports.usable ∧
    (s.takeRecord n b o).reports.producer = s.reports.producer ∧
    (s.takeRecord n b o).reports.consumer = s.reports.consumer ∧
    (s.takeRecord n b o).reports.producerInMemory = s.reports.producerInMemory ∧
    (s.takeRecord n b o).reports.interrupt = s.reports.interrupt ∧ (s.takeRecord n b o).bus.mode = s.bus.mode ∧
    (s.takeRecord n b o).bus.tail = s.bus.tail ∧ (s.takeRecord n b o).bus.lastStart = s.bus.lastStart ∧
    (s.takeRecord n b o).bus.idleScan = s.bus.idleScan ∧ (s.takeRecord n b o).bus.startHeld = s.bus.startHeld ∧
    (s.takeRecord n b o).slotNode = s.slotNode := by
  unfold Device.takeRecord; (try dsimp only); (repeat' split) <;> simp

@[simp] theorem Device.becomeStale_keeps (s : Device) (n : NodeNo) (o : SlotOutcome) :
    (s.becomeStale n o).time = s.time ∧ (s.becomeStale n o).half = s.half ∧ (s.becomeStale n o).strap = s.strap ∧
    (s.becomeStale n o).port = s.port ∧ (s.becomeStale n o).jobs = s.jobs ∧
    (s.becomeStale n o).requests = s.requests ∧ (s.becomeStale n o).memory = s.memory ∧
    (s.becomeStale n o).tanks = s.tanks ∧ (s.becomeStale n o).shutdown = s.shutdown ∧
    (s.becomeStale n o).charter = s.charter ∧ (s.becomeStale n o).reports.usable = s.reports.usable ∧
    (s.becomeStale n o).reports.producer = s.reports.producer ∧
    (s.becomeStale n o).reports.consumer = s.reports.consumer ∧
    (s.becomeStale n o).reports.producerInMemory = s.reports.producerInMemory ∧
    (s.becomeStale n o).reports.interrupt = s.reports.interrupt ∧ (s.becomeStale n o).bus.mode = s.bus.mode ∧
    (s.becomeStale n o).bus.tail = s.bus.tail ∧ (s.becomeStale n o).bus.lastStart = s.bus.lastStart ∧
    (s.becomeStale n o).bus.idleScan = s.bus.idleScan ∧ (s.becomeStale n o).bus.startHeld = s.bus.startHeld ∧
    (s.becomeStale n o).slotNode = s.slotNode := by
  unfold Device.becomeStale; (try dsimp only); (repeat' split) <;> simp

@[simp] theorem Device.becomeFresh_keeps (s : Device) (n : NodeNo) :
    (s.becomeFresh n).time = s.time ∧ (s.becomeFresh n).half = s.half ∧ (s.becomeFresh n).strap = s.strap ∧
    (s.becomeFresh n).port = s.port ∧ (s.becomeFresh n).jobs = s.jobs ∧ (s.becomeFresh n).requests = s.requests ∧
    (s.becomeFresh n).memory = s.memory ∧ (s.becomeFresh n).tanks = s.tanks ∧
    (s.becomeFresh n).shutdown = s.shutdown ∧ (s.becomeFresh n).charter = s.charter ∧
    (s.becomeFresh n).reports.usable = s.reports.usable ∧ (s.becomeFresh n).reports.producer = s.reports.producer ∧
    (s.becomeFresh n).reports.consumer = s.reports.consumer ∧
    (s.becomeFresh n).reports.producerInMemory = s.reports.producerInMemory ∧
    (s.becomeFresh n).reports.interrupt = s.reports.interrupt ∧ (s.becomeFresh n).bus.mode = s.bus.mode ∧
    (s.becomeFresh n).bus.tail = s.bus.tail ∧ (s.becomeFresh n).bus.lastStart = s.bus.lastStart ∧
    (s.becomeFresh n).bus.idleScan = s.bus.idleScan ∧ (s.becomeFresh n).bus.startHeld = s.bus.startHeld ∧
    (s.becomeFresh n).slotNode = s.slotNode := by
  unfold Device.becomeFresh; (try dsimp only); (repeat' split) <;> simp

@[simp] theorem Device.takeFreshness_keeps (s : Device) (n : NodeNo) (o : SlotOutcome) :
    (s.takeFreshness n o).time = s.time ∧ (s.takeFreshness n o).half = s.half ∧
    (s.takeFreshness n o).strap = s.strap ∧ (s.takeFreshness n o).port = s.port ∧
    (s.takeFreshness n o).jobs = s.jobs ∧ (s.takeFreshness n o).requests = s.requests ∧
    (s.takeFreshness n o).memory = s.memory ∧ (s.takeFreshness n o).tanks = s.tanks ∧
    (s.takeFreshness n o).shutdown = s.shutdown ∧ (s.takeFreshness n o).charter = s.charter ∧
    (s.takeFreshness n o).reports.usable = s.reports.usable ∧
    (s.takeFreshness n o).reports.producer = s.reports.producer ∧
    (s.takeFreshness n o).reports.consumer = s.reports.consumer ∧
    (s.takeFreshness n o).reports.producerInMemory = s.reports.producerInMemory ∧
    (s.takeFreshness n o).reports.interrupt = s.reports.interrupt ∧ (s.takeFreshness n o).bus.mode = s.bus.mode ∧
    (s.takeFreshness n o).bus.tail = s.bus.tail ∧ (s.takeFreshness n o).bus.lastStart = s.bus.lastStart ∧
    (s.takeFreshness n o).bus.idleScan = s.bus.idleScan ∧ (s.takeFreshness n o).bus.startHeld = s.bus.startHeld ∧
    (s.takeFreshness n o).slotNode = s.slotNode := by
  unfold Device.takeFreshness; (try dsimp only); (repeat' split) <;> simp

@[simp] theorem Device.pumpFault_keeps (s : Device) (n : NodeNo) (o : SlotOutcome) :
    (s.pumpFault n o).time = s.time ∧ (s.pumpFault n o).half = s.half ∧ (s.pumpFault n o).strap = s.strap ∧
    (s.pumpFault n o).port = s.port ∧ (s.pumpFault n o).jobs = s.jobs ∧ (s.pumpFault n o).requests = s.requests ∧
    (s.pumpFault n o).shutdown = s.shutdown ∧ (s.pumpFault n o).charter = s.charter ∧
    (s.pumpFault n o).reports.usable = s.reports.usable ∧ (s.pumpFault n o).reports.producer = s.reports.producer ∧
    (s.pumpFault n o).reports.consumer = s.reports.consumer ∧
    (s.pumpFault n o).reports.producerInMemory = s.reports.producerInMemory ∧
    (s.pumpFault n o).reports.interrupt = s.reports.interrupt ∧ (s.pumpFault n o).stills = s.stills ∧
    (s.pumpFault n o).valves = s.valves ∧ (s.pumpFault n o).bus.tail = s.bus.tail ∧
    (s.pumpFault n o).bus.lastStart = s.bus.lastStart ∧ (s.pumpFault n o).bus.idleScan = s.bus.idleScan ∧
    (s.pumpFault n o).bus.startHeld = s.bus.startHeld ∧ (s.pumpFault n o).slotNode = s.slotNode := by
  unfold Device.pumpFault; (try dsimp only); (repeat' split) <;> simp

@[simp] theorem Node.stateFor_move (nd : Node) (g : Target) (v : ValveState) : nd.stateFor (.move g) v = v := rfl

@[simp] theorem Node.stateFor_speed (nd : Node) (r : Nat) (v : ValveState) : nd.stateFor (.speed r) v = nd.valve := rfl

@[simp] theorem Device.setInFlight_keeps (s : Device) (n : NodeNo) (t : Transaction) (v : ValveState) :
    (s.setInFlight n t v).time = s.time ∧ (s.setInFlight n t v).half = s.half ∧
    (s.setInFlight n t v).strap = s.strap ∧ (s.setInFlight n t v).port = s.port ∧
    (s.setInFlight n t v).jobs = s.jobs ∧ (s.setInFlight n t v).requests = s.requests ∧
    (s.setInFlight n t v).reports = s.reports ∧ (s.setInFlight n t v).lines = s.lines ∧
    (s.setInFlight n t v).memory = s.memory ∧ (s.setInFlight n t v).governors = s.governors ∧
    (s.setInFlight n t v).hoses = s.hoses ∧ (s.setInFlight n t v).tanks = s.tanks ∧
    (s.setInFlight n t v).topOffs = s.topOffs ∧ (s.setInFlight n t v).targets = s.targets ∧
    (s.setInFlight n t v).bus = s.bus ∧ (s.setInFlight n t v).link = s.link ∧
    (s.setInFlight n t v).charter = s.charter ∧ (s.setInFlight n t v).stills = s.stills ∧
    (s.setInFlight n t v).slotNode = s.slotNode ∧ (s.setInFlight n t v).shutdown.shipLoop = s.shutdown.shipLoop ∧
    (s.setInFlight n t v).shutdown.latch = s.shutdown.latch ∧
    (s.setInFlight n t v).shutdown.first = s.shutdown.first ∧
    (s.setInFlight n t v).shutdown.firstLine = s.shutdown.firstLine ∧
    (s.setInFlight n t v).shutdown.firstSubject = s.shutdown.firstSubject ∧
    (s.setInFlight n t v).shutdown.bargeLoop = s.shutdown.bargeLoop ∧
    (s.setInFlight n t v).shutdown.tankAlarm = s.shutdown.tankAlarm ∧
    (s.setInFlight n t v).shutdown.sequence = s.shutdown.sequence ∧
    (s.setInFlight n t v).shutdown.pumpDeadline = s.shutdown.pumpDeadline := by
  unfold Device.setInFlight; (try dsimp only); (repeat' split) <;> simp

@[simp] theorem Device.leaveLocal_keeps (s : Device) (b : Node) :
    (s.leaveLocal b).time = s.time ∧ (s.leaveLocal b).half = s.half ∧ (s.leaveLocal b).strap = s.strap ∧
    (s.leaveLocal b).port = s.port ∧ (s.leaveLocal b).jobs = s.jobs ∧ (s.leaveLocal b).requests = s.requests ∧
    (s.leaveLocal b).memory = s.memory ∧ (s.leaveLocal b).tanks = s.tanks ∧
    (s.leaveLocal b).shutdown = s.shutdown ∧ (s.leaveLocal b).charter = s.charter ∧
    (s.leaveLocal b).reports.usable = s.reports.usable ∧ (s.leaveLocal b).reports.producer = s.reports.producer ∧
    (s.leaveLocal b).reports.consumer = s.reports.consumer ∧
    (s.leaveLocal b).reports.producerInMemory = s.reports.producerInMemory ∧
    (s.leaveLocal b).reports.interrupt = s.reports.interrupt ∧ (s.leaveLocal b).stills = s.stills ∧
    (s.leaveLocal b).valves = s.valves ∧ (s.leaveLocal b).bus.mode = s.bus.mode ∧
    (s.leaveLocal b).bus.tail = s.bus.tail ∧ (s.leaveLocal b).bus.lastStart = s.bus.lastStart ∧
    (s.leaveLocal b).bus.idleScan = s.bus.idleScan ∧ (s.leaveLocal b).bus.startHeld = s.bus.startHeld ∧
    (s.leaveLocal b).slotNode = s.slotNode := by
  unfold Device.leaveLocal; (try dsimp only); (repeat' split) <;> simp

@[simp] theorem Device.testArrival_keeps (s : Device) (n : NodeNo) (t : Act) (a : Answer) :
    (s.testArrival n t a).time = s.time ∧ (s.testArrival n t a).half = s.half ∧
    (s.testArrival n t a).strap = s.strap ∧ (s.testArrival n t a).port = s.port ∧
    (s.testArrival n t a).jobs = s.jobs ∧ (s.testArrival n t a).requests = s.requests ∧
    (s.testArrival n t a).charter = s.charter ∧ (s.testArrival n t a).reports.usable = s.reports.usable ∧
    (s.testArrival n t a).reports.producer = s.reports.producer ∧
    (s.testArrival n t a).reports.consumer = s.reports.consumer ∧
    (s.testArrival n t a).reports.producerInMemory = s.reports.producerInMemory ∧
    (s.testArrival n t a).reports.interrupt = s.reports.interrupt ∧ (s.testArrival n t a).stills = s.stills ∧
    (s.testArrival n t a).bus.tail = s.bus.tail ∧ (s.testArrival n t a).bus.lastStart = s.bus.lastStart ∧
    (s.testArrival n t a).bus.idleScan = s.bus.idleScan ∧ (s.testArrival n t a).bus.startHeld = s.bus.startHeld ∧
    (s.testArrival n t a).slotNode = s.slotNode ∧ (s.testArrival n t a).shutdown.shipLoop = s.shutdown.shipLoop ∧
    (s.testArrival n t a).shutdown.tankAlarm = s.shutdown.tankAlarm := by
  unfold Device.testArrival; (try dsimp only); (repeat' split) <;> simp

@[simp] theorem Device.takenAnswer_keeps (s : Device) (n : NodeNo) (b : Node) (t : Transaction) (a : Answer) :
    (s.takenAnswer n b t a).time = s.time ∧ (s.takenAnswer n b t a).half = s.half ∧
    (s.takenAnswer n b t a).strap = s.strap ∧ (s.takenAnswer n b t a).port = s.port ∧
    (s.takenAnswer n b t a).jobs = s.jobs ∧ (s.takenAnswer n b t a).requests = s.requests ∧
    (s.takenAnswer n b t a).charter = s.charter ∧ (s.takenAnswer n b t a).reports.usable = s.reports.usable ∧
    (s.takenAnswer n b t a).reports.producer = s.reports.producer ∧
    (s.takenAnswer n b t a).reports.consumer = s.reports.consumer ∧
    (s.takenAnswer n b t a).reports.producerInMemory = s.reports.producerInMemory ∧
    (s.takenAnswer n b t a).reports.interrupt = s.reports.interrupt ∧ (s.takenAnswer n b t a).stills = s.stills ∧
    (s.takenAnswer n b t a).bus.tail = s.bus.tail ∧ (s.takenAnswer n b t a).bus.lastStart = s.bus.lastStart ∧
    (s.takenAnswer n b t a).bus.idleScan = s.bus.idleScan ∧
    (s.takenAnswer n b t a).bus.startHeld = s.bus.startHeld ∧ (s.takenAnswer n b t a).slotNode = s.slotNode ∧
    (s.takenAnswer n b t a).shutdown.shipLoop = s.shutdown.shipLoop ∧
    (s.takenAnswer n b t a).shutdown.tankAlarm = s.shutdown.tankAlarm := by
  unfold Device.takenAnswer; (try dsimp only); (repeat' split) <;> simp

@[simp] theorem Device.busyAnswer_keeps (s : Device) (n : NodeNo) (b : Node) (t : Transaction) :
    (s.busyAnswer n b t).time = s.time ∧ (s.busyAnswer n b t).half = s.half ∧
    (s.busyAnswer n b t).strap = s.strap ∧ (s.busyAnswer n b t).port = s.port ∧
    (s.busyAnswer n b t).jobs = s.jobs ∧ (s.busyAnswer n b t).requests = s.requests ∧
    (s.busyAnswer n b t).charter = s.charter ∧ (s.busyAnswer n b t).reports.usable = s.reports.usable ∧
    (s.busyAnswer n b t).reports.producer = s.reports.producer ∧
    (s.busyAnswer n b t).reports.consumer = s.reports.consumer ∧
    (s.busyAnswer n b t).reports.producerInMemory = s.reports.producerInMemory ∧
    (s.busyAnswer n b t).reports.interrupt = s.reports.interrupt ∧ (s.busyAnswer n b t).stills = s.stills ∧
    (s.busyAnswer n b t).bus.tail = s.bus.tail ∧ (s.busyAnswer n b t).bus.lastStart = s.bus.lastStart ∧
    (s.busyAnswer n b t).bus.idleScan = s.bus.idleScan ∧ (s.busyAnswer n b t).bus.startHeld = s.bus.startHeld ∧
    (s.busyAnswer n b t).slotNode = s.slotNode ∧ (s.busyAnswer n b t).shutdown.shipLoop = s.shutdown.shipLoop ∧
    (s.busyAnswer n b t).shutdown.tankAlarm = s.shutdown.tankAlarm := by
  unfold Device.busyAnswer; (try dsimp only); (repeat' split) <;> simp

@[simp] theorem Device.slotError_keeps (s : Device) (n : NodeNo) (t : Transaction) :
    (s.slotError n t).time = s.time ∧ (s.slotError n t).half = s.half ∧ (s.slotError n t).strap = s.strap ∧
    (s.slotError n t).port = s.port ∧ (s.slotError n t).jobs = s.jobs ∧ (s.slotError n t).requests = s.requests ∧
    (s.slotError n t).charter = s.charter ∧ (s.slotError n t).reports.usable = s.reports.usable ∧
    (s.slotError n t).reports.producer = s.reports.producer ∧
    (s.slotError n t).reports.consumer = s.reports.consumer ∧
    (s.slotError n t).reports.producerInMemory = s.reports.producerInMemory ∧
    (s.slotError n t).reports.interrupt = s.reports.interrupt ∧ (s.slotError n t).stills = s.stills ∧
    (s.slotError n t).bus.tail = s.bus.tail ∧ (s.slotError n t).bus.lastStart = s.bus.lastStart ∧
    (s.slotError n t).bus.idleScan = s.bus.idleScan ∧ (s.slotError n t).bus.startHeld = s.bus.startHeld ∧
    (s.slotError n t).slotNode = s.slotNode ∧ (s.slotError n t).shutdown.shipLoop = s.shutdown.shipLoop ∧
    (s.slotError n t).shutdown.tankAlarm = s.shutdown.tankAlarm := by
  unfold Device.slotError; (try dsimp only); (repeat' split) <;> simp

@[simp] theorem Device.sendAnswer_keeps (s : Device) (n : NodeNo) (b : Node) (t : Transaction) (a : Answer) :
    (s.sendAnswer n b t a).time = s.time ∧ (s.sendAnswer n b t a).half = s.half ∧
    (s.sendAnswer n b t a).strap = s.strap ∧ (s.sendAnswer n b t a).port = s.port ∧
    (s.sendAnswer n b t a).jobs = s.jobs ∧ (s.sendAnswer n b t a).requests = s.requests ∧
    (s.sendAnswer n b t a).charter = s.charter ∧ (s.sendAnswer n b t a).reports.usable = s.reports.usable ∧
    (s.sendAnswer n b t a).reports.producer = s.reports.producer ∧
    (s.sendAnswer n b t a).reports.consumer = s.reports.consumer ∧
    (s.sendAnswer n b t a).reports.producerInMemory = s.reports.producerInMemory ∧
    (s.sendAnswer n b t a).reports.interrupt = s.reports.interrupt ∧ (s.sendAnswer n b t a).stills = s.stills ∧
    (s.sendAnswer n b t a).bus.tail = s.bus.tail ∧ (s.sendAnswer n b t a).bus.lastStart = s.bus.lastStart ∧
    (s.sendAnswer n b t a).bus.idleScan = s.bus.idleScan ∧ (s.sendAnswer n b t a).bus.startHeld = s.bus.startHeld ∧
    (s.sendAnswer n b t a).slotNode = s.slotNode ∧ (s.sendAnswer n b t a).shutdown.shipLoop = s.shutdown.shipLoop ∧
    (s.sendAnswer n b t a).shutdown.tankAlarm = s.shutdown.tankAlarm := by
  unfold Device.sendAnswer; (try dsimp only); (repeat' split) <;> simp

@[simp] theorem Device.probeAnswer_keeps (s : Device) (n : NodeNo) (b : Node) (t : Transaction) (a : Answer) :
    (s.probeAnswer n b t a).time = s.time ∧ (s.probeAnswer n b t a).half = s.half ∧
    (s.probeAnswer n b t a).strap = s.strap ∧ (s.probeAnswer n b t a).port = s.port ∧
    (s.probeAnswer n b t a).jobs = s.jobs ∧ (s.probeAnswer n b t a).requests = s.requests ∧
    (s.probeAnswer n b t a).charter = s.charter ∧ (s.probeAnswer n b t a).reports.usable = s.reports.usable ∧
    (s.probeAnswer n b t a).reports.producer = s.reports.producer ∧
    (s.probeAnswer n b t a).reports.consumer = s.reports.consumer ∧
    (s.probeAnswer n b t a).reports.producerInMemory = s.reports.producerInMemory ∧
    (s.probeAnswer n b t a).reports.interrupt = s.reports.interrupt ∧ (s.probeAnswer n b t a).stills = s.stills ∧
    (s.probeAnswer n b t a).bus.tail = s.bus.tail ∧ (s.probeAnswer n b t a).bus.lastStart = s.bus.lastStart ∧
    (s.probeAnswer n b t a).bus.idleScan = s.bus.idleScan ∧
    (s.probeAnswer n b t a).bus.startHeld = s.bus.startHeld ∧ (s.probeAnswer n b t a).slotNode = s.slotNode ∧
    (s.probeAnswer n b t a).shutdown.shipLoop = s.shutdown.shipLoop ∧
    (s.probeAnswer n b t a).shutdown.tankAlarm = s.shutdown.tankAlarm := by
  unfold Device.probeAnswer; (try dsimp only); (repeat' split) <;> simp

@[simp] theorem Device.transactionResult_keeps (s : Device) (n : NodeNo) (b : Node) (t : Transaction) (o : SlotOutcome) :
    (s.transactionResult n b t o).time = s.time ∧ (s.transactionResult n b t o).half = s.half ∧
    (s.transactionResult n b t o).strap = s.strap ∧ (s.transactionResult n b t o).port = s.port ∧
    (s.transactionResult n b t o).jobs = s.jobs ∧ (s.transactionResult n b t o).requests = s.requests ∧
    (s.transactionResult n b t o).charter = s.charter ∧
    (s.transactionResult n b t o).reports.usable = s.reports.usable ∧
    (s.transactionResult n b t o).reports.producer = s.reports.producer ∧
    (s.transactionResult n b t o).reports.consumer = s.reports.consumer ∧
    (s.transactionResult n b t o).reports.producerInMemory = s.reports.producerInMemory ∧
    (s.transactionResult n b t o).reports.interrupt = s.reports.interrupt ∧
    (s.transactionResult n b t o).stills = s.stills ∧ (s.transactionResult n b t o).bus.tail = s.bus.tail ∧
    (s.transactionResult n b t o).bus.lastStart = s.bus.lastStart ∧
    (s.transactionResult n b t o).bus.idleScan = s.bus.idleScan ∧
    (s.transactionResult n b t o).bus.startHeld = s.bus.startHeld ∧
    (s.transactionResult n b t o).slotNode = s.slotNode ∧
    (s.transactionResult n b t o).shutdown.shipLoop = s.shutdown.shipLoop ∧
    (s.transactionResult n b t o).shutdown.tankAlarm = s.shutdown.tankAlarm := by
  unfold Device.transactionResult; (try dsimp only); (repeat' split) <;> simp

@[simp] theorem Device.takeTransaction_keeps (s : Device) (n : NodeNo) (b : Node) (o : SlotOutcome) :
    (s.takeTransaction n b o).time = s.time ∧ (s.takeTransaction n b o).half = s.half ∧
    (s.takeTransaction n b o).strap = s.strap ∧ (s.takeTransaction n b o).port = s.port ∧
    (s.takeTransaction n b o).jobs = s.jobs ∧ (s.takeTransaction n b o).requests = s.requests ∧
    (s.takeTransaction n b o).charter = s.charter ∧ (s.takeTransaction n b o).reports.usable = s.reports.usable ∧
    (s.takeTransaction n b o).reports.producer = s.reports.producer ∧
    (s.takeTransaction n b o).reports.consumer = s.reports.consumer ∧
    (s.takeTransaction n b o).reports.producerInMemory = s.reports.producerInMemory ∧
    (s.takeTransaction n b o).reports.interrupt = s.reports.interrupt ∧
    (s.takeTransaction n b o).stills = s.stills ∧ (s.takeTransaction n b o).bus.tail = s.bus.tail ∧
    (s.takeTransaction n b o).bus.lastStart = s.bus.lastStart ∧
    (s.takeTransaction n b o).bus.idleScan = s.bus.idleScan ∧
    (s.takeTransaction n b o).bus.startHeld = s.bus.startHeld ∧ (s.takeTransaction n b o).slotNode = s.slotNode ∧
    (s.takeTransaction n b o).shutdown.shipLoop = s.shutdown.shipLoop ∧
    (s.takeTransaction n b o).shutdown.tankAlarm = s.shutdown.tankAlarm := by
  unfold Device.takeTransaction; (try dsimp only); (repeat' split) <;> simp

@[simp] theorem Device.takeRemote_keeps (s : Device) (b : Node) (o : SlotOutcome) :
    (s.takeRemote b o).time = s.time ∧ (s.takeRemote b o).half = s.half ∧ (s.takeRemote b o).strap = s.strap ∧
    (s.takeRemote b o).port = s.port ∧ (s.takeRemote b o).jobs = s.jobs ∧
    (s.takeRemote b o).requests = s.requests ∧ (s.takeRemote b o).tanks = s.tanks ∧
    (s.takeRemote b o).shutdown = s.shutdown ∧ (s.takeRemote b o).charter = s.charter ∧
    (s.takeRemote b o).reports.usable = s.reports.usable ∧
    (s.takeRemote b o).reports.producer = s.reports.producer ∧
    (s.takeRemote b o).reports.consumer = s.reports.consumer ∧
    (s.takeRemote b o).reports.producerInMemory = s.reports.producerInMemory ∧
    (s.takeRemote b o).reports.interrupt = s.reports.interrupt ∧ (s.takeRemote b o).stills = s.stills ∧
    (s.takeRemote b o).valves = s.valves ∧ (s.takeRemote b o).bus.mode = s.bus.mode ∧
    (s.takeRemote b o).bus.tail = s.bus.tail ∧ (s.takeRemote b o).bus.lastStart = s.bus.lastStart ∧
    (s.takeRemote b o).bus.idleScan = s.bus.idleScan ∧ (s.takeRemote b o).bus.startHeld = s.bus.startHeld ∧
    (s.takeRemote b o).slotNode = s.slotNode := by
  unfold Device.takeRemote; (try dsimp only); (repeat' split) <;> simp

@[simp] theorem Device.handReading_keeps (s : Device) (n : NodeNo) (o : SlotOutcome) :
    (s.handReading n o).time = s.time ∧ (s.handReading n o).half = s.half ∧ (s.handReading n o).strap = s.strap ∧
    (s.handReading n o).port = s.port ∧ (s.handReading n o).jobs = s.jobs ∧
    (s.handReading n o).requests = s.requests ∧ (s.handReading n o).charter = s.charter ∧
    (s.handReading n o).reports.usable = s.reports.usable ∧
    (s.handReading n o).reports.producer = s.reports.producer ∧
    (s.handReading n o).reports.consumer = s.reports.consumer ∧
    (s.handReading n o).reports.producerInMemory = s.reports.producerInMemory ∧
    (s.handReading n o).reports.interrupt = s.reports.interrupt ∧ (s.handReading n o).stills = s.stills ∧
    (s.handReading n o).valves = s.valves ∧ (s.handReading n o).bus.tail = s.bus.tail ∧
    (s.handReading n o).bus.lastStart = s.bus.lastStart ∧ (s.handReading n o).bus.idleScan = s.bus.idleScan ∧
    (s.handReading n o).bus.startHeld = s.bus.startHeld ∧ (s.handReading n o).slotNode = s.slotNode ∧
    (s.handReading n o).shutdown.shipLoop = s.shutdown.shipLoop ∧
    (s.handReading n o).shutdown.tankAlarm = s.shutdown.tankAlarm ∧
    (s.handReading n o).shutdown.valveAlarm = s.shutdown.valveAlarm := by
  unfold Device.handReading; (try dsimp only); (repeat' split) <;> simp

@[simp] theorem Device.evaluateSlot_keeps (s : Device) (n : NodeNo) (o : SlotOutcome) :
    (s.evaluateSlot n o).time = s.time ∧ (s.evaluateSlot n o).half = s.half ∧
    (s.evaluateSlot n o).strap = s.strap ∧ (s.evaluateSlot n o).port = s.port ∧
    (s.evaluateSlot n o).jobs = s.jobs ∧ (s.evaluateSlot n o).requests = s.requests ∧
    (s.evaluateSlot n o).charter = s.charter ∧ (s.evaluateSlot n o).reports.usable = s.reports.usable ∧
    (s.evaluateSlot n o).reports.producer = s.reports.producer ∧
    (s.evaluateSlot n o).reports.consumer = s.reports.consumer ∧
    (s.evaluateSlot n o).reports.producerInMemory = s.reports.producerInMemory ∧
    (s.evaluateSlot n o).reports.interrupt = s.reports.interrupt ∧ (s.evaluateSlot n o).bus.tail = s.bus.tail ∧
    (s.evaluateSlot n o).bus.lastStart = s.bus.lastStart ∧ (s.evaluateSlot n o).bus.idleScan = s.bus.idleScan ∧
    (s.evaluateSlot n o).bus.startHeld = s.bus.startHeld ∧ (s.evaluateSlot n o).slotNode = s.slotNode ∧
    (s.evaluateSlot n o).shutdown.shipLoop = s.shutdown.shipLoop ∧
    (s.evaluateSlot n o).shutdown.tankAlarm = s.shutdown.tankAlarm := by
  unfold Device.evaluateSlot; (try dsimp only); (repeat' split) <;> simp

/-! ## Frames and the bus mode (R104, R105, R114 to R117) -/

@[simp] theorem Device.beginSlot_keeps (s : Device) (n : NodeNo) :
    (s.beginSlot n).time = s.time ∧ (s.beginSlot n).half = s.half ∧ (s.beginSlot n).strap = s.strap ∧
    (s.beginSlot n).port = s.port ∧ (s.beginSlot n).jobs = s.jobs ∧ (s.beginSlot n).marks = s.marks ∧
    (s.beginSlot n).requests = s.requests ∧ (s.beginSlot n).reports = s.reports ∧ (s.beginSlot n).lines = s.lines ∧
    (s.beginSlot n).memory = s.memory ∧ (s.beginSlot n).governors = s.governors ∧ (s.beginSlot n).hoses = s.hoses ∧
    (s.beginSlot n).tanks = s.tanks ∧ (s.beginSlot n).topOffs = s.topOffs ∧ (s.beginSlot n).shutdown = s.shutdown ∧
    (s.beginSlot n).nodes = s.nodes ∧ (s.beginSlot n).targets = s.targets ∧ (s.beginSlot n).link = s.link ∧
    (s.beginSlot n).charter = s.charter ∧ (s.beginSlot n).stills = s.stills ∧ (s.beginSlot n).valves = s.valves ∧
    (s.beginSlot n).bus.mode = s.bus.mode ∧ (s.beginSlot n).bus.tail = s.bus.tail ∧
    (s.beginSlot n).bus.lastStart = s.bus.lastStart ∧ (s.beginSlot n).bus.idleScan = s.bus.idleScan ∧
    (s.beginSlot n).bus.startHeld = s.bus.startHeld := by
  exact ⟨rfl, rfl, rfl, rfl, rfl, rfl, rfl, rfl, rfl, rfl, rfl, rfl, rfl, rfl, rfl, rfl, rfl, rfl, rfl, rfl, rfl, rfl, rfl, rfl, rfl, rfl⟩

@[simp] theorem Device.endFrame_keeps (s : Device) :
    (s.endFrame).time = s.time ∧ (s.endFrame).half = s.half ∧ (s.endFrame).strap = s.strap ∧
    (s.endFrame).port = s.port ∧ (s.endFrame).jobs = s.jobs ∧ (s.endFrame).marks = s.marks ∧
    (s.endFrame).requests = s.requests ∧ (s.endFrame).reports = s.reports ∧ (s.endFrame).lines = s.lines ∧
    (s.endFrame).memory = s.memory ∧ (s.endFrame).governors = s.governors ∧ (s.endFrame).hoses = s.hoses ∧
    (s.endFrame).tanks = s.tanks ∧ (s.endFrame).topOffs = s.topOffs ∧ (s.endFrame).shutdown = s.shutdown ∧
    (s.endFrame).nodes = s.nodes ∧ (s.endFrame).targets = s.targets ∧ (s.endFrame).link = s.link ∧
    (s.endFrame).charter = s.charter ∧ (s.endFrame).stills = s.stills ∧ (s.endFrame).valves = s.valves ∧
    (s.endFrame).bus.lastStart = s.bus.lastStart ∧ (s.endFrame).bus.startHeld = s.bus.startHeld ∧
    (s.endFrame).bus.mode = s.bus.mode := by
  unfold Device.endFrame; dsimp only; split <;> exact ⟨rfl, rfl, rfl, rfl, rfl, rfl, rfl, rfl, rfl, rfl, rfl, rfl, rfl, rfl, rfl, rfl, rfl, rfl, rfl, rfl, rfl, rfl, rfl, rfl⟩

@[simp] theorem Device.afterSlot_keeps (s : Device) (n : NodeNo) :
    (s.afterSlot n).time = s.time ∧ (s.afterSlot n).half = s.half ∧ (s.afterSlot n).strap = s.strap ∧
    (s.afterSlot n).port = s.port ∧ (s.afterSlot n).jobs = s.jobs ∧ (s.afterSlot n).marks = s.marks ∧
    (s.afterSlot n).requests = s.requests ∧ (s.afterSlot n).reports = s.reports ∧ (s.afterSlot n).lines = s.lines ∧
    (s.afterSlot n).memory = s.memory ∧ (s.afterSlot n).governors = s.governors ∧ (s.afterSlot n).hoses = s.hoses ∧
    (s.afterSlot n).tanks = s.tanks ∧ (s.afterSlot n).topOffs = s.topOffs ∧ (s.afterSlot n).shutdown = s.shutdown ∧
    (s.afterSlot n).nodes = s.nodes ∧ (s.afterSlot n).targets = s.targets ∧ (s.afterSlot n).link = s.link ∧
    (s.afterSlot n).charter = s.charter ∧ (s.afterSlot n).stills = s.stills ∧ (s.afterSlot n).valves = s.valves ∧
    (s.afterSlot n).bus.lastStart = s.bus.lastStart ∧ (s.afterSlot n).bus.startHeld = s.bus.startHeld ∧
    (s.afterSlot n).bus.mode = s.bus.mode := by
  unfold Device.afterSlot; (try dsimp only); (repeat' split) <;> simp

@[simp] theorem Device.startFrame_keeps (s : Device) :
    (s.startFrame).time = s.time ∧ (s.startFrame).half = s.half ∧ (s.startFrame).strap = s.strap ∧
    (s.startFrame).port = s.port ∧ (s.startFrame).jobs = s.jobs ∧ (s.startFrame).marks = s.marks ∧
    (s.startFrame).requests = s.requests ∧ (s.startFrame).reports = s.reports ∧ (s.startFrame).lines = s.lines ∧
    (s.startFrame).memory = s.memory ∧ (s.startFrame).governors = s.governors ∧ (s.startFrame).hoses = s.hoses ∧
    (s.startFrame).tanks = s.tanks ∧ (s.startFrame).topOffs = s.topOffs ∧ (s.startFrame).shutdown = s.shutdown ∧
    (s.startFrame).nodes = s.nodes ∧ (s.startFrame).targets = s.targets ∧ (s.startFrame).link = s.link ∧
    (s.startFrame).charter = s.charter ∧ (s.startFrame).stills = s.stills ∧ (s.startFrame).valves = s.valves ∧
    (s.startFrame).bus.mode = s.bus.mode := by
  unfold Device.startFrame; dsimp only; split <;> simp <;> exact ⟨rfl, rfl⟩

@[simp] theorem Device.requestFrame_keeps (s : Device) :
    (s.requestFrame).time = s.time ∧ (s.requestFrame).half = s.half ∧ (s.requestFrame).strap = s.strap ∧
    (s.requestFrame).port = s.port ∧ (s.requestFrame).jobs = s.jobs ∧ (s.requestFrame).marks = s.marks ∧
    (s.requestFrame).requests = s.requests ∧ (s.requestFrame).reports = s.reports ∧
    (s.requestFrame).lines = s.lines ∧ (s.requestFrame).memory = s.memory ∧
    (s.requestFrame).governors = s.governors ∧ (s.requestFrame).hoses = s.hoses ∧
    (s.requestFrame).tanks = s.tanks ∧ (s.requestFrame).topOffs = s.topOffs ∧
    (s.requestFrame).shutdown = s.shutdown ∧ (s.requestFrame).nodes = s.nodes ∧
    (s.requestFrame).targets = s.targets ∧ (s.requestFrame).link = s.link ∧ (s.requestFrame).charter = s.charter ∧
    (s.requestFrame).stills = s.stills ∧ (s.requestFrame).valves = s.valves ∧ (s.requestFrame).bus.mode = s.bus.mode := by
  unfold Device.requestFrame; split
  · simp
  · exact ⟨rfl, rfl, rfl, rfl, rfl, rfl, rfl, rfl, rfl, rfl, rfl, rfl, rfl, rfl, rfl, rfl, rfl, rfl, rfl, rfl, rfl, rfl⟩

@[simp] theorem Device.startDueFrame_keeps (s : Device) :
    (s.startDueFrame).time = s.time ∧ (s.startDueFrame).half = s.half ∧ (s.startDueFrame).strap = s.strap ∧
    (s.startDueFrame).port = s.port ∧ (s.startDueFrame).jobs = s.jobs ∧ (s.startDueFrame).marks = s.marks ∧
    (s.startDueFrame).requests = s.requests ∧ (s.startDueFrame).reports = s.reports ∧
    (s.startDueFrame).lines = s.lines ∧ (s.startDueFrame).memory = s.memory ∧
    (s.startDueFrame).governors = s.governors ∧ (s.startDueFrame).hoses = s.hoses ∧
    (s.startDueFrame).tanks = s.tanks ∧ (s.startDueFrame).topOffs = s.topOffs ∧
    (s.startDueFrame).shutdown = s.shutdown ∧ (s.startDueFrame).nodes = s.nodes ∧
    (s.startDueFrame).targets = s.targets ∧ (s.startDueFrame).link = s.link ∧
    (s.startDueFrame).charter = s.charter ∧ (s.startDueFrame).stills = s.stills ∧
    (s.startDueFrame).valves = s.valves ∧ (s.startDueFrame).bus.mode = s.bus.mode := by
  unfold Device.startDueFrame; split
  · simp; exact ⟨rfl, rfl⟩
  · exact ⟨rfl, rfl, rfl, rfl, rfl, rfl, rfl, rfl, rfl, rfl, rfl, rfl, rfl, rfl, rfl, rfl, rfl, rfl, rfl, rfl, rfl, rfl⟩

@[simp] theorem Device.slotResult_keeps (s : Device) (x : SlotSeen) :
    (s.slotResult x).time = s.time ∧ (s.slotResult x).half = s.half ∧ (s.slotResult x).strap = s.strap ∧
    (s.slotResult x).port = s.port ∧ (s.slotResult x).jobs = s.jobs ∧ (s.slotResult x).requests = s.requests ∧
    (s.slotResult x).charter = s.charter ∧ (s.slotResult x).reports.usable = s.reports.usable ∧
    (s.slotResult x).reports.producer = s.reports.producer ∧
    (s.slotResult x).reports.consumer = s.reports.consumer ∧
    (s.slotResult x).reports.producerInMemory = s.reports.producerInMemory ∧
    (s.slotResult x).reports.interrupt = s.reports.interrupt ∧
    (s.slotResult x).shutdown.shipLoop = s.shutdown.shipLoop ∧
    (s.slotResult x).shutdown.tankAlarm = s.shutdown.tankAlarm := by
  unfold Device.slotResult; (try dsimp only); (repeat' split) <;> simp

@[simp] theorem Device.frameStart_keeps (s : Device) :
    (s.frameStart).time = s.time ∧ (s.frameStart).half = s.half ∧ (s.frameStart).strap = s.strap ∧
    (s.frameStart).port = s.port ∧ (s.frameStart).jobs = s.jobs ∧ (s.frameStart).marks = s.marks ∧
    (s.frameStart).requests = s.requests ∧ (s.frameStart).reports = s.reports ∧ (s.frameStart).lines = s.lines ∧
    (s.frameStart).memory = s.memory ∧ (s.frameStart).governors = s.governors ∧ (s.frameStart).hoses = s.hoses ∧
    (s.frameStart).tanks = s.tanks ∧ (s.frameStart).topOffs = s.topOffs ∧ (s.frameStart).shutdown = s.shutdown ∧
    (s.frameStart).nodes = s.nodes ∧ (s.frameStart).targets = s.targets ∧ (s.frameStart).link = s.link ∧
    (s.frameStart).charter = s.charter ∧ (s.frameStart).stills = s.stills ∧ (s.frameStart).valves = s.valves ∧
    (s.frameStart).bus.mode = s.bus.mode := by
  unfold Device.frameStart; (try dsimp only); (repeat' split) <;> simp

@[simp] theorem Device.idleScanExpired_keeps (s : Device) :
    (s.idleScanExpired).time = s.time ∧ (s.idleScanExpired).half = s.half ∧ (s.idleScanExpired).strap = s.strap ∧
    (s.idleScanExpired).port = s.port ∧ (s.idleScanExpired).jobs = s.jobs ∧ (s.idleScanExpired).marks = s.marks ∧
    (s.idleScanExpired).requests = s.requests ∧ (s.idleScanExpired).reports = s.reports ∧
    (s.idleScanExpired).lines = s.lines ∧ (s.idleScanExpired).memory = s.memory ∧
    (s.idleScanExpired).governors = s.governors ∧ (s.idleScanExpired).hoses = s.hoses ∧
    (s.idleScanExpired).tanks = s.tanks ∧ (s.idleScanExpired).topOffs = s.topOffs ∧
    (s.idleScanExpired).shutdown = s.shutdown ∧ (s.idleScanExpired).nodes = s.nodes ∧
    (s.idleScanExpired).targets = s.targets ∧ (s.idleScanExpired).link = s.link ∧
    (s.idleScanExpired).charter = s.charter ∧ (s.idleScanExpired).stills = s.stills ∧
    (s.idleScanExpired).valves = s.valves ∧ (s.idleScanExpired).bus.mode = s.bus.mode := by
  unfold Device.idleScanExpired; split <;> simp

@[simp] theorem Device.busPull_keeps (s : Device) :
    (s.busPull).time = s.time ∧ (s.busPull).half = s.half ∧ (s.busPull).strap = s.strap ∧
    (s.busPull).port = s.port ∧ (s.busPull).jobs = s.jobs ∧ (s.busPull).marks = s.marks ∧
    (s.busPull).requests = s.requests ∧ (s.busPull).reports = s.reports ∧ (s.busPull).lines = s.lines ∧
    (s.busPull).memory = s.memory ∧ (s.busPull).governors = s.governors ∧ (s.busPull).hoses = s.hoses ∧
    (s.busPull).tanks = s.tanks ∧ (s.busPull).topOffs = s.topOffs ∧ (s.busPull).shutdown = s.shutdown ∧
    (s.busPull).nodes = s.nodes ∧ (s.busPull).targets = s.targets ∧ (s.busPull).link = s.link ∧
    (s.busPull).charter = s.charter ∧ (s.busPull).stills = s.stills ∧ (s.busPull).valves = s.valves ∧
    (s.busPull).bus.mode = s.bus.mode := by
  unfold Device.busPull; (try dsimp only); (repeat' split) <;> simp

/-! ## The ship link (spec/08) -/

@[simp] theorem Device.permitEffect_keeps (s : Device) (l : Line) (p : Permit) :
    (s.permitEffect l p).time = s.time ∧ (s.permitEffect l p).half = s.half ∧
    (s.permitEffect l p).strap = s.strap ∧ (s.permitEffect l p).port = s.port ∧
    (s.permitEffect l p).jobs = s.jobs ∧ (s.permitEffect l p).requests = s.requests ∧
    (s.permitEffect l p).shutdown = s.shutdown ∧ (s.permitEffect l p).charter = s.charter ∧
    (s.permitEffect l p).reports.usable = s.reports.usable ∧
    (s.permitEffect l p).reports.producer = s.reports.producer ∧
    (s.permitEffect l p).reports.consumer = s.reports.consumer ∧
    (s.permitEffect l p).reports.producerInMemory = s.reports.producerInMemory ∧
    (s.permitEffect l p).reports.interrupt = s.reports.interrupt ∧ (s.permitEffect l p).stills = s.stills ∧
    (s.permitEffect l p).valves = s.valves ∧ (s.permitEffect l p).bus.tail = s.bus.tail ∧
    (s.permitEffect l p).bus.lastStart = s.bus.lastStart ∧ (s.permitEffect l p).bus.idleScan = s.bus.idleScan ∧
    (s.permitEffect l p).bus.startHeld = s.bus.startHeld ∧ (s.permitEffect l p).slotNode = s.slotNode := by
  unfold Device.permitEffect; (try dsimp only); (repeat' split) <;> simp

@[simp] theorem Device.reportBack_keeps (s : Device) (k : LinkState) (t : Option Time) :
    (s.reportBack k t).time = s.time ∧ (s.reportBack k t).half = s.half ∧ (s.reportBack k t).strap = s.strap ∧
    (s.reportBack k t).port = s.port ∧ (s.reportBack k t).jobs = s.jobs ∧
    (s.reportBack k t).requests = s.requests ∧ (s.reportBack k t).lines = s.lines ∧
    (s.reportBack k t).memory = s.memory ∧ (s.reportBack k t).governors = s.governors ∧
    (s.reportBack k t).hoses = s.hoses ∧ (s.reportBack k t).tanks = s.tanks ∧
    (s.reportBack k t).topOffs = s.topOffs ∧ (s.reportBack k t).shutdown = s.shutdown ∧
    (s.reportBack k t).nodes = s.nodes ∧ (s.reportBack k t).targets = s.targets ∧ (s.reportBack k t).bus = s.bus ∧
    (s.reportBack k t).link = s.link ∧ (s.reportBack k t).charter = s.charter ∧
    (s.reportBack k t).reports.usable = s.reports.usable ∧
    (s.reportBack k t).reports.producer = s.reports.producer ∧
    (s.reportBack k t).reports.consumer = s.reports.consumer ∧
    (s.reportBack k t).reports.producerInMemory = s.reports.producerInMemory ∧
    (s.reportBack k t).reports.interrupt = s.reports.interrupt ∧ (s.reportBack k t).stills = s.stills ∧
    (s.reportBack k t).valves = s.valves ∧ (s.reportBack k t).slotNode = s.slotNode := by
  unfold Device.reportBack; (try dsimp only); (repeat' split) <;> simp

@[simp] theorem Device.storeStatus_keeps (s : Device) (x : PerLine LineStatus) :
    (s.storeStatus x).time = s.time ∧ (s.storeStatus x).half = s.half ∧ (s.storeStatus x).strap = s.strap ∧
    (s.storeStatus x).port = s.port ∧ (s.storeStatus x).jobs = s.jobs ∧ (s.storeStatus x).requests = s.requests ∧
    (s.storeStatus x).lines = s.lines ∧ (s.storeStatus x).memory = s.memory ∧
    (s.storeStatus x).governors = s.governors ∧ (s.storeStatus x).hoses = s.hoses ∧
    (s.storeStatus x).tanks = s.tanks ∧ (s.storeStatus x).topOffs = s.topOffs ∧
    (s.storeStatus x).shutdown = s.shutdown ∧ (s.storeStatus x).nodes = s.nodes ∧
    (s.storeStatus x).targets = s.targets ∧ (s.storeStatus x).bus = s.bus ∧ (s.storeStatus x).charter = s.charter ∧
    (s.storeStatus x).reports.usable = s.reports.usable ∧ (s.storeStatus x).reports.producer = s.reports.producer ∧
    (s.storeStatus x).reports.consumer = s.reports.consumer ∧
    (s.storeStatus x).reports.producerInMemory = s.reports.producerInMemory ∧
    (s.storeStatus x).reports.interrupt = s.reports.interrupt ∧ (s.storeStatus x).stills = s.stills ∧
    (s.storeStatus x).valves = s.valves ∧ (s.storeStatus x).slotNode = s.slotNode := by
  unfold Device.storeStatus; (try dsimp only); (repeat' split) <;> simp

@[simp] theorem Device.permitEffects_keeps (s : Device) (st : PerLine LineStatus) :
    (s.forLines (fun l s => s.permitEffect l (st.get l).permit)).time = s.time ∧
    (s.forLines (fun l s => s.permitEffect l (st.get l).permit)).half = s.half ∧
    (s.forLines (fun l s => s.permitEffect l (st.get l).permit)).strap = s.strap ∧
    (s.forLines (fun l s => s.permitEffect l (st.get l).permit)).port = s.port ∧
    (s.forLines (fun l s => s.permitEffect l (st.get l).permit)).jobs = s.jobs ∧
    (s.forLines (fun l s => s.permitEffect l (st.get l).permit)).requests = s.requests ∧
    (s.forLines (fun l s => s.permitEffect l (st.get l).permit)).shutdown = s.shutdown ∧
    (s.forLines (fun l s => s.permitEffect l (st.get l).permit)).charter = s.charter ∧
    (s.forLines (fun l s => s.permitEffect l (st.get l).permit)).reports.usable = s.reports.usable ∧
    (s.forLines (fun l s => s.permitEffect l (st.get l).permit)).reports.producer = s.reports.producer ∧
    (s.forLines (fun l s => s.permitEffect l (st.get l).permit)).reports.consumer = s.reports.consumer ∧
    (s.forLines (fun l s => s.permitEffect l (st.get l).permit)).reports.producerInMemory = s.reports.producerInMemory ∧
    (s.forLines (fun l s => s.permitEffect l (st.get l).permit)).reports.interrupt = s.reports.interrupt ∧
    (s.forLines (fun l s => s.permitEffect l (st.get l).permit)).stills = s.stills ∧
    (s.forLines (fun l s => s.permitEffect l (st.get l).permit)).valves = s.valves ∧
    (s.forLines (fun l s => s.permitEffect l (st.get l).permit)).bus.tail = s.bus.tail ∧
    (s.forLines (fun l s => s.permitEffect l (st.get l).permit)).bus.lastStart = s.bus.lastStart ∧
    (s.forLines (fun l s => s.permitEffect l (st.get l).permit)).bus.idleScan = s.bus.idleScan ∧
    (s.forLines (fun l s => s.permitEffect l (st.get l).permit)).bus.startHeld = s.bus.startHeld ∧
    (s.forLines (fun l s => s.permitEffect l (st.get l).permit)).slotNode = s.slotNode := by
  unfold Device.forLines; simp

@[simp] theorem Device.startTests_keeps (s : Device) :
    (s.forLines (fun l s => s.startTest l)).time = s.time ∧ (s.forLines (fun l s => s.startTest l)).half = s.half ∧
    (s.forLines (fun l s => s.startTest l)).strap = s.strap ∧
    (s.forLines (fun l s => s.startTest l)).port = s.port ∧ (s.forLines (fun l s => s.startTest l)).jobs = s.jobs ∧
    (s.forLines (fun l s => s.startTest l)).requests = s.requests ∧
    (s.forLines (fun l s => s.startTest l)).memory = s.memory ∧
    (s.forLines (fun l s => s.startTest l)).tanks = s.tanks ∧
    (s.forLines (fun l s => s.startTest l)).shutdown = s.shutdown ∧
    (s.forLines (fun l s => s.startTest l)).charter = s.charter ∧
    (s.forLines (fun l s => s.startTest l)).reports.usable = s.reports.usable ∧
    (s.forLines (fun l s => s.startTest l)).reports.producer = s.reports.producer ∧
    (s.forLines (fun l s => s.startTest l)).reports.consumer = s.reports.consumer ∧
    (s.forLines (fun l s => s.startTest l)).reports.producerInMemory = s.reports.producerInMemory ∧
    (s.forLines (fun l s => s.startTest l)).reports.interrupt = s.reports.interrupt ∧
    (s.forLines (fun l s => s.startTest l)).stills = s.stills ∧
    (s.forLines (fun l s => s.startTest l)).valves = s.valves ∧
    (s.forLines (fun l s => s.startTest l)).bus.mode = s.bus.mode ∧
    (s.forLines (fun l s => s.startTest l)).bus.tail = s.bus.tail ∧
    (s.forLines (fun l s => s.startTest l)).bus.lastStart = s.bus.lastStart ∧
    (s.forLines (fun l s => s.startTest l)).bus.idleScan = s.bus.idleScan ∧
    (s.forLines (fun l s => s.startTest l)).bus.startHeld = s.bus.startHeld ∧
    (s.forLines (fun l s => s.startTest l)).slotNode = s.slotNode := by
  unfold Device.forLines; simp

@[simp] theorem Device.takeStatus_keeps (s : Device) (x : PerLine LineStatus) :
    (s.takeStatus x).time = s.time ∧ (s.takeStatus x).half = s.half ∧ (s.takeStatus x).strap = s.strap ∧
    (s.takeStatus x).port = s.port ∧ (s.takeStatus x).jobs = s.jobs ∧ (s.takeStatus x).requests = s.requests ∧
    (s.takeStatus x).shutdown = s.shutdown ∧ (s.takeStatus x).charter = s.charter ∧
    (s.takeStatus x).reports.usable = s.reports.usable ∧ (s.takeStatus x).reports.producer = s.reports.producer ∧
    (s.takeStatus x).reports.consumer = s.reports.consumer ∧
    (s.takeStatus x).reports.producerInMemory = s.reports.producerInMemory ∧
    (s.takeStatus x).reports.interrupt = s.reports.interrupt ∧ (s.takeStatus x).stills = s.stills ∧
    (s.takeStatus x).valves = s.valves ∧ (s.takeStatus x).bus.tail = s.bus.tail ∧
    (s.takeStatus x).bus.lastStart = s.bus.lastStart ∧ (s.takeStatus x).bus.idleScan = s.bus.idleScan ∧
    (s.takeStatus x).bus.startHeld = s.bus.startHeld ∧ (s.takeStatus x).slotNode = s.slotNode := by
  unfold Device.takeStatus; (try dsimp only); (repeat' split) <;> simp

@[simp] theorem Device.takeFrame_keeps (s : Device) (b : List Byte) :
    (s.takeFrame b).time = s.time ∧ (s.takeFrame b).half = s.half ∧ (s.takeFrame b).strap = s.strap ∧
    (s.takeFrame b).port = s.port ∧ (s.takeFrame b).jobs = s.jobs ∧ (s.takeFrame b).requests = s.requests ∧
    (s.takeFrame b).charter = s.charter ∧ (s.takeFrame b).reports.usable = s.reports.usable ∧
    (s.takeFrame b).reports.producer = s.reports.producer ∧ (s.takeFrame b).reports.consumer = s.reports.consumer ∧
    (s.takeFrame b).reports.producerInMemory = s.reports.producerInMemory ∧
    (s.takeFrame b).reports.interrupt = s.reports.interrupt ∧ (s.takeFrame b).stills = s.stills ∧
    (s.takeFrame b).valves = s.valves ∧ (s.takeFrame b).bus.tail = s.bus.tail ∧
    (s.takeFrame b).bus.lastStart = s.bus.lastStart ∧ (s.takeFrame b).bus.idleScan = s.bus.idleScan ∧
    (s.takeFrame b).bus.startHeld = s.bus.startHeld ∧ (s.takeFrame b).slotNode = s.slotNode ∧
    (s.takeFrame b).shutdown.shipLoop = s.shutdown.shipLoop ∧
    (s.takeFrame b).shutdown.valveAlarm = s.shutdown.valveAlarm := by
  unfold Device.takeFrame; (try dsimp only); (repeat' split) <;> simp

@[simp] theorem Device.setPartial_keeps (s : Device) (p : Option PartialFrame) :
    (s.setPartial p).time = s.time ∧ (s.setPartial p).half = s.half ∧ (s.setPartial p).strap = s.strap ∧
    (s.setPartial p).port = s.port ∧ (s.setPartial p).jobs = s.jobs ∧ (s.setPartial p).marks = s.marks ∧
    (s.setPartial p).requests = s.requests ∧ (s.setPartial p).reports = s.reports ∧
    (s.setPartial p).lines = s.lines ∧ (s.setPartial p).memory = s.memory ∧
    (s.setPartial p).governors = s.governors ∧ (s.setPartial p).hoses = s.hoses ∧
    (s.setPartial p).tanks = s.tanks ∧ (s.setPartial p).topOffs = s.topOffs ∧
    (s.setPartial p).shutdown = s.shutdown ∧ (s.setPartial p).nodes = s.nodes ∧
    (s.setPartial p).targets = s.targets ∧ (s.setPartial p).bus = s.bus ∧ (s.setPartial p).charter = s.charter ∧
    (s.setPartial p).stills = s.stills ∧ (s.setPartial p).valves = s.valves ∧ (s.setPartial p).slotNode = s.slotNode := by
  exact ⟨rfl, rfl, rfl, rfl, rfl, rfl, rfl, rfl, rfl, rfl, rfl, rfl, rfl, rfl, rfl, rfl, rfl, rfl, rfl, rfl, rfl, rfl⟩

@[simp] theorem Device.takeByte_keeps (s : Device) (b : Byte) :
    (s.takeByte b).time = s.time ∧ (s.takeByte b).half = s.half ∧ (s.takeByte b).strap = s.strap ∧
    (s.takeByte b).port = s.port ∧ (s.takeByte b).jobs = s.jobs ∧ (s.takeByte b).requests = s.requests ∧
    (s.takeByte b).charter = s.charter ∧ (s.takeByte b).reports.usable = s.reports.usable ∧
    (s.takeByte b).reports.producer = s.reports.producer ∧ (s.takeByte b).reports.consumer = s.reports.consumer ∧
    (s.takeByte b).reports.producerInMemory = s.reports.producerInMemory ∧
    (s.takeByte b).reports.interrupt = s.reports.interrupt ∧ (s.takeByte b).stills = s.stills ∧
    (s.takeByte b).valves = s.valves ∧ (s.takeByte b).bus.tail = s.bus.tail ∧
    (s.takeByte b).bus.lastStart = s.bus.lastStart ∧ (s.takeByte b).bus.idleScan = s.bus.idleScan ∧
    (s.takeByte b).bus.startHeld = s.bus.startHeld ∧ (s.takeByte b).slotNode = s.slotNode ∧
    (s.takeByte b).shutdown.shipLoop = s.shutdown.shipLoop ∧
    (s.takeByte b).shutdown.valveAlarm = s.shutdown.valveAlarm := by
  unfold Device.takeByte; (try dsimp only); (repeat' split) <;> simp

@[simp] theorem Device.takeBytes_keeps (s : Device) (bs : List Byte) :
    (s.takeBytes bs).time = s.time ∧ (s.takeBytes bs).half = s.half ∧ (s.takeBytes bs).strap = s.strap ∧
    (s.takeBytes bs).port = s.port ∧ (s.takeBytes bs).jobs = s.jobs ∧ (s.takeBytes bs).requests = s.requests ∧
    (s.takeBytes bs).charter = s.charter ∧ (s.takeBytes bs).reports.usable = s.reports.usable ∧
    (s.takeBytes bs).reports.producer = s.reports.producer ∧
    (s.takeBytes bs).reports.consumer = s.reports.consumer ∧
    (s.takeBytes bs).reports.producerInMemory = s.reports.producerInMemory ∧
    (s.takeBytes bs).reports.interrupt = s.reports.interrupt ∧ (s.takeBytes bs).stills = s.stills ∧
    (s.takeBytes bs).valves = s.valves ∧ (s.takeBytes bs).bus.tail = s.bus.tail ∧
    (s.takeBytes bs).bus.lastStart = s.bus.lastStart ∧ (s.takeBytes bs).bus.idleScan = s.bus.idleScan ∧
    (s.takeBytes bs).bus.startHeld = s.bus.startHeld ∧ (s.takeBytes bs).slotNode = s.slotNode ∧
    (s.takeBytes bs).shutdown.shipLoop = s.shutdown.shipLoop ∧
    (s.takeBytes bs).shutdown.valveAlarm = s.shutdown.valveAlarm := by
  induction bs generalizing s with
  | nil => simp [Device.takeBytes]
  | cons b bs ih => have h := ih (s.takeByte b); simp [Device.takeBytes, h]

@[simp] theorem Device.byteGap_keeps (s : Device) :
    (s.byteGap).time = s.time ∧ (s.byteGap).half = s.half ∧ (s.byteGap).strap = s.strap ∧
    (s.byteGap).port = s.port ∧ (s.byteGap).jobs = s.jobs ∧ (s.byteGap).marks = s.marks ∧
    (s.byteGap).requests = s.requests ∧ (s.byteGap).reports = s.reports ∧ (s.byteGap).lines = s.lines ∧
    (s.byteGap).memory = s.memory ∧ (s.byteGap).governors = s.governors ∧ (s.byteGap).hoses = s.hoses ∧
    (s.byteGap).tanks = s.tanks ∧ (s.byteGap).topOffs = s.topOffs ∧ (s.byteGap).shutdown = s.shutdown ∧
    (s.byteGap).nodes = s.nodes ∧ (s.byteGap).targets = s.targets ∧ (s.byteGap).bus = s.bus ∧
    (s.byteGap).charter = s.charter ∧ (s.byteGap).stills = s.stills ∧ (s.byteGap).valves = s.valves ∧
    (s.byteGap).slotNode = s.slotNode := by
  unfold Device.byteGap; (try dsimp only); (repeat' split) <;> simp

@[simp] theorem Device.shipSilence_keeps (s : Device) :
    (s.shipSilence).time = s.time ∧ (s.shipSilence).half = s.half ∧ (s.shipSilence).strap = s.strap ∧
    (s.shipSilence).port = s.port ∧ (s.shipSilence).jobs = s.jobs ∧ (s.shipSilence).requests = s.requests ∧
    (s.shipSilence).memory = s.memory ∧ (s.shipSilence).tanks = s.tanks ∧ (s.shipSilence).shutdown = s.shutdown ∧
    (s.shipSilence).charter = s.charter ∧ (s.shipSilence).reports.usable = s.reports.usable ∧
    (s.shipSilence).reports.producer = s.reports.producer ∧ (s.shipSilence).reports.consumer = s.reports.consumer ∧
    (s.shipSilence).reports.producerInMemory = s.reports.producerInMemory ∧
    (s.shipSilence).reports.interrupt = s.reports.interrupt ∧ (s.shipSilence).stills = s.stills ∧
    (s.shipSilence).valves = s.valves ∧ (s.shipSilence).bus.mode = s.bus.mode ∧
    (s.shipSilence).bus.tail = s.bus.tail ∧ (s.shipSilence).bus.lastStart = s.bus.lastStart ∧
    (s.shipSilence).bus.idleScan = s.bus.idleScan ∧ (s.shipSilence).bus.startHeld = s.bus.startHeld ∧
    (s.shipSilence).slotNode = s.slotNode := by
  unfold Device.shipSilence; (try dsimp only); (repeat' split) <;> simp

@[simp] theorem Device.shipLoss_keeps (s : Device) :
    (s.shipLoss).time = s.time ∧ (s.shipLoss).half = s.half ∧ (s.shipLoss).strap = s.strap ∧
    (s.shipLoss).port = s.port ∧ (s.shipLoss).jobs = s.jobs ∧ (s.shipLoss).requests = s.requests ∧
    (s.shipLoss).shutdown = s.shutdown ∧ (s.shipLoss).charter = s.charter ∧
    (s.shipLoss).reports.usable = s.reports.usable ∧ (s.shipLoss).reports.producer = s.reports.producer ∧
    (s.shipLoss).reports.consumer = s.reports.consumer ∧
    (s.shipLoss).reports.producerInMemory = s.reports.producerInMemory ∧
    (s.shipLoss).reports.interrupt = s.reports.interrupt ∧ (s.shipLoss).stills = s.stills ∧
    (s.shipLoss).valves = s.valves ∧ (s.shipLoss).bus.tail = s.bus.tail ∧
    (s.shipLoss).bus.lastStart = s.bus.lastStart ∧ (s.shipLoss).bus.idleScan = s.bus.idleScan ∧
    (s.shipLoss).bus.startHeld = s.bus.startHeld ∧ (s.shipLoss).slotNode = s.slotNode := by
  unfold Device.shipLoss; (try dsimp only); (repeat' split) <;> simp

@[simp] theorem Device.statusFallsDue_keeps (s : Device) (d : Time) :
    (s.statusFallsDue d).time = s.time ∧ (s.statusFallsDue d).half = s.half ∧
    (s.statusFallsDue d).strap = s.strap ∧ (s.statusFallsDue d).port = s.port ∧
    (s.statusFallsDue d).jobs = s.jobs ∧ (s.statusFallsDue d).requests = s.requests ∧
    (s.statusFallsDue d).reports = s.reports ∧ (s.statusFallsDue d).lines = s.lines ∧
    (s.statusFallsDue d).memory = s.memory ∧ (s.statusFallsDue d).governors = s.governors ∧
    (s.statusFallsDue d).hoses = s.hoses ∧ (s.statusFallsDue d).tanks = s.tanks ∧
    (s.statusFallsDue d).topOffs = s.topOffs ∧ (s.statusFallsDue d).shutdown = s.shutdown ∧
    (s.statusFallsDue d).nodes = s.nodes ∧ (s.statusFallsDue d).targets = s.targets ∧
    (s.statusFallsDue d).bus = s.bus ∧ (s.statusFallsDue d).charter = s.charter ∧
    (s.statusFallsDue d).stills = s.stills ∧ (s.statusFallsDue d).valves = s.valves ∧
    (s.statusFallsDue d).slotNode = s.slotNode := by
  unfold Device.statusFallsDue; (try dsimp only); (repeat' split) <;> simp

@[simp] theorem Device.frameLeft_keeps (s : Device) :
    (s.frameLeft).time = s.time ∧ (s.frameLeft).half = s.half ∧ (s.frameLeft).strap = s.strap ∧
    (s.frameLeft).port = s.port ∧ (s.frameLeft).jobs = s.jobs ∧ (s.frameLeft).requests = s.requests ∧
    (s.frameLeft).reports = s.reports ∧ (s.frameLeft).lines = s.lines ∧ (s.frameLeft).memory = s.memory ∧
    (s.frameLeft).governors = s.governors ∧ (s.frameLeft).hoses = s.hoses ∧ (s.frameLeft).tanks = s.tanks ∧
    (s.frameLeft).topOffs = s.topOffs ∧ (s.frameLeft).shutdown = s.shutdown ∧ (s.frameLeft).nodes = s.nodes ∧
    (s.frameLeft).targets = s.targets ∧ (s.frameLeft).bus = s.bus ∧ (s.frameLeft).charter = s.charter ∧
    (s.frameLeft).stills = s.stills ∧ (s.frameLeft).valves = s.valves ∧ (s.frameLeft).slotNode = s.slotNode := by
  unfold Device.frameLeft; (try dsimp only); (repeat' split) <;> simp

/-! ## The end of an event (logs 12 and 13) -/

@[simp] theorem Device.giveEntry_keeps (s : Device) (r : Report) :
    (s.giveEntry r).time = s.time ∧ (s.giveEntry r).half = s.half ∧ (s.giveEntry r).strap = s.strap ∧
    (s.giveEntry r).port = s.port ∧ (s.giveEntry r).marks = s.marks ∧ (s.giveEntry r).requests = s.requests ∧
    (s.giveEntry r).reports = s.reports ∧ (s.giveEntry r).lines = s.lines ∧ (s.giveEntry r).memory = s.memory ∧
    (s.giveEntry r).governors = s.governors ∧ (s.giveEntry r).hoses = s.hoses ∧ (s.giveEntry r).tanks = s.tanks ∧
    (s.giveEntry r).topOffs = s.topOffs ∧ (s.giveEntry r).shutdown = s.shutdown ∧ (s.giveEntry r).nodes = s.nodes ∧
    (s.giveEntry r).targets = s.targets ∧ (s.giveEntry r).bus = s.bus ∧ (s.giveEntry r).link = s.link ∧
    (s.giveEntry r).charter = s.charter ∧ (s.giveEntry r).stills = s.stills ∧ (s.giveEntry r).valves = s.valves ∧
    (s.giveEntry r).slotNode = s.slotNode ∧ (s.giveEntry r).jobs.result = s.jobs.result ∧
    (s.giveEntry r).jobs.producer = s.jobs.producer ∧ (s.giveEntry r).jobs.consumer = s.jobs.consumer ∧
    (s.giveEntry r).jobs.reads = s.jobs.reads := by
  exact ⟨rfl, rfl, rfl, rfl, rfl, rfl, rfl, rfl, rfl, rfl, rfl, rfl, rfl, rfl, rfl, rfl, rfl, rfl, rfl, rfl, rfl, rfl, rfl, rfl, rfl, rfl⟩

@[simp] theorem Device.giveOverrun_keeps (s : Device) :
    (s.giveOverrun).time = s.time ∧ (s.giveOverrun).half = s.half ∧ (s.giveOverrun).strap = s.strap ∧
    (s.giveOverrun).port = s.port ∧ (s.giveOverrun).requests = s.requests ∧ (s.giveOverrun).lines = s.lines ∧
    (s.giveOverrun).memory = s.memory ∧ (s.giveOverrun).governors = s.governors ∧ (s.giveOverrun).hoses = s.hoses ∧
    (s.giveOverrun).tanks = s.tanks ∧ (s.giveOverrun).topOffs = s.topOffs ∧ (s.giveOverrun).shutdown = s.shutdown ∧
    (s.giveOverrun).nodes = s.nodes ∧ (s.giveOverrun).targets = s.targets ∧ (s.giveOverrun).bus = s.bus ∧
    (s.giveOverrun).link = s.link ∧ (s.giveOverrun).charter = s.charter ∧
    (s.giveOverrun).reports.usable = s.reports.usable ∧ (s.giveOverrun).reports.producer = s.reports.producer ∧
    (s.giveOverrun).reports.consumer = s.reports.consumer ∧
    (s.giveOverrun).reports.producerInMemory = s.reports.producerInMemory ∧
    (s.giveOverrun).reports.interrupt = s.reports.interrupt ∧ (s.giveOverrun).stills = s.stills ∧
    (s.giveOverrun).valves = s.valves ∧ (s.giveOverrun).slotNode = s.slotNode ∧
    (s.giveOverrun).jobs.result = s.jobs.result ∧ (s.giveOverrun).jobs.producer = s.jobs.producer ∧
    (s.giveOverrun).jobs.consumer = s.jobs.consumer ∧ (s.giveOverrun).jobs.reads = s.jobs.reads := by
  exact ⟨rfl, rfl, rfl, rfl, rfl, rfl, rfl, rfl, rfl, rfl, rfl, rfl, rfl, rfl, rfl, rfl, rfl, rfl, rfl, rfl, rfl, rfl, rfl, rfl, rfl, rfl, rfl, rfl, rfl⟩

@[simp] theorem Device.giveHead_keeps (s : Device) (r : Report) (rest : List Report) :
    (s.giveHead r rest).time = s.time ∧ (s.giveHead r rest).half = s.half ∧ (s.giveHead r rest).strap = s.strap ∧
    (s.giveHead r rest).port = s.port ∧ (s.giveHead r rest).marks = s.marks ∧
    (s.giveHead r rest).requests = s.requests ∧ (s.giveHead r rest).lines = s.lines ∧
    (s.giveHead r rest).memory = s.memory ∧ (s.giveHead r rest).governors = s.governors ∧
    (s.giveHead r rest).hoses = s.hoses ∧ (s.giveHead r rest).tanks = s.tanks ∧
    (s.giveHead r rest).topOffs = s.topOffs ∧ (s.giveHead r rest).shutdown = s.shutdown ∧
    (s.giveHead r rest).nodes = s.nodes ∧ (s.giveHead r rest).targets = s.targets ∧
    (s.giveHead r rest).bus = s.bus ∧ (s.giveHead r rest).link = s.link ∧ (s.giveHead r rest).charter = s.charter ∧
    (s.giveHead r rest).reports.usable = s.reports.usable ∧
    (s.giveHead r rest).reports.producer = s.reports.producer ∧
    (s.giveHead r rest).reports.consumer = s.reports.consumer ∧
    (s.giveHead r rest).reports.producerInMemory = s.reports.producerInMemory ∧
    (s.giveHead r rest).reports.interrupt = s.reports.interrupt ∧ (s.giveHead r rest).stills = s.stills ∧
    (s.giveHead r rest).valves = s.valves ∧ (s.giveHead r rest).slotNode = s.slotNode ∧
    (s.giveHead r rest).jobs.result = s.jobs.result ∧ (s.giveHead r rest).jobs.producer = s.jobs.producer ∧
    (s.giveHead r rest).jobs.consumer = s.jobs.consumer ∧ (s.giveHead r rest).jobs.reads = s.jobs.reads := by
  exact ⟨rfl, rfl, rfl, rfl, rfl, rfl, rfl, rfl, rfl, rfl, rfl, rfl, rfl, rfl, rfl, rfl, rfl, rfl, rfl, rfl, rfl, rfl, rfl, rfl, rfl, rfl, rfl, rfl, rfl, rfl⟩

@[simp] theorem Device.dropReports_keeps (s : Device) :
    (s.dropReports).time = s.time ∧ (s.dropReports).half = s.half ∧ (s.dropReports).strap = s.strap ∧
    (s.dropReports).port = s.port ∧ (s.dropReports).jobs = s.jobs ∧ (s.dropReports).requests = s.requests ∧
    (s.dropReports).lines = s.lines ∧ (s.dropReports).memory = s.memory ∧ (s.dropReports).governors = s.governors ∧
    (s.dropReports).hoses = s.hoses ∧ (s.dropReports).tanks = s.tanks ∧ (s.dropReports).topOffs = s.topOffs ∧
    (s.dropReports).shutdown = s.shutdown ∧ (s.dropReports).nodes = s.nodes ∧ (s.dropReports).targets = s.targets ∧
    (s.dropReports).bus = s.bus ∧ (s.dropReports).link = s.link ∧ (s.dropReports).charter = s.charter ∧
    (s.dropReports).reports.usable = s.reports.usable ∧ (s.dropReports).reports.producer = s.reports.producer ∧
    (s.dropReports).reports.consumer = s.reports.consumer ∧
    (s.dropReports).reports.producerInMemory = s.reports.producerInMemory ∧
    (s.dropReports).reports.interrupt = s.reports.interrupt ∧ (s.dropReports).stills = s.stills ∧
    (s.dropReports).valves = s.valves ∧ (s.dropReports).slotNode = s.slotNode := by
  exact ⟨rfl, rfl, rfl, rfl, rfl, rfl, rfl, rfl, rfl, rfl, rfl, rfl, rfl, rfl, rfl, rfl, rfl, rfl, rfl, rfl, rfl, rfl, rfl, rfl, rfl, rfl⟩

@[simp] theorem Device.decideReport_keeps (s : Device) :
    (s.decideReport).time = s.time ∧ (s.decideReport).half = s.half ∧ (s.decideReport).strap = s.strap ∧
    (s.decideReport).port = s.port ∧ (s.decideReport).requests = s.requests ∧ (s.decideReport).lines = s.lines ∧
    (s.decideReport).memory = s.memory ∧ (s.decideReport).governors = s.governors ∧
    (s.decideReport).hoses = s.hoses ∧ (s.decideReport).tanks = s.tanks ∧ (s.decideReport).topOffs = s.topOffs ∧
    (s.decideReport).shutdown = s.shutdown ∧ (s.decideReport).nodes = s.nodes ∧
    (s.decideReport).targets = s.targets ∧ (s.decideReport).bus = s.bus ∧ (s.decideReport).link = s.link ∧
    (s.decideReport).charter = s.charter ∧ (s.decideReport).reports.usable = s.reports.usable ∧
    (s.decideReport).reports.producer = s.reports.producer ∧
    (s.decideReport).reports.consumer = s.reports.consumer ∧
    (s.decideReport).reports.producerInMemory = s.reports.producerInMemory ∧
    (s.decideReport).reports.interrupt = s.reports.interrupt ∧ (s.decideReport).stills = s.stills ∧
    (s.decideReport).valves = s.valves ∧ (s.decideReport).slotNode = s.slotNode ∧
    (s.decideReport).jobs.result = s.jobs.result ∧ (s.decideReport).jobs.producer = s.jobs.producer ∧
    (s.decideReport).jobs.consumer = s.jobs.consumer ∧ (s.decideReport).jobs.reads = s.jobs.reads := by
  unfold Device.decideReport; (try dsimp only); (repeat' split) <;> simp

@[simp] theorem Device.finish_keeps (s : Device) :
    (s.finish).time = s.time ∧ (s.finish).half = s.half ∧ (s.finish).strap = s.strap ∧ (s.finish).port = s.port ∧
    (s.finish).requests = s.requests ∧ (s.finish).lines = s.lines ∧ (s.finish).memory = s.memory ∧
    (s.finish).governors = s.governors ∧ (s.finish).hoses = s.hoses ∧ (s.finish).tanks = s.tanks ∧
    (s.finish).topOffs = s.topOffs ∧ (s.finish).shutdown = s.shutdown ∧ (s.finish).nodes = s.nodes ∧
    (s.finish).targets = s.targets ∧ (s.finish).link = s.link ∧ (s.finish).charter = s.charter ∧
    (s.finish).reports.usable = s.reports.usable ∧ (s.finish).reports.producer = s.reports.producer ∧
    (s.finish).reports.consumer = s.reports.consumer ∧
    (s.finish).reports.producerInMemory = s.reports.producerInMemory ∧
    (s.finish).reports.interrupt = s.reports.interrupt ∧ (s.finish).stills = s.stills ∧
    (s.finish).valves = s.valves ∧ (s.finish).jobs.result = s.jobs.result ∧
    (s.finish).jobs.producer = s.jobs.producer ∧ (s.finish).jobs.consumer = s.jobs.consumer ∧
    (s.finish).jobs.reads = s.jobs.reads := by
  unfold Device.finish; (try dsimp only); (repeat' split) <;> simp

/-! ## The request unit (spec/10) -/

@[simp] theorem Device.askResult_keeps (s : Device) (r : Result) :
    (s.askResult r).time = s.time ∧ (s.askResult r).half = s.half ∧ (s.askResult r).strap = s.strap ∧
    (s.askResult r).port = s.port ∧ (s.askResult r).marks = s.marks ∧ (s.askResult r).reports = s.reports ∧
    (s.askResult r).lines = s.lines ∧ (s.askResult r).memory = s.memory ∧ (s.askResult r).governors = s.governors ∧
    (s.askResult r).hoses = s.hoses ∧ (s.askResult r).tanks = s.tanks ∧ (s.askResult r).topOffs = s.topOffs ∧
    (s.askResult r).shutdown = s.shutdown ∧ (s.askResult r).nodes = s.nodes ∧ (s.askResult r).targets = s.targets ∧
    (s.askResult r).bus = s.bus ∧ (s.askResult r).link = s.link ∧ (s.askResult r).charter = s.charter ∧
    (s.askResult r).stills = s.stills ∧ (s.askResult r).valves = s.valves ∧ (s.askResult r).slotNode = s.slotNode ∧
    (s.askResult r).jobs.producer = s.jobs.producer ∧ (s.askResult r).jobs.consumer = s.jobs.consumer ∧
    (s.askResult r).jobs.reads = s.jobs.reads := by
  exact ⟨rfl, rfl, rfl, rfl, rfl, rfl, rfl, rfl, rfl, rfl, rfl, rfl, rfl, rfl, rfl, rfl, rfl, rfl, rfl, rfl, rfl, rfl, rfl, rfl⟩

@[simp] theorem Device.askPlan_keeps (s : Device) (l : Line) :
    (s.askPlan l).time = s.time ∧ (s.askPlan l).half = s.half ∧ (s.askPlan l).strap = s.strap ∧
    (s.askPlan l).port = s.port ∧ (s.askPlan l).marks = s.marks ∧ (s.askPlan l).reports = s.reports ∧
    (s.askPlan l).lines = s.lines ∧ (s.askPlan l).memory = s.memory ∧ (s.askPlan l).governors = s.governors ∧
    (s.askPlan l).hoses = s.hoses ∧ (s.askPlan l).tanks = s.tanks ∧ (s.askPlan l).topOffs = s.topOffs ∧
    (s.askPlan l).shutdown = s.shutdown ∧ (s.askPlan l).nodes = s.nodes ∧ (s.askPlan l).targets = s.targets ∧
    (s.askPlan l).bus = s.bus ∧ (s.askPlan l).link = s.link ∧ (s.askPlan l).charter = s.charter ∧
    (s.askPlan l).stills = s.stills ∧ (s.askPlan l).valves = s.valves ∧ (s.askPlan l).slotNode = s.slotNode ∧
    (s.askPlan l).jobs.result = s.jobs.result ∧ (s.askPlan l).jobs.producer = s.jobs.producer ∧
    (s.askPlan l).jobs.consumer = s.jobs.consumer := by
  exact ⟨rfl, rfl, rfl, rfl, rfl, rfl, rfl, rfl, rfl, rfl, rfl, rfl, rfl, rfl, rfl, rfl, rfl, rfl, rfl, rfl, rfl, rfl, rfl, rfl⟩

@[simp] theorem Device.takeHold_keeps (s : Device) (l : Line) :
    (s.takeHold l).time = s.time ∧ (s.takeHold l).half = s.half ∧ (s.takeHold l).strap = s.strap ∧
    (s.takeHold l).port = s.port ∧ (s.takeHold l).memory = s.memory ∧ (s.takeHold l).tanks = s.tanks ∧
    (s.takeHold l).shutdown = s.shutdown ∧ (s.takeHold l).charter = s.charter ∧
    (s.takeHold l).reports.usable = s.reports.usable ∧ (s.takeHold l).reports.producer = s.reports.producer ∧
    (s.takeHold l).reports.consumer = s.reports.consumer ∧
    (s.takeHold l).reports.producerInMemory = s.reports.producerInMemory ∧
    (s.takeHold l).reports.interrupt = s.reports.interrupt ∧ (s.takeHold l).stills = s.stills ∧
    (s.takeHold l).valves = s.valves ∧ (s.takeHold l).bus.mode = s.bus.mode ∧
    (s.takeHold l).bus.tail = s.bus.tail ∧ (s.takeHold l).bus.lastStart = s.bus.lastStart ∧
    (s.takeHold l).bus.idleScan = s.bus.idleScan ∧ (s.takeHold l).bus.startHeld = s.bus.startHeld ∧
    (s.takeHold l).slotNode = s.slotNode ∧ (s.takeHold l).jobs.producer = s.jobs.producer ∧
    (s.takeHold l).jobs.consumer = s.jobs.consumer ∧ (s.takeHold l).jobs.reads = s.jobs.reads := by
  unfold Device.takeHold; (try dsimp only); (repeat' split) <;> simp

@[simp] theorem Device.takeResume_keeps (s : Device) (l : Line) :
    (s.takeResume l).time = s.time ∧ (s.takeResume l).half = s.half ∧ (s.takeResume l).strap = s.strap ∧
    (s.takeResume l).port = s.port ∧ (s.takeResume l).memory = s.memory ∧ (s.takeResume l).tanks = s.tanks ∧
    (s.takeResume l).shutdown = s.shutdown ∧ (s.takeResume l).charter = s.charter ∧
    (s.takeResume l).reports.usable = s.reports.usable ∧ (s.takeResume l).reports.producer = s.reports.producer ∧
    (s.takeResume l).reports.consumer = s.reports.consumer ∧
    (s.takeResume l).reports.producerInMemory = s.reports.producerInMemory ∧
    (s.takeResume l).reports.interrupt = s.reports.interrupt ∧ (s.takeResume l).stills = s.stills ∧
    (s.takeResume l).valves = s.valves ∧ (s.takeResume l).bus.mode = s.bus.mode ∧
    (s.takeResume l).bus.tail = s.bus.tail ∧ (s.takeResume l).bus.lastStart = s.bus.lastStart ∧
    (s.takeResume l).bus.idleScan = s.bus.idleScan ∧ (s.takeResume l).bus.startHeld = s.bus.startHeld ∧
    (s.takeResume l).slotNode = s.slotNode ∧ (s.takeResume l).jobs.producer = s.jobs.producer ∧
    (s.takeResume l).jobs.consumer = s.jobs.consumer ∧ (s.takeResume l).jobs.reads = s.jobs.reads := by
  unfold Device.takeResume; (try dsimp only); (repeat' split) <;> simp

@[simp] theorem Device.takeStop_keeps (s : Device) (l : Line) (b : Bool) :
    (s.takeStop l b).time = s.time ∧ (s.takeStop l b).half = s.half ∧ (s.takeStop l b).strap = s.strap ∧
    (s.takeStop l b).port = s.port ∧ (s.takeStop l b).shutdown = s.shutdown ∧
    (s.takeStop l b).charter = s.charter ∧ (s.takeStop l b).reports.usable = s.reports.usable ∧
    (s.takeStop l b).reports.producer = s.reports.producer ∧
    (s.takeStop l b).reports.consumer = s.reports.consumer ∧
    (s.takeStop l b).reports.producerInMemory = s.reports.producerInMemory ∧
    (s.takeStop l b).reports.interrupt = s.reports.interrupt ∧ (s.takeStop l b).stills = s.stills ∧
    (s.takeStop l b).valves = s.valves ∧ (s.takeStop l b).bus.tail = s.bus.tail ∧
    (s.takeStop l b).bus.lastStart = s.bus.lastStart ∧ (s.takeStop l b).bus.idleScan = s.bus.idleScan ∧
    (s.takeStop l b).bus.startHeld = s.bus.startHeld ∧ (s.takeStop l b).slotNode = s.slotNode ∧
    (s.takeStop l b).jobs.producer = s.jobs.producer ∧ (s.takeStop l b).jobs.consumer = s.jobs.consumer ∧
    (s.takeStop l b).jobs.reads = s.jobs.reads := by
  unfold Device.takeStop; (try dsimp only); (repeat' split) <;> simp

@[simp] theorem Device.takeLock_keeps (s : Device) :
    (s.takeLock).time = s.time ∧ (s.takeLock).half = s.half ∧ (s.takeLock).strap = s.strap ∧
    (s.takeLock).port = s.port ∧ (s.takeLock).reports = s.reports ∧ (s.takeLock).lines = s.lines ∧
    (s.takeLock).memory = s.memory ∧ (s.takeLock).governors = s.governors ∧ (s.takeLock).hoses = s.hoses ∧
    (s.takeLock).tanks = s.tanks ∧ (s.takeLock).topOffs = s.topOffs ∧ (s.takeLock).shutdown = s.shutdown ∧
    (s.takeLock).nodes = s.nodes ∧ (s.takeLock).targets = s.targets ∧ (s.takeLock).bus = s.bus ∧
    (s.takeLock).link = s.link ∧ (s.takeLock).stills = s.stills ∧ (s.takeLock).valves = s.valves ∧
    (s.takeLock).slotNode = s.slotNode ∧ (s.takeLock).jobs.producer = s.jobs.producer ∧
    (s.takeLock).jobs.consumer = s.jobs.consumer ∧ (s.takeLock).jobs.reads = s.jobs.reads := by
  unfold Device.takeLock; (try dsimp only); (repeat' split) <;> simp

@[simp] theorem Device.takeTrip_keeps (s : Device) :
    (s.takeTrip).time = s.time ∧ (s.takeTrip).half = s.half ∧ (s.takeTrip).strap = s.strap ∧
    (s.takeTrip).port = s.port ∧ (s.takeTrip).charter = s.charter ∧
    (s.takeTrip).reports.usable = s.reports.usable ∧ (s.takeTrip).reports.producer = s.reports.producer ∧
    (s.takeTrip).reports.consumer = s.reports.consumer ∧
    (s.takeTrip).reports.producerInMemory = s.reports.producerInMemory ∧
    (s.takeTrip).reports.interrupt = s.reports.interrupt ∧ (s.takeTrip).stills = s.stills ∧
    (s.takeTrip).valves = s.valves ∧ (s.takeTrip).bus.mode = s.bus.mode ∧ (s.takeTrip).bus.tail = s.bus.tail ∧
    (s.takeTrip).bus.lastStart = s.bus.lastStart ∧ (s.takeTrip).bus.idleScan = s.bus.idleScan ∧
    (s.takeTrip).bus.startHeld = s.bus.startHeld ∧ (s.takeTrip).slotNode = s.slotNode ∧
    (s.takeTrip).jobs.producer = s.jobs.producer ∧ (s.takeTrip).jobs.consumer = s.jobs.consumer ∧
    (s.takeTrip).jobs.reads = s.jobs.reads ∧ (s.takeTrip).shutdown.shipLoop = s.shutdown.shipLoop ∧
    (s.takeTrip).shutdown.tankAlarm = s.shutdown.tankAlarm ∧
    (s.takeTrip).shutdown.valveAlarm = s.shutdown.valveAlarm := by
  unfold Device.takeTrip; (try dsimp only); (repeat' split) <;> simp

@[simp] theorem Device.takeTripReset_keeps (s : Device) :
    (s.takeTripReset).time = s.time ∧ (s.takeTripReset).half = s.half ∧ (s.takeTripReset).strap = s.strap ∧
    (s.takeTripReset).port = s.port ∧ (s.takeTripReset).charter = s.charter ∧
    (s.takeTripReset).reports.usable = s.reports.usable ∧ (s.takeTripReset).reports.producer = s.reports.producer ∧
    (s.takeTripReset).reports.consumer = s.reports.consumer ∧
    (s.takeTripReset).reports.producerInMemory = s.reports.producerInMemory ∧
    (s.takeTripReset).reports.interrupt = s.reports.interrupt ∧ (s.takeTripReset).stills = s.stills ∧
    (s.takeTripReset).valves = s.valves ∧ (s.takeTripReset).bus.tail = s.bus.tail ∧
    (s.takeTripReset).bus.lastStart = s.bus.lastStart ∧ (s.takeTripReset).bus.idleScan = s.bus.idleScan ∧
    (s.takeTripReset).bus.startHeld = s.bus.startHeld ∧ (s.takeTripReset).slotNode = s.slotNode ∧
    (s.takeTripReset).jobs.producer = s.jobs.producer ∧ (s.takeTripReset).jobs.consumer = s.jobs.consumer ∧
    (s.takeTripReset).jobs.reads = s.jobs.reads ∧ (s.takeTripReset).shutdown.shipLoop = s.shutdown.shipLoop ∧
    (s.takeTripReset).shutdown.tankAlarm = s.shutdown.tankAlarm ∧
    (s.takeTripReset).shutdown.valveAlarm = s.shutdown.valveAlarm ∧
    (s.takeTripReset).shutdown.sequence = s.shutdown.sequence ∧
    (s.takeTripReset).shutdown.pumpDeadline = s.shutdown.pumpDeadline := by
  unfold Device.takeTripReset; (try dsimp only); (repeat' split) <;> simp

@[simp] theorem Device.takeSilence_keeps (s : Device) :
    (s.takeSilence).time = s.time ∧ (s.takeSilence).half = s.half ∧ (s.takeSilence).strap = s.strap ∧
    (s.takeSilence).port = s.port ∧ (s.takeSilence).reports = s.reports ∧ (s.takeSilence).lines = s.lines ∧
    (s.takeSilence).memory = s.memory ∧ (s.takeSilence).governors = s.governors ∧ (s.takeSilence).hoses = s.hoses ∧
    (s.takeSilence).tanks = s.tanks ∧ (s.takeSilence).topOffs = s.topOffs ∧ (s.takeSilence).nodes = s.nodes ∧
    (s.takeSilence).targets = s.targets ∧ (s.takeSilence).bus = s.bus ∧ (s.takeSilence).link = s.link ∧
    (s.takeSilence).charter = s.charter ∧ (s.takeSilence).stills = s.stills ∧ (s.takeSilence).valves = s.valves ∧
    (s.takeSilence).slotNode = s.slotNode ∧ (s.takeSilence).jobs.producer = s.jobs.producer ∧
    (s.takeSilence).jobs.consumer = s.jobs.consumer ∧ (s.takeSilence).jobs.reads = s.jobs.reads ∧
    (s.takeSilence).shutdown.shipLoop = s.shutdown.shipLoop ∧ (s.takeSilence).shutdown.latch = s.shutdown.latch ∧
    (s.takeSilence).shutdown.first = s.shutdown.first ∧ (s.takeSilence).shutdown.firstLine = s.shutdown.firstLine ∧
    (s.takeSilence).shutdown.firstSubject = s.shutdown.firstSubject ∧
    (s.takeSilence).shutdown.bargeLoop = s.shutdown.bargeLoop ∧
    (s.takeSilence).shutdown.alarmPending = s.shutdown.alarmPending ∧
    (s.takeSilence).shutdown.tankAlarm = s.shutdown.tankAlarm ∧
    (s.takeSilence).shutdown.valveAlarm = s.shutdown.valveAlarm ∧
    (s.takeSilence).shutdown.sequence = s.shutdown.sequence ∧
    (s.takeSilence).shutdown.pumpDeadline = s.shutdown.pumpDeadline := by
  unfold Device.takeSilence; (try dsimp only); (repeat' split) <;> simp

@[simp] theorem Device.setInterrupt_keeps (s : Device) :
    (s.setInterrupt).time = s.time ∧ (s.setInterrupt).half = s.half ∧ (s.setInterrupt).strap = s.strap ∧
    (s.setInterrupt).port = s.port ∧ (s.setInterrupt).jobs = s.jobs ∧ (s.setInterrupt).marks = s.marks ∧
    (s.setInterrupt).requests = s.requests ∧ (s.setInterrupt).lines = s.lines ∧
    (s.setInterrupt).memory = s.memory ∧ (s.setInterrupt).governors = s.governors ∧
    (s.setInterrupt).hoses = s.hoses ∧ (s.setInterrupt).tanks = s.tanks ∧ (s.setInterrupt).topOffs = s.topOffs ∧
    (s.setInterrupt).shutdown = s.shutdown ∧ (s.setInterrupt).nodes = s.nodes ∧
    (s.setInterrupt).targets = s.targets ∧ (s.setInterrupt).bus = s.bus ∧ (s.setInterrupt).link = s.link ∧
    (s.setInterrupt).charter = s.charter ∧ (s.setInterrupt).reports.usable = s.reports.usable ∧
    (s.setInterrupt).reports.producer = s.reports.producer ∧
    (s.setInterrupt).reports.consumer = s.reports.consumer ∧
    (s.setInterrupt).reports.producerInMemory = s.reports.producerInMemory ∧ (s.setInterrupt).stills = s.stills ∧
    (s.setInterrupt).valves = s.valves ∧ (s.setInterrupt).slotNode = s.slotNode := by
  exact ⟨rfl, rfl, rfl, rfl, rfl, rfl, rfl, rfl, rfl, rfl, rfl, rfl, rfl, rfl, rfl, rfl, rfl, rfl, rfl, rfl, rfl, rfl, rfl, rfl, rfl, rfl⟩

@[simp] theorem Device.linkEntersLoading_keeps (s : Device) :
    (s.linkEntersLoading).time = s.time ∧ (s.linkEntersLoading).half = s.half ∧
    (s.linkEntersLoading).strap = s.strap ∧ (s.linkEntersLoading).port = s.port ∧
    (s.linkEntersLoading).jobs = s.jobs ∧ (s.linkEntersLoading).requests = s.requests ∧
    (s.linkEntersLoading).reports = s.reports ∧ (s.linkEntersLoading).lines = s.lines ∧
    (s.linkEntersLoading).memory = s.memory ∧ (s.linkEntersLoading).governors = s.governors ∧
    (s.linkEntersLoading).hoses = s.hoses ∧ (s.linkEntersLoading).tanks = s.tanks ∧
    (s.linkEntersLoading).topOffs = s.topOffs ∧ (s.linkEntersLoading).shutdown = s.shutdown ∧
    (s.linkEntersLoading).nodes = s.nodes ∧ (s.linkEntersLoading).targets = s.targets ∧
    (s.linkEntersLoading).bus = s.bus ∧ (s.linkEntersLoading).charter = s.charter ∧
    (s.linkEntersLoading).stills = s.stills ∧ (s.linkEntersLoading).valves = s.valves ∧
    (s.linkEntersLoading).slotNode = s.slotNode := by
  unfold Device.linkEntersLoading; (try dsimp only); (repeat' split) <;> simp

@[simp] theorem Device.linkEntersWatch_keeps (s : Device) :
    (s.linkEntersWatch).time = s.time ∧ (s.linkEntersWatch).half = s.half ∧ (s.linkEntersWatch).strap = s.strap ∧
    (s.linkEntersWatch).port = s.port ∧ (s.linkEntersWatch).jobs = s.jobs ∧
    (s.linkEntersWatch).requests = s.requests ∧ (s.linkEntersWatch).reports = s.reports ∧
    (s.linkEntersWatch).lines = s.lines ∧ (s.linkEntersWatch).memory = s.memory ∧
    (s.linkEntersWatch).governors = s.governors ∧ (s.linkEntersWatch).hoses = s.hoses ∧
    (s.linkEntersWatch).tanks = s.tanks ∧ (s.linkEntersWatch).topOffs = s.topOffs ∧
    (s.linkEntersWatch).shutdown = s.shutdown ∧ (s.linkEntersWatch).nodes = s.nodes ∧
    (s.linkEntersWatch).targets = s.targets ∧ (s.linkEntersWatch).bus = s.bus ∧
    (s.linkEntersWatch).charter = s.charter ∧ (s.linkEntersWatch).stills = s.stills ∧
    (s.linkEntersWatch).valves = s.valves ∧ (s.linkEntersWatch).slotNode = s.slotNode := by
  unfold Device.linkEntersWatch; (try dsimp only); (repeat' split) <;> simp

@[simp] theorem Device.linkEntersPassive_keeps (s : Device) :
    (s.linkEntersPassive).time = s.time ∧ (s.linkEntersPassive).half = s.half ∧
    (s.linkEntersPassive).strap = s.strap ∧ (s.linkEntersPassive).port = s.port ∧
    (s.linkEntersPassive).jobs = s.jobs ∧ (s.linkEntersPassive).requests = s.requests ∧
    (s.linkEntersPassive).reports = s.reports ∧ (s.linkEntersPassive).lines = s.lines ∧
    (s.linkEntersPassive).memory = s.memory ∧ (s.linkEntersPassive).governors = s.governors ∧
    (s.linkEntersPassive).hoses = s.hoses ∧ (s.linkEntersPassive).tanks = s.tanks ∧
    (s.linkEntersPassive).topOffs = s.topOffs ∧ (s.linkEntersPassive).shutdown = s.shutdown ∧
    (s.linkEntersPassive).nodes = s.nodes ∧ (s.linkEntersPassive).targets = s.targets ∧
    (s.linkEntersPassive).bus = s.bus ∧ (s.linkEntersPassive).charter = s.charter ∧
    (s.linkEntersPassive).stills = s.stills ∧ (s.linkEntersPassive).valves = s.valves ∧
    (s.linkEntersPassive).slotNode = s.slotNode := by
  unfold Device.linkEntersPassive; (try dsimp only); (repeat' split) <;> simp

@[simp] theorem Device.enterLoading_keeps (s : Device) :
    (s.enterLoading).time = s.time ∧ (s.enterLoading).half = s.half ∧ (s.enterLoading).strap = s.strap ∧
    (s.enterLoading).port = s.port ∧ (s.enterLoading).requests = s.requests ∧ (s.enterLoading).lines = s.lines ∧
    (s.enterLoading).memory = s.memory ∧ (s.enterLoading).governors = s.governors ∧
    (s.enterLoading).hoses = s.hoses ∧ (s.enterLoading).topOffs = s.topOffs ∧ (s.enterLoading).nodes = s.nodes ∧
    (s.enterLoading).targets = s.targets ∧ (s.enterLoading).reports.usable = s.reports.usable ∧
    (s.enterLoading).reports.producer = s.reports.producer ∧
    (s.enterLoading).reports.consumer = s.reports.consumer ∧
    (s.enterLoading).reports.producerInMemory = s.reports.producerInMemory ∧ (s.enterLoading).stills = s.stills ∧
    (s.enterLoading).valves = s.valves ∧ (s.enterLoading).bus.tail = s.bus.tail ∧
    (s.enterLoading).bus.lastStart = s.bus.lastStart ∧ (s.enterLoading).slotNode = s.slotNode ∧
    (s.enterLoading).jobs.result = s.jobs.result ∧ (s.enterLoading).jobs.producer = s.jobs.producer ∧
    (s.enterLoading).jobs.consumer = s.jobs.consumer ∧ (s.enterLoading).shutdown.shipLoop = s.shutdown.shipLoop ∧
    (s.enterLoading).shutdown.latch = s.shutdown.latch ∧ (s.enterLoading).shutdown.first = s.shutdown.first ∧
    (s.enterLoading).shutdown.firstLine = s.shutdown.firstLine ∧
    (s.enterLoading).shutdown.firstSubject = s.shutdown.firstSubject ∧
    (s.enterLoading).shutdown.hornSounding = s.shutdown.hornSounding ∧
    (s.enterLoading).shutdown.alarmPending = s.shutdown.alarmPending ∧
    (s.enterLoading).shutdown.tankAlarm = s.shutdown.tankAlarm ∧
    (s.enterLoading).shutdown.valveAlarm = s.shutdown.valveAlarm ∧
    (s.enterLoading).shutdown.sequence = s.shutdown.sequence ∧
    (s.enterLoading).shutdown.pumpDeadline = s.shutdown.pumpDeadline := by
  unfold Device.enterLoading; simp; (try exact ⟨rfl, rfl, rfl⟩)

@[simp] theorem Device.startLoad_keeps (s : Device) :
    (s.startLoad).time = s.time ∧ (s.startLoad).half = s.half ∧ (s.startLoad).strap = s.strap ∧
    (s.startLoad).port = s.port ∧ (s.startLoad).lines = s.lines ∧ (s.startLoad).memory = s.memory ∧
    (s.startLoad).governors = s.governors ∧ (s.startLoad).hoses = s.hoses ∧ (s.startLoad).topOffs = s.topOffs ∧
    (s.startLoad).nodes = s.nodes ∧ (s.startLoad).targets = s.targets ∧
    (s.startLoad).reports.usable = s.reports.usable ∧ (s.startLoad).reports.producer = s.reports.producer ∧
    (s.startLoad).reports.consumer = s.reports.consumer ∧
    (s.startLoad).reports.producerInMemory = s.reports.producerInMemory ∧ (s.startLoad).stills = s.stills ∧
    (s.startLoad).valves = s.valves ∧ (s.startLoad).bus.tail = s.bus.tail ∧
    (s.startLoad).bus.lastStart = s.bus.lastStart ∧ (s.startLoad).slotNode = s.slotNode ∧
    (s.startLoad).jobs.result = s.jobs.result ∧ (s.startLoad).jobs.producer = s.jobs.producer ∧
    (s.startLoad).jobs.consumer = s.jobs.consumer ∧ (s.startLoad).shutdown.shipLoop = s.shutdown.shipLoop ∧
    (s.startLoad).shutdown.latch = s.shutdown.latch ∧ (s.startLoad).shutdown.first = s.shutdown.first ∧
    (s.startLoad).shutdown.firstLine = s.shutdown.firstLine ∧
    (s.startLoad).shutdown.firstSubject = s.shutdown.firstSubject ∧
    (s.startLoad).shutdown.hornSounding = s.shutdown.hornSounding ∧
    (s.startLoad).shutdown.alarmPending = s.shutdown.alarmPending ∧
    (s.startLoad).shutdown.tankAlarm = s.shutdown.tankAlarm ∧
    (s.startLoad).shutdown.valveAlarm = s.shutdown.valveAlarm ∧
    (s.startLoad).shutdown.sequence = s.shutdown.sequence ∧
    (s.startLoad).shutdown.pumpDeadline = s.shutdown.pumpDeadline := by
  have h := s.enterLoading_keeps
  unfold Device.startLoad; dsimp only; generalize s.enterLoading = d at h ⊢
  simp only [h, true_and, and_true]
  exact ⟨rfl, rfl, h.2.2.2.2.2.2.2.2.2.2.2.2.2.2.2.2.2.2.2.2.1⟩

@[simp] theorem Device.takeLoad_keeps (s : Device) :
    (s.takeLoad).time = s.time ∧ (s.takeLoad).half = s.half ∧ (s.takeLoad).strap = s.strap ∧
    (s.takeLoad).port = s.port ∧ (s.takeLoad).lines = s.lines ∧ (s.takeLoad).memory = s.memory ∧
    (s.takeLoad).governors = s.governors ∧ (s.takeLoad).hoses = s.hoses ∧ (s.takeLoad).topOffs = s.topOffs ∧
    (s.takeLoad).nodes = s.nodes ∧ (s.takeLoad).targets = s.targets ∧
    (s.takeLoad).reports.usable = s.reports.usable ∧ (s.takeLoad).reports.producer = s.reports.producer ∧
    (s.takeLoad).reports.consumer = s.reports.consumer ∧
    (s.takeLoad).reports.producerInMemory = s.reports.producerInMemory ∧ (s.takeLoad).stills = s.stills ∧
    (s.takeLoad).valves = s.valves ∧ (s.takeLoad).bus.tail = s.bus.tail ∧
    (s.takeLoad).bus.lastStart = s.bus.lastStart ∧ (s.takeLoad).slotNode = s.slotNode ∧
    (s.takeLoad).jobs.producer = s.jobs.producer ∧ (s.takeLoad).jobs.consumer = s.jobs.consumer ∧
    (s.takeLoad).shutdown.shipLoop = s.shutdown.shipLoop ∧ (s.takeLoad).shutdown.latch = s.shutdown.latch ∧
    (s.takeLoad).shutdown.first = s.shutdown.first ∧ (s.takeLoad).shutdown.firstLine = s.shutdown.firstLine ∧
    (s.takeLoad).shutdown.firstSubject = s.shutdown.firstSubject ∧
    (s.takeLoad).shutdown.hornSounding = s.shutdown.hornSounding ∧
    (s.takeLoad).shutdown.alarmPending = s.shutdown.alarmPending ∧
    (s.takeLoad).shutdown.tankAlarm = s.shutdown.tankAlarm ∧
    (s.takeLoad).shutdown.valveAlarm = s.shutdown.valveAlarm ∧
    (s.takeLoad).shutdown.sequence = s.shutdown.sequence ∧
    (s.takeLoad).shutdown.pumpDeadline = s.shutdown.pumpDeadline := by
  unfold Device.takeLoad; (try dsimp only); (repeat' split) <;> simp

@[simp] theorem Device.takeInWatch_keeps (s : Device) (a : Asked) :
    (s.takeInWatch a).time = s.time ∧ (s.takeInWatch a).half = s.half ∧ (s.takeInWatch a).strap = s.strap ∧
    (s.takeInWatch a).port = s.port ∧ (s.takeInWatch a).reports.usable = s.reports.usable ∧
    (s.takeInWatch a).reports.producer = s.reports.producer ∧
    (s.takeInWatch a).reports.consumer = s.reports.consumer ∧
    (s.takeInWatch a).reports.producerInMemory = s.reports.producerInMemory ∧ (s.takeInWatch a).stills = s.stills ∧
    (s.takeInWatch a).valves = s.valves ∧ (s.takeInWatch a).bus.tail = s.bus.tail ∧
    (s.takeInWatch a).bus.lastStart = s.bus.lastStart ∧ (s.takeInWatch a).slotNode = s.slotNode ∧
    (s.takeInWatch a).jobs.producer = s.jobs.producer ∧ (s.takeInWatch a).jobs.consumer = s.jobs.consumer ∧
    (s.takeInWatch a).shutdown.shipLoop = s.shutdown.shipLoop ∧
    (s.takeInWatch a).shutdown.tankAlarm = s.shutdown.tankAlarm ∧
    (s.takeInWatch a).shutdown.valveAlarm = s.shutdown.valveAlarm := by
  unfold Device.takeInWatch; (try dsimp only); (repeat' split) <;> simp

@[simp] theorem Device.takeInPassive_keeps (s : Device) (a : Asked) :
    (s.takeInPassive a).time = s.time ∧ (s.takeInPassive a).half = s.half ∧ (s.takeInPassive a).strap = s.strap ∧
    (s.takeInPassive a).port = s.port ∧ (s.takeInPassive a).reports.usable = s.reports.usable ∧
    (s.takeInPassive a).reports.producer = s.reports.producer ∧
    (s.takeInPassive a).reports.consumer = s.reports.consumer ∧
    (s.takeInPassive a).reports.producerInMemory = s.reports.producerInMemory ∧
    (s.takeInPassive a).stills = s.stills ∧ (s.takeInPassive a).valves = s.valves ∧
    (s.takeInPassive a).bus.tail = s.bus.tail ∧ (s.takeInPassive a).bus.lastStart = s.bus.lastStart ∧
    (s.takeInPassive a).slotNode = s.slotNode ∧ (s.takeInPassive a).jobs.producer = s.jobs.producer ∧
    (s.takeInPassive a).jobs.consumer = s.jobs.consumer ∧
    (s.takeInPassive a).shutdown.shipLoop = s.shutdown.shipLoop ∧
    (s.takeInPassive a).shutdown.tankAlarm = s.shutdown.tankAlarm ∧
    (s.takeInPassive a).shutdown.valveAlarm = s.shutdown.valveAlarm := by
  unfold Device.takeInPassive; (try dsimp only); (repeat' split) <;> simp

@[simp] theorem Device.takeHead_keeps (s : Device) :
    (s.takeHead).time = s.time ∧ (s.takeHead).half = s.half ∧ (s.takeHead).strap = s.strap ∧
    (s.takeHead).port = s.port ∧ (s.takeHead).reports.usable = s.reports.usable ∧
    (s.takeHead).reports.producer = s.reports.producer ∧ (s.takeHead).reports.consumer = s.reports.consumer ∧
    (s.takeHead).reports.producerInMemory = s.reports.producerInMemory ∧ (s.takeHead).stills = s.stills ∧
    (s.takeHead).valves = s.valves ∧ (s.takeHead).bus.tail = s.bus.tail ∧
    (s.takeHead).bus.lastStart = s.bus.lastStart ∧ (s.takeHead).slotNode = s.slotNode ∧
    (s.takeHead).jobs.producer = s.jobs.producer ∧ (s.takeHead).jobs.consumer = s.jobs.consumer ∧
    (s.takeHead).shutdown.shipLoop = s.shutdown.shipLoop ∧ (s.takeHead).shutdown.tankAlarm = s.shutdown.tankAlarm ∧
    (s.takeHead).shutdown.valveAlarm = s.shutdown.valveAlarm := by
  unfold Device.takeHead; (try dsimp only); (repeat' split) <;> simp

@[simp] theorem Device.judgeOpen_keeps (s : Device) (l : Line) (p : Plan) :
    (s.judgeOpen l p).time = s.time ∧ (s.judgeOpen l p).half = s.half ∧ (s.judgeOpen l p).strap = s.strap ∧
    (s.judgeOpen l p).port = s.port ∧ (s.judgeOpen l p).charter = s.charter ∧
    (s.judgeOpen l p).reports.usable = s.reports.usable ∧ (s.judgeOpen l p).reports.producer = s.reports.producer ∧
    (s.judgeOpen l p).reports.consumer = s.reports.consumer ∧
    (s.judgeOpen l p).reports.producerInMemory = s.reports.producerInMemory ∧
    (s.judgeOpen l p).reports.interrupt = s.reports.interrupt ∧ (s.judgeOpen l p).stills = s.stills ∧
    (s.judgeOpen l p).valves = s.valves ∧ (s.judgeOpen l p).bus.tail = s.bus.tail ∧
    (s.judgeOpen l p).bus.lastStart = s.bus.lastStart ∧ (s.judgeOpen l p).bus.idleScan = s.bus.idleScan ∧
    (s.judgeOpen l p).bus.startHeld = s.bus.startHeld ∧ (s.judgeOpen l p).slotNode = s.slotNode ∧
    (s.judgeOpen l p).jobs.producer = s.jobs.producer ∧ (s.judgeOpen l p).jobs.consumer = s.jobs.consumer ∧
    (s.judgeOpen l p).jobs.reads = s.jobs.reads ∧ (s.judgeOpen l p).shutdown.shipLoop = s.shutdown.shipLoop ∧
    (s.judgeOpen l p).shutdown.tankAlarm = s.shutdown.tankAlarm ∧
    (s.judgeOpen l p).shutdown.valveAlarm = s.shutdown.valveAlarm := by
  unfold Device.judgeOpen; (try dsimp only); (repeat' split) <;> simp

@[simp] theorem Device.storeCharter_keeps (s : Device) (i : Nat) (ws : List Word) :
    (s.storeCharter i ws).time = s.time ∧ (s.storeCharter i ws).half = s.half ∧
    (s.storeCharter i ws).strap = s.strap ∧ (s.storeCharter i ws).port = s.port ∧
    (s.storeCharter i ws).jobs = s.jobs ∧ (s.storeCharter i ws).requests = s.requests ∧
    (s.storeCharter i ws).reports = s.reports ∧ (s.storeCharter i ws).lines = s.lines ∧
    (s.storeCharter i ws).memory = s.memory ∧ (s.storeCharter i ws).governors = s.governors ∧
    (s.storeCharter i ws).hoses = s.hoses ∧ (s.storeCharter i ws).tanks = s.tanks ∧
    (s.storeCharter i ws).topOffs = s.topOffs ∧ (s.storeCharter i ws).shutdown = s.shutdown ∧
    (s.storeCharter i ws).nodes = s.nodes ∧ (s.storeCharter i ws).targets = s.targets ∧
    (s.storeCharter i ws).bus = s.bus ∧ (s.storeCharter i ws).link = s.link ∧
    (s.storeCharter i ws).stills = s.stills ∧ (s.storeCharter i ws).valves = s.valves ∧
    (s.storeCharter i ws).slotNode = s.slotNode := by
  unfold Device.storeCharter; (try dsimp only); (repeat' split) <;> simp

end Sys2Proof.Machine
end

