-- ==== Sys2Proof/Laws/Others.lean ====
section
/-! SUPPORT. What an operation of one line keeps of every other line. -/

namespace Sys2Proof.Machine

open Sys2Proof

/-! ## The per-line and per-node values of an operation that does not touch them -/

@[simp] theorem Device.markStatus_reads (s : Device) (c : Bool) :
    (∀ q, (s.markStatus c).line q = s.line q) ∧ (∀ q, (s.markStatus c).governor q = s.governor q) ∧
    (∀ q, (s.markStatus c).hose q = s.hose q) ∧ (∀ q, (s.markStatus c).topOff q = s.topOff q) ∧
    (∀ q, (s.markStatus c).sequenceMemory q = s.sequenceMemory q) ∧ (∀ q, (s.markStatus c).tank q = s.tank q) ∧
    (∀ q, (s.markStatus c).node q = s.node q) :=
  ⟨fun q => Device.line_congr _ _ q (by simp),
    fun q => Device.governor_congr _ _ q (by simp),
    fun q => Device.hose_congr _ _ q (by simp),
    fun q => Device.topOff_congr _ _ q (by simp),
    fun q => Device.sequenceMemory_congr _ _ q (by simp),
    fun q => Device.tank_congr _ _ q (by simp),
    fun q => Device.node_congr _ _ q (by simp)⟩

@[simp] theorem Device.markLine_reads (s : Device) (l : Line) (c : Bool) :
    (∀ q, (s.markLine l c).line q = s.line q) ∧ (∀ q, (s.markLine l c).governor q = s.governor q) ∧
    (∀ q, (s.markLine l c).hose q = s.hose q) ∧ (∀ q, (s.markLine l c).topOff q = s.topOff q) ∧
    (∀ q, (s.markLine l c).sequenceMemory q = s.sequenceMemory q) ∧ (∀ q, (s.markLine l c).tank q = s.tank q) ∧
    (∀ q, (s.markLine l c).node q = s.node q) :=
  ⟨fun q => Device.line_congr _ _ q (by simp),
    fun q => Device.governor_congr _ _ q (by simp),
    fun q => Device.hose_congr _ _ q (by simp),
    fun q => Device.topOff_congr _ _ q (by simp),
    fun q => Device.sequenceMemory_congr _ _ q (by simp),
    fun q => Device.tank_congr _ _ q (by simp),
    fun q => Device.node_congr _ _ q (by simp)⟩

@[simp] theorem Device.markTank_reads (s : Device) (t : TankNo) :
    (∀ q, (s.markTank t).line q = s.line q) ∧ (∀ q, (s.markTank t).governor q = s.governor q) ∧
    (∀ q, (s.markTank t).hose q = s.hose q) ∧ (∀ q, (s.markTank t).topOff q = s.topOff q) ∧
    (∀ q, (s.markTank t).sequenceMemory q = s.sequenceMemory q) ∧ (∀ q, (s.markTank t).tank q = s.tank q) ∧
    (∀ q, (s.markTank t).node q = s.node q) :=
  ⟨fun q => Device.line_congr _ _ q (by simp),
    fun q => Device.governor_congr _ _ q (by simp),
    fun q => Device.hose_congr _ _ q (by simp),
    fun q => Device.topOff_congr _ _ q (by simp),
    fun q => Device.sequenceMemory_congr _ _ q (by simp),
    fun q => Device.tank_congr _ _ q (by simp),
    fun q => Device.node_congr _ _ q (by simp)⟩

@[simp] theorem Device.markNode_reads (s : Device) (n : NodeNo) (c : Bool) :
    (∀ q, (s.markNode n c).line q = s.line q) ∧ (∀ q, (s.markNode n c).governor q = s.governor q) ∧
    (∀ q, (s.markNode n c).hose q = s.hose q) ∧ (∀ q, (s.markNode n c).topOff q = s.topOff q) ∧
    (∀ q, (s.markNode n c).sequenceMemory q = s.sequenceMemory q) ∧ (∀ q, (s.markNode n c).tank q = s.tank q) ∧
    (∀ q, (s.markNode n c).node q = s.node q) :=
  ⟨fun q => Device.line_congr _ _ q (by simp),
    fun q => Device.governor_congr _ _ q (by simp),
    fun q => Device.hose_congr _ _ q (by simp),
    fun q => Device.topOff_congr _ _ q (by simp),
    fun q => Device.sequenceMemory_congr _ _ q (by simp),
    fun q => Device.tank_congr _ _ q (by simp),
    fun q => Device.node_congr _ _ q (by simp)⟩

@[simp] theorem Device.markValves_reads (s : Device) (c : Bool) :
    (∀ q, (s.markValves c).line q = s.line q) ∧ (∀ q, (s.markValves c).governor q = s.governor q) ∧
    (∀ q, (s.markValves c).hose q = s.hose q) ∧ (∀ q, (s.markValves c).topOff q = s.topOff q) ∧
    (∀ q, (s.markValves c).sequenceMemory q = s.sequenceMemory q) ∧ (∀ q, (s.markValves c).tank q = s.tank q) ∧
    (∀ q, (s.markValves c).node q = s.node q) :=
  ⟨fun q => Device.line_congr _ _ q (by simp),
    fun q => Device.governor_congr _ _ q (by simp),
    fun q => Device.hose_congr _ _ q (by simp),
    fun q => Device.topOff_congr _ _ q (by simp),
    fun q => Device.sequenceMemory_congr _ _ q (by simp),
    fun q => Device.tank_congr _ _ q (by simp),
    fun q => Device.node_congr _ _ q (by simp)⟩

@[simp] theorem Device.markRates_reads (s : Device) :
    (∀ q, (s.markRates).line q = s.line q) ∧ (∀ q, (s.markRates).governor q = s.governor q) ∧
    (∀ q, (s.markRates).hose q = s.hose q) ∧ (∀ q, (s.markRates).topOff q = s.topOff q) ∧
    (∀ q, (s.markRates).sequenceMemory q = s.sequenceMemory q) ∧ (∀ q, (s.markRates).tank q = s.tank q) ∧
    (∀ q, (s.markRates).node q = s.node q) :=
  ⟨fun q => Device.line_congr _ _ q (by simp),
    fun q => Device.governor_congr _ _ q (by simp),
    fun q => Device.hose_congr _ _ q (by simp),
    fun q => Device.topOff_congr _ _ q (by simp),
    fun q => Device.sequenceMemory_congr _ _ q (by simp),
    fun q => Device.tank_congr _ _ q (by simp),
    fun q => Device.node_congr _ _ q (by simp)⟩

@[simp] theorem Device.markAll_reads (s : Device) :
    (∀ q, (s.markAll).line q = s.line q) ∧ (∀ q, (s.markAll).governor q = s.governor q) ∧
    (∀ q, (s.markAll).hose q = s.hose q) ∧ (∀ q, (s.markAll).topOff q = s.topOff q) ∧
    (∀ q, (s.markAll).sequenceMemory q = s.sequenceMemory q) ∧ (∀ q, (s.markAll).tank q = s.tank q) ∧
    (∀ q, (s.markAll).node q = s.node q) :=
  ⟨fun q => Device.line_congr _ _ q (by simp),
    fun q => Device.governor_congr _ _ q (by simp),
    fun q => Device.hose_congr _ _ q (by simp),
    fun q => Device.topOff_congr _ _ q (by simp),
    fun q => Device.sequenceMemory_congr _ _ q (by simp),
    fun q => Device.tank_congr _ _ q (by simp),
    fun q => Device.node_congr _ _ q (by simp)⟩

@[simp] theorem Device.setTank_reads (s : Device) (t : TankNo) (e : Tank) :
    (∀ q, (s.setTank t e).line q = s.line q) ∧ (∀ q, (s.setTank t e).governor q = s.governor q) ∧
    (∀ q, (s.setTank t e).hose q = s.hose q) ∧ (∀ q, (s.setTank t e).topOff q = s.topOff q) ∧
    (∀ q, (s.setTank t e).sequenceMemory q = s.sequenceMemory q) ∧ (∀ q, (s.setTank t e).node q = s.node q) :=
  ⟨fun q => Device.line_congr _ _ q (by simp),
    fun q => Device.governor_congr _ _ q (by simp),
    fun q => Device.hose_congr _ _ q (by simp),
    fun q => Device.topOff_congr _ _ q (by simp),
    fun q => Device.sequenceMemory_congr _ _ q (by simp),
    fun q => Device.node_congr _ _ q (by simp)⟩

@[simp] theorem Device.setNode_reads (s : Device) (n : NodeNo) (e : Node) :
    (∀ q, (s.setNode n e).line q = s.line q) ∧ (∀ q, (s.setNode n e).governor q = s.governor q) ∧
    (∀ q, (s.setNode n e).hose q = s.hose q) ∧ (∀ q, (s.setNode n e).topOff q = s.topOff q) ∧
    (∀ q, (s.setNode n e).sequenceMemory q = s.sequenceMemory q) ∧ (∀ q, (s.setNode n e).tank q = s.tank q) :=
  ⟨fun q => Device.line_congr _ _ q (by simp),
    fun q => Device.governor_congr _ _ q (by simp),
    fun q => Device.hose_congr _ _ q (by simp),
    fun q => Device.topOff_congr _ _ q (by simp),
    fun q => Device.sequenceMemory_congr _ _ q (by simp),
    fun q => Device.tank_congr _ _ q (by simp)⟩

@[simp] theorem Device.setTarget_reads (s : Device) (n : NodeNo) (t : TargetInForce) :
    (∀ q, (s.setTarget n t).line q = s.line q) ∧ (∀ q, (s.setTarget n t).governor q = s.governor q) ∧
    (∀ q, (s.setTarget n t).hose q = s.hose q) ∧ (∀ q, (s.setTarget n t).topOff q = s.topOff q) ∧
    (∀ q, (s.setTarget n t).sequenceMemory q = s.sequenceMemory q) ∧ (∀ q, (s.setTarget n t).tank q = s.tank q) ∧
    (∀ q, (s.setTarget n t).node q = s.node q) :=
  ⟨fun q => Device.line_congr _ _ q (by simp),
    fun q => Device.governor_congr _ _ q (by simp),
    fun q => Device.hose_congr _ _ q (by simp),
    fun q => Device.topOff_congr _ _ q (by simp),
    fun q => Device.sequenceMemory_congr _ _ q (by simp),
    fun q => Device.tank_congr _ _ q (by simp),
    fun q => Device.node_congr _ _ q (by simp)⟩

@[simp] theorem Device.setShutdown_reads (s : Device) (e : Shutdown) :
    (∀ q, (s.setShutdown e).line q = s.line q) ∧ (∀ q, (s.setShutdown e).governor q = s.governor q) ∧
    (∀ q, (s.setShutdown e).hose q = s.hose q) ∧ (∀ q, (s.setShutdown e).topOff q = s.topOff q) ∧
    (∀ q, (s.setShutdown e).sequenceMemory q = s.sequenceMemory q) ∧ (∀ q, (s.setShutdown e).tank q = s.tank q) ∧
    (∀ q, (s.setShutdown e).node q = s.node q) :=
  ⟨fun q => Device.line_congr _ _ q (by simp),
    fun q => Device.governor_congr _ _ q (by simp),
    fun q => Device.hose_congr _ _ q (by simp),
    fun q => Device.topOff_congr _ _ q (by simp),
    fun q => Device.sequenceMemory_congr _ _ q (by simp),
    fun q => Device.tank_congr _ _ q (by simp),
    fun q => Device.node_congr _ _ q (by simp)⟩

@[simp] theorem Device.setLink_reads (s : Device) (k : Link) :
    (∀ q, (s.setLink k).line q = s.line q) ∧ (∀ q, (s.setLink k).governor q = s.governor q) ∧
    (∀ q, (s.setLink k).hose q = s.hose q) ∧ (∀ q, (s.setLink k).topOff q = s.topOff q) ∧
    (∀ q, (s.setLink k).sequenceMemory q = s.sequenceMemory q) ∧ (∀ q, (s.setLink k).tank q = s.tank q) ∧
    (∀ q, (s.setLink k).node q = s.node q) :=
  ⟨fun q => Device.line_congr _ _ q (by simp),
    fun q => Device.governor_congr _ _ q (by simp),
    fun q => Device.hose_congr _ _ q (by simp),
    fun q => Device.topOff_congr _ _ q (by simp),
    fun q => Device.sequenceMemory_congr _ _ q (by simp),
    fun q => Device.tank_congr _ _ q (by simp),
    fun q => Device.node_congr _ _ q (by simp)⟩

@[simp] theorem Device.setCharter_reads (s : Device) (c : CharterUnit) :
    (∀ q, (s.setCharter c).line q = s.line q) ∧ (∀ q, (s.setCharter c).governor q = s.governor q) ∧
    (∀ q, (s.setCharter c).hose q = s.hose q) ∧ (∀ q, (s.setCharter c).topOff q = s.topOff q) ∧
    (∀ q, (s.setCharter c).sequenceMemory q = s.sequenceMemory q) ∧ (∀ q, (s.setCharter c).tank q = s.tank q) ∧
    (∀ q, (s.setCharter c).node q = s.node q) :=
  ⟨fun q => Device.line_congr _ _ q (by simp),
    fun q => Device.governor_congr _ _ q (by simp),
    fun q => Device.hose_congr _ _ q (by simp),
    fun q => Device.topOff_congr _ _ q (by simp),
    fun q => Device.sequenceMemory_congr _ _ q (by simp),
    fun q => Device.tank_congr _ _ q (by simp),
    fun q => Device.node_congr _ _ q (by simp)⟩

@[simp] theorem Device.setBusMode_reads (s : Device) (m : BusMode) :
    (∀ q, (s.setBusMode m).line q = s.line q) ∧ (∀ q, (s.setBusMode m).governor q = s.governor q) ∧
    (∀ q, (s.setBusMode m).hose q = s.hose q) ∧ (∀ q, (s.setBusMode m).topOff q = s.topOff q) ∧
    (∀ q, (s.setBusMode m).sequenceMemory q = s.sequenceMemory q) ∧ (∀ q, (s.setBusMode m).tank q = s.tank q) ∧
    (∀ q, (s.setBusMode m).node q = s.node q) :=
  ⟨fun q => Device.line_congr _ _ q (by simp),
    fun q => Device.governor_congr _ _ q (by simp),
    fun q => Device.hose_congr _ _ q (by simp),
    fun q => Device.topOff_congr _ _ q (by simp),
    fun q => Device.sequenceMemory_congr _ _ q (by simp),
    fun q => Device.tank_congr _ _ q (by simp),
    fun q => Device.node_congr _ _ q (by simp)⟩

@[simp] theorem Device.setLine_reads (s : Device) (l : Line) (c : LineContext) :
    (∀ q, (s.setLine l c).governor q = s.governor q) ∧ (∀ q, (s.setLine l c).hose q = s.hose q) ∧
    (∀ q, (s.setLine l c).topOff q = s.topOff q) ∧ (∀ q, (s.setLine l c).sequenceMemory q = s.sequenceMemory q) ∧
    (∀ q, (s.setLine l c).tank q = s.tank q) ∧ (∀ q, (s.setLine l c).node q = s.node q) :=
  ⟨fun q => Device.governor_congr _ _ q (by simp),
    fun q => Device.hose_congr _ _ q (by simp),
    fun q => Device.topOff_congr _ _ q (by simp),
    fun q => Device.sequenceMemory_congr _ _ q (by simp),
    fun q => Device.tank_congr _ _ q (by simp),
    fun q => Device.node_congr _ _ q (by simp)⟩

@[simp] theorem Device.setGovernor_reads (s : Device) (l : Line) (g : Governor) :
    (∀ q, (s.setGovernor l g).line q = s.line q) ∧ (∀ q, (s.setGovernor l g).hose q = s.hose q) ∧
    (∀ q, (s.setGovernor l g).topOff q = s.topOff q) ∧
    (∀ q, (s.setGovernor l g).sequenceMemory q = s.sequenceMemory q) ∧
    (∀ q, (s.setGovernor l g).tank q = s.tank q) ∧ (∀ q, (s.setGovernor l g).node q = s.node q) :=
  ⟨fun q => Device.line_congr _ _ q (by simp),
    fun q => Device.hose_congr _ _ q (by simp),
    fun q => Device.topOff_congr _ _ q (by simp),
    fun q => Device.sequenceMemory_congr _ _ q (by simp),
    fun q => Device.tank_congr _ _ q (by simp),
    fun q => Device.node_congr _ _ q (by simp)⟩

@[simp] theorem Device.setHose_reads (s : Device) (l : Line) (h : Hose) :
    (∀ q, (s.setHose l h).line q = s.line q) ∧ (∀ q, (s.setHose l h).governor q = s.governor q) ∧
    (∀ q, (s.setHose l h).topOff q = s.topOff q) ∧ (∀ q, (s.setHose l h).sequenceMemory q = s.sequenceMemory q) ∧
    (∀ q, (s.setHose l h).tank q = s.tank q) ∧ (∀ q, (s.setHose l h).node q = s.node q) :=
  ⟨fun q => Device.line_congr _ _ q (by simp),
    fun q => Device.governor_congr _ _ q (by simp),
    fun q => Device.topOff_congr _ _ q (by simp),
    fun q => Device.sequenceMemory_congr _ _ q (by simp),
    fun q => Device.tank_congr _ _ q (by simp),
    fun q => Device.node_congr _ _ q (by simp)⟩

@[simp] theorem Device.setTopOff_reads (s : Device) (l : Line) (t : TopOff) :
    (∀ q, (s.setTopOff l t).line q = s.line q) ∧ (∀ q, (s.setTopOff l t).governor q = s.governor q) ∧
    (∀ q, (s.setTopOff l t).hose q = s.hose q) ∧ (∀ q, (s.setTopOff l t).sequenceMemory q = s.sequenceMemory q) ∧
    (∀ q, (s.setTopOff l t).tank q = s.tank q) ∧ (∀ q, (s.setTopOff l t).node q = s.node q) :=
  ⟨fun q => Device.line_congr _ _ q (by simp),
    fun q => Device.governor_congr _ _ q (by simp),
    fun q => Device.hose_congr _ _ q (by simp),
    fun q => Device.sequenceMemory_congr _ _ q (by simp),
    fun q => Device.tank_congr _ _ q (by simp),
    fun q => Device.node_congr _ _ q (by simp)⟩

@[simp] theorem Device.setSequenceMemory_reads (s : Device) (l : Line) (x : SequenceMemory) :
    (∀ q, (s.setSequenceMemory l x).line q = s.line q) ∧
    (∀ q, (s.setSequenceMemory l x).governor q = s.governor q) ∧
    (∀ q, (s.setSequenceMemory l x).hose q = s.hose q) ∧ (∀ q, (s.setSequenceMemory l x).topOff q = s.topOff q) ∧
    (∀ q, (s.setSequenceMemory l x).tank q = s.tank q) ∧ (∀ q, (s.setSequenceMemory l x).node q = s.node q) :=
  ⟨fun q => Device.line_congr _ _ q (by simp),
    fun q => Device.governor_congr _ _ q (by simp),
    fun q => Device.hose_congr _ _ q (by simp),
    fun q => Device.topOff_congr _ _ q (by simp),
    fun q => Device.tank_congr _ _ q (by simp),
    fun q => Device.node_congr _ _ q (by simp)⟩

@[simp] theorem Device.countOverrun_reads (s : Device) (n : Nat) :
    (∀ q, (s.countOverrun n).line q = s.line q) ∧ (∀ q, (s.countOverrun n).governor q = s.governor q) ∧
    (∀ q, (s.countOverrun n).hose q = s.hose q) ∧ (∀ q, (s.countOverrun n).topOff q = s.topOff q) ∧
    (∀ q, (s.countOverrun n).sequenceMemory q = s.sequenceMemory q) ∧ (∀ q, (s.countOverrun n).tank q = s.tank q) ∧
    (∀ q, (s.countOverrun n).node q = s.node q) :=
  ⟨fun q => Device.line_congr _ _ q (by simp),
    fun q => Device.governor_congr _ _ q (by simp),
    fun q => Device.hose_congr _ _ q (by simp),
    fun q => Device.topOff_congr _ _ q (by simp),
    fun q => Device.sequenceMemory_congr _ _ q (by simp),
    fun q => Device.tank_congr _ _ q (by simp),
    fun q => Device.node_congr _ _ q (by simp)⟩

@[simp] theorem Device.enqueueReport_reads (s : Device) (r : Report) :
    (∀ q, (s.enqueueReport r).line q = s.line q) ∧ (∀ q, (s.enqueueReport r).governor q = s.governor q) ∧
    (∀ q, (s.enqueueReport r).hose q = s.hose q) ∧ (∀ q, (s.enqueueReport r).topOff q = s.topOff q) ∧
    (∀ q, (s.enqueueReport r).sequenceMemory q = s.sequenceMemory q) ∧
    (∀ q, (s.enqueueReport r).tank q = s.tank q) ∧ (∀ q, (s.enqueueReport r).node q = s.node q) :=
  ⟨fun q => Device.line_congr _ _ q (by simp),
    fun q => Device.governor_congr _ _ q (by simp),
    fun q => Device.hose_congr _ _ q (by simp),
    fun q => Device.topOff_congr _ _ q (by simp),
    fun q => Device.sequenceMemory_congr _ _ q (by simp),
    fun q => Device.tank_congr _ _ q (by simp),
    fun q => Device.node_congr _ _ q (by simp)⟩

@[simp] theorem Device.submit_reads (s : Device) (k : ReportKind) (l n : Nat) (c : ReportCause) (a b : Word) :
    (∀ q, (s.submit k l n c a b).line q = s.line q) ∧ (∀ q, (s.submit k l n c a b).governor q = s.governor q) ∧
    (∀ q, (s.submit k l n c a b).hose q = s.hose q) ∧ (∀ q, (s.submit k l n c a b).topOff q = s.topOff q) ∧
    (∀ q, (s.submit k l n c a b).sequenceMemory q = s.sequenceMemory q) ∧
    (∀ q, (s.submit k l n c a b).tank q = s.tank q) ∧ (∀ q, (s.submit k l n c a b).node q = s.node q) :=
  ⟨fun q => Device.line_congr _ _ q (by simp),
    fun q => Device.governor_congr _ _ q (by simp),
    fun q => Device.hose_congr _ _ q (by simp),
    fun q => Device.topOff_congr _ _ q (by simp),
    fun q => Device.sequenceMemory_congr _ _ q (by simp),
    fun q => Device.tank_congr _ _ q (by simp),
    fun q => Device.node_congr _ _ q (by simp)⟩

@[simp] theorem Device.enqueueAhead_reads (s : Device) (r : Report) :
    (∀ q, (s.enqueueAhead r).line q = s.line q) ∧ (∀ q, (s.enqueueAhead r).governor q = s.governor q) ∧
    (∀ q, (s.enqueueAhead r).hose q = s.hose q) ∧ (∀ q, (s.enqueueAhead r).topOff q = s.topOff q) ∧
    (∀ q, (s.enqueueAhead r).sequenceMemory q = s.sequenceMemory q) ∧ (∀ q, (s.enqueueAhead r).tank q = s.tank q) ∧
    (∀ q, (s.enqueueAhead r).node q = s.node q) :=
  ⟨fun q => Device.line_congr _ _ q (by simp),
    fun q => Device.governor_congr _ _ q (by simp),
    fun q => Device.hose_congr _ _ q (by simp),
    fun q => Device.topOff_congr _ _ q (by simp),
    fun q => Device.sequenceMemory_congr _ _ q (by simp),
    fun q => Device.tank_congr _ _ q (by simp),
    fun q => Device.node_congr _ _ q (by simp)⟩

@[simp] theorem Device.placeReports_reads (s : Device) :
    (∀ q, (s.placeReports).line q = s.line q) ∧ (∀ q, (s.placeReports).governor q = s.governor q) ∧
    (∀ q, (s.placeReports).hose q = s.hose q) ∧ (∀ q, (s.placeReports).topOff q = s.topOff q) ∧
    (∀ q, (s.placeReports).sequenceMemory q = s.sequenceMemory q) ∧ (∀ q, (s.placeReports).tank q = s.tank q) ∧
    (∀ q, (s.placeReports).node q = s.node q) :=
  ⟨fun q => Device.line_congr _ _ q (by simp),
    fun q => Device.governor_congr _ _ q (by simp),
    fun q => Device.hose_congr _ _ q (by simp),
    fun q => Device.topOff_congr _ _ q (by simp),
    fun q => Device.sequenceMemory_congr _ _ q (by simp),
    fun q => Device.tank_congr _ _ q (by simp),
    fun q => Device.node_congr _ _ q (by simp)⟩

@[simp] theorem Device.reportDropped_reads (s : Device) (n : NodeNo) (c : Claim) (d : DropCause) :
    (∀ q, (s.reportDropped n c d).line q = s.line q) ∧ (∀ q, (s.reportDropped n c d).governor q = s.governor q) ∧
    (∀ q, (s.reportDropped n c d).hose q = s.hose q) ∧ (∀ q, (s.reportDropped n c d).topOff q = s.topOff q) ∧
    (∀ q, (s.reportDropped n c d).sequenceMemory q = s.sequenceMemory q) ∧
    (∀ q, (s.reportDropped n c d).tank q = s.tank q) ∧ (∀ q, (s.reportDropped n c d).node q = s.node q) :=
  ⟨fun q => Device.line_congr _ _ q (by simp),
    fun q => Device.governor_congr _ _ q (by simp),
    fun q => Device.hose_congr _ _ q (by simp),
    fun q => Device.topOff_congr _ _ q (by simp),
    fun q => Device.sequenceMemory_congr _ _ q (by simp),
    fun q => Device.tank_congr _ _ q (by simp),
    fun q => Device.node_congr _ _ q (by simp)⟩

@[simp] theorem Device.reportEnd_reads (s : Device) (n : NodeNo) (a : Act) (o : TxOutcome) :
    (∀ q, (s.reportEnd n a o).line q = s.line q) ∧ (∀ q, (s.reportEnd n a o).governor q = s.governor q) ∧
    (∀ q, (s.reportEnd n a o).hose q = s.hose q) ∧ (∀ q, (s.reportEnd n a o).topOff q = s.topOff q) ∧
    (∀ q, (s.reportEnd n a o).sequenceMemory q = s.sequenceMemory q) ∧
    (∀ q, (s.reportEnd n a o).tank q = s.tank q) ∧ (∀ q, (s.reportEnd n a o).node q = s.node q) :=
  ⟨fun q => Device.line_congr _ _ q (by simp),
    fun q => Device.governor_congr _ _ q (by simp),
    fun q => Device.hose_congr _ _ q (by simp),
    fun q => Device.topOff_congr _ _ q (by simp),
    fun q => Device.sequenceMemory_congr _ _ q (by simp),
    fun q => Device.tank_congr _ _ q (by simp),
    fun q => Device.node_congr _ _ q (by simp)⟩

@[simp] theorem Device.displaceQueued_reads (s : Device) (n : NodeNo) (o : Origin) :
    (∀ q, (s.displaceQueued n o).line q = s.line q) ∧ (∀ q, (s.displaceQueued n o).governor q = s.governor q) ∧
    (∀ q, (s.displaceQueued n o).hose q = s.hose q) ∧ (∀ q, (s.displaceQueued n o).topOff q = s.topOff q) ∧
    (∀ q, (s.displaceQueued n o).sequenceMemory q = s.sequenceMemory q) ∧
    (∀ q, (s.displaceQueued n o).tank q = s.tank q) :=
  ⟨fun q => Device.line_congr _ _ q (by simp),
    fun q => Device.governor_congr _ _ q (by simp),
    fun q => Device.hose_congr _ _ q (by simp),
    fun q => Device.topOff_congr _ _ q (by simp),
    fun q => Device.sequenceMemory_congr _ _ q (by simp),
    fun q => Device.tank_congr _ _ q (by simp)⟩

@[simp] theorem Device.takeTarget_reads (s : Device) (n : NodeNo) (a : Act) :
    (∀ q, (s.takeTarget n a).line q = s.line q) ∧ (∀ q, (s.takeTarget n a).governor q = s.governor q) ∧
    (∀ q, (s.takeTarget n a).hose q = s.hose q) ∧ (∀ q, (s.takeTarget n a).topOff q = s.topOff q) ∧
    (∀ q, (s.takeTarget n a).sequenceMemory q = s.sequenceMemory q) ∧ (∀ q, (s.takeTarget n a).tank q = s.tank q) ∧
    (∀ q, (s.takeTarget n a).node q = s.node q) :=
  ⟨fun q => Device.line_congr _ _ q (by simp),
    fun q => Device.governor_congr _ _ q (by simp),
    fun q => Device.hose_congr _ _ q (by simp),
    fun q => Device.topOff_congr _ _ q (by simp),
    fun q => Device.sequenceMemory_congr _ _ q (by simp),
    fun q => Device.tank_congr _ _ q (by simp),
    fun q => Device.node_congr _ _ q (by simp)⟩

@[simp] theorem Device.noteEntered_reads (s : Device) (n : NodeNo) :
    (∀ q, (s.noteEntered n).line q = s.line q) ∧ (∀ q, (s.noteEntered n).governor q = s.governor q) ∧
    (∀ q, (s.noteEntered n).hose q = s.hose q) ∧ (∀ q, (s.noteEntered n).topOff q = s.topOff q) ∧
    (∀ q, (s.noteEntered n).sequenceMemory q = s.sequenceMemory q) ∧ (∀ q, (s.noteEntered n).tank q = s.tank q) ∧
    (∀ q, (s.noteEntered n).node q = s.node q) :=
  ⟨fun q => Device.line_congr _ _ q (by simp),
    fun q => Device.governor_congr _ _ q (by simp),
    fun q => Device.hose_congr _ _ q (by simp),
    fun q => Device.topOff_congr _ _ q (by simp),
    fun q => Device.sequenceMemory_congr _ _ q (by simp),
    fun q => Device.tank_congr _ _ q (by simp),
    fun q => Device.node_congr _ _ q (by simp)⟩

@[simp] theorem Device.goInFlight_reads (s : Device) (n : NodeNo) (c : Claim) :
    (∀ q, (s.goInFlight n c).line q = s.line q) ∧ (∀ q, (s.goInFlight n c).governor q = s.governor q) ∧
    (∀ q, (s.goInFlight n c).hose q = s.hose q) ∧ (∀ q, (s.goInFlight n c).topOff q = s.topOff q) ∧
    (∀ q, (s.goInFlight n c).sequenceMemory q = s.sequenceMemory q) ∧ (∀ q, (s.goInFlight n c).tank q = s.tank q) :=
  ⟨fun q => Device.line_congr _ _ q (by simp),
    fun q => Device.governor_congr _ _ q (by simp),
    fun q => Device.hose_congr _ _ q (by simp),
    fun q => Device.topOff_congr _ _ q (by simp),
    fun q => Device.sequenceMemory_congr _ _ q (by simp),
    fun q => Device.tank_congr _ _ q (by simp)⟩

@[simp] theorem Device.adoptInFlight_reads (s : Device) (n : NodeNo) :
    (∀ q, (s.adoptInFlight n).line q = s.line q) ∧ (∀ q, (s.adoptInFlight n).governor q = s.governor q) ∧
    (∀ q, (s.adoptInFlight n).hose q = s.hose q) ∧ (∀ q, (s.adoptInFlight n).topOff q = s.topOff q) ∧
    (∀ q, (s.adoptInFlight n).sequenceMemory q = s.sequenceMemory q) ∧ (∀ q, (s.adoptInFlight n).tank q = s.tank q) :=
  ⟨fun q => Device.line_congr _ _ q (by simp),
    fun q => Device.governor_congr _ _ q (by simp),
    fun q => Device.hose_congr _ _ q (by simp),
    fun q => Device.topOff_congr _ _ q (by simp),
    fun q => Device.sequenceMemory_congr _ _ q (by simp),
    fun q => Device.tank_congr _ _ q (by simp)⟩

@[simp] theorem Device.abandonInFlight_reads (s : Device) (n : NodeNo) :
    (∀ q, (s.abandonInFlight n).line q = s.line q) ∧ (∀ q, (s.abandonInFlight n).governor q = s.governor q) ∧
    (∀ q, (s.abandonInFlight n).hose q = s.hose q) ∧ (∀ q, (s.abandonInFlight n).topOff q = s.topOff q) ∧
    (∀ q, (s.abandonInFlight n).sequenceMemory q = s.sequenceMemory q) ∧
    (∀ q, (s.abandonInFlight n).tank q = s.tank q) :=
  ⟨fun q => Device.line_congr _ _ q (by simp),
    fun q => Device.governor_congr _ _ q (by simp),
    fun q => Device.hose_congr _ _ q (by simp),
    fun q => Device.topOff_congr _ _ q (by simp),
    fun q => Device.sequenceMemory_congr _ _ q (by simp),
    fun q => Device.tank_congr _ _ q (by simp)⟩

@[simp] theorem Device.claim_reads (s : Device) (n : NodeNo) (c : Claim) :
    (∀ q, (s.claim n c).line q = s.line q) ∧ (∀ q, (s.claim n c).governor q = s.governor q) ∧
    (∀ q, (s.claim n c).hose q = s.hose q) ∧ (∀ q, (s.claim n c).topOff q = s.topOff q) ∧
    (∀ q, (s.claim n c).sequenceMemory q = s.sequenceMemory q) ∧ (∀ q, (s.claim n c).tank q = s.tank q) :=
  ⟨fun q => Device.line_congr _ _ q (by simp),
    fun q => Device.governor_congr _ _ q (by simp),
    fun q => Device.hose_congr _ _ q (by simp),
    fun q => Device.topOff_congr _ _ q (by simp),
    fun q => Device.sequenceMemory_congr _ _ q (by simp),
    fun q => Device.tank_congr _ _ q (by simp)⟩

@[simp] theorem Device.claimValve_reads (s : Device) (l : Line) (r : Role) (t : Target) (o : Origin) :
    (∀ q, (s.claimValve l r t o).line q = s.line q) ∧ (∀ q, (s.claimValve l r t o).governor q = s.governor q) ∧
    (∀ q, (s.claimValve l r t o).hose q = s.hose q) ∧ (∀ q, (s.claimValve l r t o).topOff q = s.topOff q) ∧
    (∀ q, (s.claimValve l r t o).sequenceMemory q = s.sequenceMemory q) ∧
    (∀ q, (s.claimValve l r t o).tank q = s.tank q) :=
  ⟨fun q => Device.line_congr _ _ q (by simp),
    fun q => Device.governor_congr _ _ q (by simp),
    fun q => Device.hose_congr _ _ q (by simp),
    fun q => Device.topOff_congr _ _ q (by simp),
    fun q => Device.sequenceMemory_congr _ _ q (by simp),
    fun q => Device.tank_congr _ _ q (by simp)⟩

@[simp] theorem Device.claimPump_reads (s : Device) (l : Line) (v : Nat) (o : Origin) :
    (∀ q, (s.claimPump l v o).line q = s.line q) ∧ (∀ q, (s.claimPump l v o).governor q = s.governor q) ∧
    (∀ q, (s.claimPump l v o).hose q = s.hose q) ∧ (∀ q, (s.claimPump l v o).topOff q = s.topOff q) ∧
    (∀ q, (s.claimPump l v o).sequenceMemory q = s.sequenceMemory q) ∧ (∀ q, (s.claimPump l v o).tank q = s.tank q) :=
  ⟨fun q => Device.line_congr _ _ q (by simp),
    fun q => Device.governor_congr _ _ q (by simp),
    fun q => Device.hose_congr _ _ q (by simp),
    fun q => Device.topOff_congr _ _ q (by simp),
    fun q => Device.sequenceMemory_congr _ _ q (by simp),
    fun q => Device.tank_congr _ _ q (by simp)⟩

@[simp] theorem Device.withdrawSequence_reads (s : Device) (n : NodeNo) :
    (∀ q, (s.withdrawSequence n).line q = s.line q) ∧ (∀ q, (s.withdrawSequence n).governor q = s.governor q) ∧
    (∀ q, (s.withdrawSequence n).hose q = s.hose q) ∧ (∀ q, (s.withdrawSequence n).topOff q = s.topOff q) ∧
    (∀ q, (s.withdrawSequence n).sequenceMemory q = s.sequenceMemory q) ∧
    (∀ q, (s.withdrawSequence n).tank q = s.tank q) :=
  ⟨fun q => Device.line_congr _ _ q (by simp),
    fun q => Device.governor_congr _ _ q (by simp),
    fun q => Device.hose_congr _ _ q (by simp),
    fun q => Device.topOff_congr _ _ q (by simp),
    fun q => Device.sequenceMemory_congr _ _ q (by simp),
    fun q => Device.tank_congr _ _ q (by simp)⟩

@[simp] theorem Device.withdrawLine_reads (s : Device) (l : Line) :
    (∀ q, (s.withdrawLine l).line q = s.line q) ∧ (∀ q, (s.withdrawLine l).governor q = s.governor q) ∧
    (∀ q, (s.withdrawLine l).hose q = s.hose q) ∧ (∀ q, (s.withdrawLine l).topOff q = s.topOff q) ∧
    (∀ q, (s.withdrawLine l).sequenceMemory q = s.sequenceMemory q) ∧ (∀ q, (s.withdrawLine l).tank q = s.tank q) :=
  ⟨fun q => Device.line_congr _ _ q (by simp),
    fun q => Device.governor_congr _ _ q (by simp),
    fun q => Device.hose_congr _ _ q (by simp),
    fun q => Device.topOff_congr _ _ q (by simp),
    fun q => Device.sequenceMemory_congr _ _ q (by simp),
    fun q => Device.tank_congr _ _ q (by simp)⟩

@[simp] theorem Device.claimSpeed_reads (s : Device) (l : Line) (v : Nat) :
    (∀ q, (s.claimSpeed l v).line q = s.line q) ∧ (∀ q, (s.claimSpeed l v).hose q = s.hose q) ∧
    (∀ q, (s.claimSpeed l v).topOff q = s.topOff q) ∧
    (∀ q, (s.claimSpeed l v).sequenceMemory q = s.sequenceMemory q) ∧ (∀ q, (s.claimSpeed l v).tank q = s.tank q) :=
  ⟨fun q => Device.line_congr _ _ q (by simp),
    fun q => Device.hose_congr _ _ q (by simp),
    fun q => Device.topOff_congr _ _ q (by simp),
    fun q => Device.sequenceMemory_congr _ _ q (by simp),
    fun q => Device.tank_congr _ _ q (by simp)⟩

@[simp] theorem Device.claimIfChanged_reads (s : Device) (l : Line) (v : Nat) :
    (∀ q, (s.claimIfChanged l v).line q = s.line q) ∧ (∀ q, (s.claimIfChanged l v).hose q = s.hose q) ∧
    (∀ q, (s.claimIfChanged l v).topOff q = s.topOff q) ∧
    (∀ q, (s.claimIfChanged l v).sequenceMemory q = s.sequenceMemory q) ∧
    (∀ q, (s.claimIfChanged l v).tank q = s.tank q) :=
  ⟨fun q => Device.line_congr _ _ q (by simp),
    fun q => Device.hose_congr _ _ q (by simp),
    fun q => Device.topOff_congr _ _ q (by simp),
    fun q => Device.sequenceMemory_congr _ _ q (by simp),
    fun q => Device.tank_congr _ _ q (by simp)⟩

@[simp] theorem Device.judgeRateLow_reads (s : Device) (l : Line) :
    (∀ q, (s.judgeRateLow l).line q = s.line q) ∧ (∀ q, (s.judgeRateLow l).hose q = s.hose q) ∧
    (∀ q, (s.judgeRateLow l).topOff q = s.topOff q) ∧
    (∀ q, (s.judgeRateLow l).sequenceMemory q = s.sequenceMemory q) ∧ (∀ q, (s.judgeRateLow l).tank q = s.tank q) ∧
    (∀ q, (s.judgeRateLow l).node q = s.node q) :=
  ⟨fun q => Device.line_congr _ _ q (by simp),
    fun q => Device.hose_congr _ _ q (by simp),
    fun q => Device.topOff_congr _ _ q (by simp),
    fun q => Device.sequenceMemory_congr _ _ q (by simp),
    fun q => Device.tank_congr _ _ q (by simp),
    fun q => Device.node_congr _ _ q (by simp)⟩

@[simp] theorem Device.governorEnters_reads (s : Device) (l : Line) (st : LineState) :
    (∀ q, (s.governorEnters l st).line q = s.line q) ∧ (∀ q, (s.governorEnters l st).hose q = s.hose q) ∧
    (∀ q, (s.governorEnters l st).topOff q = s.topOff q) ∧
    (∀ q, (s.governorEnters l st).sequenceMemory q = s.sequenceMemory q) ∧
    (∀ q, (s.governorEnters l st).tank q = s.tank q) :=
  ⟨fun q => Device.line_congr _ _ q (by simp),
    fun q => Device.hose_congr _ _ q (by simp),
    fun q => Device.topOff_congr _ _ q (by simp),
    fun q => Device.sequenceMemory_congr _ _ q (by simp),
    fun q => Device.tank_congr _ _ q (by simp)⟩

@[simp] theorem Device.primeSpeed_reads (s : Device) (l : Line) :
    (∀ q, (s.primeSpeed l).line q = s.line q) ∧ (∀ q, (s.primeSpeed l).hose q = s.hose q) ∧
    (∀ q, (s.primeSpeed l).topOff q = s.topOff q) ∧ (∀ q, (s.primeSpeed l).sequenceMemory q = s.sequenceMemory q) ∧
    (∀ q, (s.primeSpeed l).tank q = s.tank q) :=
  ⟨fun q => Device.line_congr _ _ q (by simp),
    fun q => Device.hose_congr _ _ q (by simp),
    fun q => Device.topOff_congr _ _ q (by simp),
    fun q => Device.sequenceMemory_congr _ _ q (by simp),
    fun q => Device.tank_congr _ _ q (by simp)⟩

@[simp] theorem Device.applyRate_reads (s : Device) (l : Line) :
    (∀ q, (s.applyRate l).line q = s.line q) ∧ (∀ q, (s.applyRate l).hose q = s.hose q) ∧
    (∀ q, (s.applyRate l).topOff q = s.topOff q) ∧ (∀ q, (s.applyRate l).sequenceMemory q = s.sequenceMemory q) ∧
    (∀ q, (s.applyRate l).tank q = s.tank q) :=
  ⟨fun q => Device.line_congr _ _ q (by simp),
    fun q => Device.hose_congr _ _ q (by simp),
    fun q => Device.topOff_congr _ _ q (by simp),
    fun q => Device.sequenceMemory_congr _ _ q (by simp),
    fun q => Device.tank_congr _ _ q (by simp)⟩

@[simp] theorem Device.nextStep_reads (s : Device) (l : Line) (due : Time) :
    (∀ q, (s.nextStep l due).line q = s.line q) ∧ (∀ q, (s.nextStep l due).hose q = s.hose q) ∧
    (∀ q, (s.nextStep l due).topOff q = s.topOff q) ∧
    (∀ q, (s.nextStep l due).sequenceMemory q = s.sequenceMemory q) ∧ (∀ q, (s.nextStep l due).tank q = s.tank q) ∧
    (∀ q, (s.nextStep l due).node q = s.node q) :=
  ⟨fun q => Device.line_congr _ _ q (by simp),
    fun q => Device.hose_congr _ _ q (by simp),
    fun q => Device.topOff_congr _ _ q (by simp),
    fun q => Device.sequenceMemory_congr _ _ q (by simp),
    fun q => Device.tank_congr _ _ q (by simp),
    fun q => Device.node_congr _ _ q (by simp)⟩

@[simp] theorem Device.governorEnd_reads (s : Device) (l : Line) (n : NodeNo) (a : Act) (o : TxOutcome) :
    (∀ q, (s.governorEnd l n a o).line q = s.line q) ∧ (∀ q, (s.governorEnd l n a o).hose q = s.hose q) ∧
    (∀ q, (s.governorEnd l n a o).topOff q = s.topOff q) ∧
    (∀ q, (s.governorEnd l n a o).sequenceMemory q = s.sequenceMemory q) ∧
    (∀ q, (s.governorEnd l n a o).tank q = s.tank q) ∧ (∀ q, (s.governorEnd l n a o).node q = s.node q) :=
  ⟨fun q => Device.line_congr _ _ q (by simp),
    fun q => Device.hose_congr _ _ q (by simp),
    fun q => Device.topOff_congr _ _ q (by simp),
    fun q => Device.sequenceMemory_congr _ _ q (by simp),
    fun q => Device.tank_congr _ _ q (by simp),
    fun q => Device.node_congr _ _ q (by simp)⟩

@[simp] theorem Device.takeRateDemand_reads (s : Device) (l : Line) (v : Word) :
    (∀ q, (s.takeRateDemand l v).line q = s.line q) ∧ (∀ q, (s.takeRateDemand l v).hose q = s.hose q) ∧
    (∀ q, (s.takeRateDemand l v).topOff q = s.topOff q) ∧
    (∀ q, (s.takeRateDemand l v).sequenceMemory q = s.sequenceMemory q) ∧
    (∀ q, (s.takeRateDemand l v).tank q = s.tank q) ∧ (∀ q, (s.takeRateDemand l v).node q = s.node q) :=
  ⟨fun q => Device.line_congr _ _ q (by simp),
    fun q => Device.hose_congr _ _ q (by simp),
    fun q => Device.topOff_congr _ _ q (by simp),
    fun q => Device.sequenceMemory_congr _ _ q (by simp),
    fun q => Device.tank_congr _ _ q (by simp),
    fun q => Device.node_congr _ _ q (by simp)⟩

@[simp] theorem Device.transmit_reads (s : Device) :
    (∀ q, (s.transmit).line q = s.line q) ∧ (∀ q, (s.transmit).governor q = s.governor q) ∧
    (∀ q, (s.transmit).hose q = s.hose q) ∧ (∀ q, (s.transmit).topOff q = s.topOff q) ∧
    (∀ q, (s.transmit).sequenceMemory q = s.sequenceMemory q) ∧ (∀ q, (s.transmit).tank q = s.tank q) ∧
    (∀ q, (s.transmit).node q = s.node q) :=
  ⟨fun q => Device.line_congr _ _ q (by simp),
    fun q => Device.governor_congr _ _ q (by simp),
    fun q => Device.hose_congr _ _ q (by simp),
    fun q => Device.topOff_congr _ _ q (by simp),
    fun q => Device.sequenceMemory_congr _ _ q (by simp),
    fun q => Device.tank_congr _ _ q (by simp),
    fun q => Device.node_congr _ _ q (by simp)⟩

@[simp] theorem Device.sendAdvice_reads (s : Device) (t : TankNo) (v : Advice) :
    (∀ q, (s.sendAdvice t v).line q = s.line q) ∧ (∀ q, (s.sendAdvice t v).governor q = s.governor q) ∧
    (∀ q, (s.sendAdvice t v).hose q = s.hose q) ∧ (∀ q, (s.sendAdvice t v).topOff q = s.topOff q) ∧
    (∀ q, (s.sendAdvice t v).sequenceMemory q = s.sequenceMemory q) ∧ (∀ q, (s.sendAdvice t v).tank q = s.tank q) ∧
    (∀ q, (s.sendAdvice t v).node q = s.node q) :=
  ⟨fun q => Device.line_congr _ _ q (by simp),
    fun q => Device.governor_congr _ _ q (by simp),
    fun q => Device.hose_congr _ _ q (by simp),
    fun q => Device.topOff_congr _ _ q (by simp),
    fun q => Device.sequenceMemory_congr _ _ q (by simp),
    fun q => Device.tank_congr _ _ q (by simp),
    fun q => Device.node_congr _ _ q (by simp)⟩

@[simp] theorem Device.sendStopping_reads (s : Device) (l : Line) :
    (∀ q, (s.sendStopping l).line q = s.line q) ∧ (∀ q, (s.sendStopping l).governor q = s.governor q) ∧
    (∀ q, (s.sendStopping l).hose q = s.hose q) ∧ (∀ q, (s.sendStopping l).topOff q = s.topOff q) ∧
    (∀ q, (s.sendStopping l).sequenceMemory q = s.sequenceMemory q) ∧ (∀ q, (s.sendStopping l).tank q = s.tank q) ∧
    (∀ q, (s.sendStopping l).node q = s.node q) :=
  ⟨fun q => Device.line_congr _ _ q (by simp),
    fun q => Device.governor_congr _ _ q (by simp),
    fun q => Device.hose_congr _ _ q (by simp),
    fun q => Device.topOff_congr _ _ q (by simp),
    fun q => Device.sequenceMemory_congr _ _ q (by simp),
    fun q => Device.tank_congr _ _ q (by simp),
    fun q => Device.node_congr _ _ q (by simp)⟩

@[simp] theorem Device.recompute_reads (s : Device) (l : Line) :
    (∀ q, (s.recompute l).governor q = s.governor q) ∧ (∀ q, (s.recompute l).hose q = s.hose q) ∧
    (∀ q, (s.recompute l).sequenceMemory q = s.sequenceMemory q) ∧ (∀ q, (s.recompute l).tank q = s.tank q) ∧
    (∀ q, (s.recompute l).node q = s.node q) :=
  ⟨fun q => Device.governor_congr _ _ q (by simp),
    fun q => Device.hose_congr _ _ q (by simp),
    fun q => Device.sequenceMemory_congr _ _ q (by simp),
    fun q => Device.tank_congr _ _ q (by simp),
    fun q => Device.node_congr _ _ q (by simp)⟩

@[simp] theorem Device.enterState_reads (s : Device) (l : Line) (st : LineState) (p : Step) (c : ReportCause) :
    (∀ q, (s.enterState l st p c).sequenceMemory q = s.sequenceMemory q) ∧
    (∀ q, (s.enterState l st p c).tank q = s.tank q) :=
  ⟨fun q => Device.sequenceMemory_congr _ _ q (by simp),
    fun q => Device.tank_congr _ _ q (by simp)⟩

@[simp] theorem Device.setStep_reads (s : Device) (l : Line) (p : Step) :
    (∀ q, (s.setStep l p).governor q = s.governor q) ∧ (∀ q, (s.setStep l p).hose q = s.hose q) ∧
    (∀ q, (s.setStep l p).topOff q = s.topOff q) ∧ (∀ q, (s.setStep l p).sequenceMemory q = s.sequenceMemory q) ∧
    (∀ q, (s.setStep l p).tank q = s.tank q) ∧ (∀ q, (s.setStep l p).node q = s.node q) :=
  ⟨fun q => Device.governor_congr _ _ q (by simp),
    fun q => Device.hose_congr _ _ q (by simp),
    fun q => Device.topOff_congr _ _ q (by simp),
    fun q => Device.sequenceMemory_congr _ _ q (by simp),
    fun q => Device.tank_congr _ _ q (by simp),
    fun q => Device.node_congr _ _ q (by simp)⟩

@[simp] theorem Device.setDeadline_reads (s : Device) (l : Line) (d : Time) :
    (∀ q, (s.setDeadline l d).governor q = s.governor q) ∧ (∀ q, (s.setDeadline l d).hose q = s.hose q) ∧
    (∀ q, (s.setDeadline l d).topOff q = s.topOff q) ∧
    (∀ q, (s.setDeadline l d).sequenceMemory q = s.sequenceMemory q) ∧
    (∀ q, (s.setDeadline l d).tank q = s.tank q) ∧ (∀ q, (s.setDeadline l d).node q = s.node q) :=
  ⟨fun q => Device.governor_congr _ _ q (by simp),
    fun q => Device.hose_congr _ _ q (by simp),
    fun q => Device.topOff_congr _ _ q (by simp),
    fun q => Device.sequenceMemory_congr _ _ q (by simp),
    fun q => Device.tank_congr _ _ q (by simp),
    fun q => Device.node_congr _ _ q (by simp)⟩

@[simp] theorem Device.handTopping_reads (s : Device) (l : Line) :
    (∀ q, (s.handTopping l).sequenceMemory q = s.sequenceMemory q) ∧ (∀ q, (s.handTopping l).tank q = s.tank q) :=
  ⟨fun q => Device.sequenceMemory_congr _ _ q (by simp),
    fun q => Device.tank_congr _ _ q (by simp)⟩

@[simp] theorem Device.handToppingAll_reads (s : Device) :
    (∀ q, (s.handToppingAll).sequenceMemory q = s.sequenceMemory q) ∧ (∀ q, (s.handToppingAll).tank q = s.tank q) :=
  ⟨fun q => Device.sequenceMemory_congr _ _ q (by simp),
    fun q => Device.tank_congr _ _ q (by simp)⟩

@[simp] theorem Device.tripLine_reads (s : Device) (l : Line) (c : Cause) :
    (∀ q, (s.tripLine l c).tank q = s.tank q) :=
  fun q => Device.tank_congr _ _ q (by simp)

@[simp] theorem Device.setSequence_reads (s : Device) (l : Line) (p : Step) :
    (∀ q, (s.setSequence l p).governor q = s.governor q) ∧ (∀ q, (s.setSequence l p).hose q = s.hose q) ∧
    (∀ q, (s.setSequence l p).topOff q = s.topOff q) ∧
    (∀ q, (s.setSequence l p).sequenceMemory q = s.sequenceMemory q) ∧
    (∀ q, (s.setSequence l p).tank q = s.tank q) ∧ (∀ q, (s.setSequence l p).node q = s.node q) :=
  ⟨fun q => Device.governor_congr _ _ q (by simp),
    fun q => Device.hose_congr _ _ q (by simp),
    fun q => Device.topOff_congr _ _ q (by simp),
    fun q => Device.sequenceMemory_congr _ _ q (by simp),
    fun q => Device.tank_congr _ _ q (by simp),
    fun q => Device.node_congr _ _ q (by simp)⟩

@[simp] theorem Device.setPumpDeadline_reads (s : Device) (l : Line) (d : Option Time) :
    (∀ q, (s.setPumpDeadline l d).line q = s.line q) ∧ (∀ q, (s.setPumpDeadline l d).governor q = s.governor q) ∧
    (∀ q, (s.setPumpDeadline l d).hose q = s.hose q) ∧ (∀ q, (s.setPumpDeadline l d).topOff q = s.topOff q) ∧
    (∀ q, (s.setPumpDeadline l d).sequenceMemory q = s.sequenceMemory q) ∧
    (∀ q, (s.setPumpDeadline l d).tank q = s.tank q) ∧ (∀ q, (s.setPumpDeadline l d).node q = s.node q) :=
  ⟨fun q => Device.line_congr _ _ q (by simp),
    fun q => Device.governor_congr _ _ q (by simp),
    fun q => Device.hose_congr _ _ q (by simp),
    fun q => Device.topOff_congr _ _ q (by simp),
    fun q => Device.sequenceMemory_congr _ _ q (by simp),
    fun q => Device.tank_congr _ _ q (by simp),
    fun q => Device.node_congr _ _ q (by simp)⟩

@[simp] theorem Device.claimUnlessAtRest_reads (s : Device) (l : Line) (r : Role) (t : Target) :
    (∀ q, (s.claimUnlessAtRest l r t).line q = s.line q) ∧
    (∀ q, (s.claimUnlessAtRest l r t).governor q = s.governor q) ∧
    (∀ q, (s.claimUnlessAtRest l r t).hose q = s.hose q) ∧
    (∀ q, (s.claimUnlessAtRest l r t).topOff q = s.topOff q) ∧
    (∀ q, (s.claimUnlessAtRest l r t).sequenceMemory q = s.sequenceMemory q) ∧
    (∀ q, (s.claimUnlessAtRest l r t).tank q = s.tank q) :=
  ⟨fun q => Device.line_congr _ _ q (by simp),
    fun q => Device.governor_congr _ _ q (by simp),
    fun q => Device.hose_congr _ _ q (by simp),
    fun q => Device.topOff_congr _ _ q (by simp),
    fun q => Device.sequenceMemory_congr _ _ q (by simp),
    fun q => Device.tank_congr _ _ q (by simp)⟩

@[simp] theorem Device.esdStart_reads (s : Device) (l : Line) :
    (∀ q, (s.esdStart l).governor q = s.governor q) ∧ (∀ q, (s.esdStart l).hose q = s.hose q) ∧
    (∀ q, (s.esdStart l).topOff q = s.topOff q) ∧ (∀ q, (s.esdStart l).sequenceMemory q = s.sequenceMemory q) ∧
    (∀ q, (s.esdStart l).tank q = s.tank q) :=
  ⟨fun q => Device.governor_congr _ _ q (by simp),
    fun q => Device.hose_congr _ _ q (by simp),
    fun q => Device.topOff_congr _ _ q (by simp),
    fun q => Device.sequenceMemory_congr _ _ q (by simp),
    fun q => Device.tank_congr _ _ q (by simp)⟩

@[simp] theorem Device.lineSummary_reads (s : Device) (l : Line) :
    (∀ q, (s.lineSummary l).line q = s.line q) ∧ (∀ q, (s.lineSummary l).governor q = s.governor q) ∧
    (∀ q, (s.lineSummary l).hose q = s.hose q) ∧ (∀ q, (s.lineSummary l).topOff q = s.topOff q) ∧
    (∀ q, (s.lineSummary l).sequenceMemory q = s.sequenceMemory q) ∧ (∀ q, (s.lineSummary l).tank q = s.tank q) ∧
    (∀ q, (s.lineSummary l).node q = s.node q) :=
  ⟨fun q => Device.line_congr _ _ q (by simp),
    fun q => Device.governor_congr _ _ q (by simp),
    fun q => Device.hose_congr _ _ q (by simp),
    fun q => Device.topOff_congr _ _ q (by simp),
    fun q => Device.sequenceMemory_congr _ _ q (by simp),
    fun q => Device.tank_congr _ _ q (by simp),
    fun q => Device.node_congr _ _ q (by simp)⟩

@[simp] theorem Device.esdFinish_reads (s : Device) (l : Line) :
    (∀ q, (s.esdFinish l).sequenceMemory q = s.sequenceMemory q) ∧ (∀ q, (s.esdFinish l).tank q = s.tank q) :=
  ⟨fun q => Device.sequenceMemory_congr _ _ q (by simp),
    fun q => Device.tank_congr _ _ q (by simp)⟩

@[simp] theorem Device.esdDischarge_reads (s : Device) (l : Line) :
    (∀ q, (s.esdDischarge l).sequenceMemory q = s.sequenceMemory q) ∧ (∀ q, (s.esdDischarge l).tank q = s.tank q) :=
  ⟨fun q => Device.sequenceMemory_congr _ _ q (by simp),
    fun q => Device.tank_congr _ _ q (by simp)⟩

@[simp] theorem Device.esdManifold_reads (s : Device) (l : Line) :
    (∀ q, (s.esdManifold l).sequenceMemory q = s.sequenceMemory q) ∧ (∀ q, (s.esdManifold l).tank q = s.tank q) :=
  ⟨fun q => Device.sequenceMemory_congr _ _ q (by simp),
    fun q => Device.tank_congr _ _ q (by simp)⟩

@[simp] theorem Device.reportEsd_reads (s : Device) (c : Cause) (l n v f : Nat) :
    (∀ q, (s.reportEsd c l n v f).line q = s.line q) ∧ (∀ q, (s.reportEsd c l n v f).governor q = s.governor q) ∧
    (∀ q, (s.reportEsd c l n v f).hose q = s.hose q) ∧ (∀ q, (s.reportEsd c l n v f).topOff q = s.topOff q) ∧
    (∀ q, (s.reportEsd c l n v f).sequenceMemory q = s.sequenceMemory q) ∧
    (∀ q, (s.reportEsd c l n v f).tank q = s.tank q) ∧ (∀ q, (s.reportEsd c l n v f).node q = s.node q) :=
  ⟨fun q => Device.line_congr _ _ q (by simp),
    fun q => Device.governor_congr _ _ q (by simp),
    fun q => Device.hose_congr _ _ q (by simp),
    fun q => Device.topOff_congr _ _ q (by simp),
    fun q => Device.sequenceMemory_congr _ _ q (by simp),
    fun q => Device.tank_congr _ _ q (by simp),
    fun q => Device.node_congr _ _ q (by simp)⟩

@[simp] theorem Device.tripLines_reads (s : Device) (c : Cause) :
    (∀ q, (s.tripLines c).tank q = s.tank q) :=
  fun q => Device.tank_congr _ _ q (by simp)

@[simp] theorem Device.startSequences_reads (s : Device) (ls : List Line) :
    (∀ q, (s.startSequences ls).governor q = s.governor q) ∧ (∀ q, (s.startSequences ls).hose q = s.hose q) ∧
    (∀ q, (s.startSequences ls).topOff q = s.topOff q) ∧
    (∀ q, (s.startSequences ls).sequenceMemory q = s.sequenceMemory q) ∧
    (∀ q, (s.startSequences ls).tank q = s.tank q) :=
  ⟨fun q => Device.governor_congr _ _ q (by simp),
    fun q => Device.hose_congr _ _ q (by simp),
    fun q => Device.topOff_congr _ _ q (by simp),
    fun q => Device.sequenceMemory_congr _ _ q (by simp),
    fun q => Device.tank_congr _ _ q (by simp)⟩

@[simp] theorem Device.setLatch_reads (s : Device) (c : Cause) (l n v : Nat) :
    (∀ q, (s.setLatch c l n v).tank q = s.tank q) :=
  fun q => Device.tank_congr _ _ q (by simp)

@[simp] theorem Device.esdTrigger_reads (s : Device) (c : Cause) (l n v : Nat) :
    (∀ q, (s.esdTrigger c l n v).tank q = s.tank q) :=
  fun q => Device.tank_congr _ _ q (by simp)

@[simp] theorem Device.esdEnd_reads (s : Device) (l : Line) (n : NodeNo) :
    (∀ q, (s.esdEnd l n).sequenceMemory q = s.sequenceMemory q) ∧ (∀ q, (s.esdEnd l n).tank q = s.tank q) :=
  ⟨fun q => Device.sequenceMemory_congr _ _ q (by simp),
    fun q => Device.tank_congr _ _ q (by simp)⟩

@[simp] theorem Device.takeShipLoop_reads (s : Device) (c : Loop) :
    (∀ q, (s.takeShipLoop c).tank q = s.tank q) :=
  fun q => Device.tank_congr _ _ q (by simp)

@[simp] theorem Device.primeClaim_reads (s : Device) (l : Line) :
    (∀ q, (s.primeClaim l).sequenceMemory q = s.sequenceMemory q) ∧ (∀ q, (s.primeClaim l).tank q = s.tank q) :=
  ⟨fun q => Device.sequenceMemory_congr _ _ q (by simp),
    fun q => Device.tank_congr _ _ q (by simp)⟩

@[simp] theorem Device.primeFromLineup_reads (s : Device) (l : Line) :
    (∀ q, (s.primeFromLineup l).sequenceMemory q = s.sequenceMemory q) ∧
    (∀ q, (s.primeFromLineup l).tank q = s.tank q) :=
  ⟨fun q => Device.sequenceMemory_congr _ _ q (by simp),
    fun q => Device.tank_congr _ _ q (by simp)⟩

@[simp] theorem Device.primeFromHeld_reads (s : Device) (l : Line) :
    (∀ q, (s.primeFromHeld l).sequenceMemory q = s.sequenceMemory q) ∧ (∀ q, (s.primeFromHeld l).tank q = s.tank q) :=
  ⟨fun q => Device.sequenceMemory_congr _ _ q (by simp),
    fun q => Device.tank_congr _ _ q (by simp)⟩

@[simp] theorem Device.primingComplete_reads (s : Device) (l : Line) :
    (∀ q, (s.primingComplete l).sequenceMemory q = s.sequenceMemory q) ∧
    (∀ q, (s.primingComplete l).tank q = s.tank q) :=
  ⟨fun q => Device.sequenceMemory_congr _ _ q (by simp),
    fun q => Device.tank_congr _ _ q (by simp)⟩

@[simp] theorem Device.enterHeld_reads (s : Device) (l : Line) (c : HoldCause) :
    (∀ q, (s.enterHeld l c).sequenceMemory q = s.sequenceMemory q) ∧ (∀ q, (s.enterHeld l c).tank q = s.tank q) :=
  ⟨fun q => Device.sequenceMemory_congr _ _ q (by simp),
    fun q => Device.tank_congr _ _ q (by simp)⟩

@[simp] theorem Device.holdTrigger_reads (s : Device) (l : Line) (c : HoldCause) :
    (∀ q, (s.holdTrigger l c).sequenceMemory q = s.sequenceMemory q) ∧ (∀ q, (s.holdTrigger l c).tank q = s.tank q) :=
  ⟨fun q => Device.sequenceMemory_congr _ _ q (by simp),
    fun q => Device.tank_congr _ _ q (by simp)⟩

@[simp] theorem Device.clearHold_reads (s : Device) (l : Line) (c : HoldCause) :
    (∀ q, (s.clearHold l c).sequenceMemory q = s.sequenceMemory q) ∧ (∀ q, (s.clearHold l c).tank q = s.tank q) :=
  ⟨fun q => Device.sequenceMemory_congr _ _ q (by simp),
    fun q => Device.tank_congr _ _ q (by simp)⟩

@[simp] theorem Device.reportTank_reads (s : Device) (t : TankNo) (e : Tank) (c : ReportCause) :
    (∀ q, (s.reportTank t e c).line q = s.line q) ∧ (∀ q, (s.reportTank t e c).governor q = s.governor q) ∧
    (∀ q, (s.reportTank t e c).hose q = s.hose q) ∧ (∀ q, (s.reportTank t e c).topOff q = s.topOff q) ∧
    (∀ q, (s.reportTank t e c).sequenceMemory q = s.sequenceMemory q) ∧
    (∀ q, (s.reportTank t e c).tank q = s.tank q) ∧ (∀ q, (s.reportTank t e c).node q = s.node q) :=
  ⟨fun q => Device.line_congr _ _ q (by simp),
    fun q => Device.governor_congr _ _ q (by simp),
    fun q => Device.hose_congr _ _ q (by simp),
    fun q => Device.topOff_congr _ _ q (by simp),
    fun q => Device.sequenceMemory_congr _ _ q (by simp),
    fun q => Device.tank_congr _ _ q (by simp),
    fun q => Device.node_congr _ _ q (by simp)⟩

@[simp] theorem Device.restate_reads (s : Device) (t : TankNo) (e : Tank) :
    (∀ q, (s.restate t e).line q = s.line q) ∧ (∀ q, (s.restate t e).governor q = s.governor q) ∧
    (∀ q, (s.restate t e).hose q = s.hose q) ∧ (∀ q, (s.restate t e).topOff q = s.topOff q) ∧
    (∀ q, (s.restate t e).sequenceMemory q = s.sequenceMemory q) ∧ (∀ q, (s.restate t e).node q = s.node q) :=
  ⟨fun q => Device.line_congr _ _ q (by simp),
    fun q => Device.governor_congr _ _ q (by simp),
    fun q => Device.hose_congr _ _ q (by simp),
    fun q => Device.topOff_congr _ _ q (by simp),
    fun q => Device.sequenceMemory_congr _ _ q (by simp),
    fun q => Device.node_congr _ _ q (by simp)⟩

@[simp] theorem Device.releaseTank_reads (s : Device) (l : Line) (t : TankNo) :
    (∀ q, (s.releaseTank l t).line q = s.line q) ∧ (∀ q, (s.releaseTank l t).governor q = s.governor q) ∧
    (∀ q, (s.releaseTank l t).hose q = s.hose q) ∧ (∀ q, (s.releaseTank l t).topOff q = s.topOff q) ∧
    (∀ q, (s.releaseTank l t).sequenceMemory q = s.sequenceMemory q) ∧ (∀ q, (s.releaseTank l t).node q = s.node q) :=
  ⟨fun q => Device.line_congr _ _ q (by simp),
    fun q => Device.governor_congr _ _ q (by simp),
    fun q => Device.hose_congr _ _ q (by simp),
    fun q => Device.topOff_congr _ _ q (by simp),
    fun q => Device.sequenceMemory_congr _ _ q (by simp),
    fun q => Device.node_congr _ _ q (by simp)⟩

@[simp] theorem Device.release_reads (s : Device) (l : Line) :
    (∀ q, (s.release l).line q = s.line q) ∧ (∀ q, (s.release l).governor q = s.governor q) ∧
    (∀ q, (s.release l).hose q = s.hose q) ∧ (∀ q, (s.release l).sequenceMemory q = s.sequenceMemory q) ∧
    (∀ q, (s.release l).node q = s.node q) :=
  ⟨fun q => Device.line_congr _ _ q (by simp),
    fun q => Device.governor_congr _ _ q (by simp),
    fun q => Device.hose_congr _ _ q (by simp),
    fun q => Device.sequenceMemory_congr _ _ q (by simp),
    fun q => Device.node_congr _ _ q (by simp)⟩

@[simp] theorem Device.closeValve_reads (s : Device) (l : Line) (r : Role) :
    (∀ q, (s.closeValve l r).line q = s.line q) ∧ (∀ q, (s.closeValve l r).governor q = s.governor q) ∧
    (∀ q, (s.closeValve l r).hose q = s.hose q) ∧ (∀ q, (s.closeValve l r).topOff q = s.topOff q) ∧
    (∀ q, (s.closeValve l r).tank q = s.tank q) :=
  ⟨fun q => Device.line_congr _ _ q (by simp),
    fun q => Device.governor_congr _ _ q (by simp),
    fun q => Device.hose_congr _ _ q (by simp),
    fun q => Device.topOff_congr _ _ q (by simp),
    fun q => Device.tank_congr _ _ q (by simp)⟩

@[simp] theorem Device.enterStripping_reads (s : Device) (l : Line) :
    (∀ q, (s.enterStripping l).sequenceMemory q = s.sequenceMemory q) ∧
    (∀ q, (s.enterStripping l).tank q = s.tank q) :=
  ⟨fun q => Device.sequenceMemory_congr _ _ q (by simp),
    fun q => Device.tank_congr _ _ q (by simp)⟩

@[simp] theorem Device.valveRemote_reads (s : Device) (l : Line) (r : Role) :
    (∀ q, (s.valveRemote l r).tank q = s.tank q) :=
  fun q => Device.tank_congr _ _ q (by simp)

@[simp] theorem Device.lineupEnd_reads (s : Device) (l : Line) (r : Role) (o : TxOutcome) :
    (∀ q, (s.lineupEnd l r o).tank q = s.tank q) :=
  fun q => Device.tank_congr _ _ q (by simp)

@[simp] theorem Device.dropLatch_reads (s : Device) :
    (∀ q, (s.dropLatch).line q = s.line q) ∧ (∀ q, (s.dropLatch).governor q = s.governor q) ∧
    (∀ q, (s.dropLatch).hose q = s.hose q) ∧ (∀ q, (s.dropLatch).topOff q = s.topOff q) ∧
    (∀ q, (s.dropLatch).sequenceMemory q = s.sequenceMemory q) ∧ (∀ q, (s.dropLatch).tank q = s.tank q) ∧
    (∀ q, (s.dropLatch).node q = s.node q) :=
  ⟨fun q => Device.line_congr _ _ q (by simp),
    fun q => Device.governor_congr _ _ q (by simp),
    fun q => Device.hose_congr _ _ q (by simp),
    fun q => Device.topOff_congr _ _ q (by simp),
    fun q => Device.sequenceMemory_congr _ _ q (by simp),
    fun q => Device.tank_congr _ _ q (by simp),
    fun q => Device.node_congr _ _ q (by simp)⟩

@[simp] theorem Device.advise_reads (s : Device) (t : TankNo) (v : Advice) :
    (∀ q, (s.advise t v).line q = s.line q) ∧ (∀ q, (s.advise t v).governor q = s.governor q) ∧
    (∀ q, (s.advise t v).hose q = s.hose q) ∧ (∀ q, (s.advise t v).topOff q = s.topOff q) ∧
    (∀ q, (s.advise t v).sequenceMemory q = s.sequenceMemory q) ∧ (∀ q, (s.advise t v).node q = s.node q) :=
  ⟨fun q => Device.line_congr _ _ q (by simp),
    fun q => Device.governor_congr _ _ q (by simp),
    fun q => Device.hose_congr _ _ q (by simp),
    fun q => Device.topOff_congr _ _ q (by simp),
    fun q => Device.sequenceMemory_congr _ _ q (by simp),
    fun q => Device.node_congr _ _ q (by simp)⟩

@[simp] theorem Device.setCloseDeadline_reads (s : Device) (t : TankNo) (d : Option Time) :
    (∀ q, (s.setCloseDeadline t d).line q = s.line q) ∧ (∀ q, (s.setCloseDeadline t d).governor q = s.governor q) ∧
    (∀ q, (s.setCloseDeadline t d).hose q = s.hose q) ∧ (∀ q, (s.setCloseDeadline t d).topOff q = s.topOff q) ∧
    (∀ q, (s.setCloseDeadline t d).sequenceMemory q = s.sequenceMemory q) ∧
    (∀ q, (s.setCloseDeadline t d).node q = s.node q) :=
  ⟨fun q => Device.line_congr _ _ q (by simp),
    fun q => Device.governor_congr _ _ q (by simp),
    fun q => Device.hose_congr _ _ q (by simp),
    fun q => Device.topOff_congr _ _ q (by simp),
    fun q => Device.sequenceMemory_congr _ _ q (by simp),
    fun q => Device.node_congr _ _ q (by simp)⟩

@[simp] theorem Device.adviseTank_reads (s : Device) (t : TankNo) (o : TankState) :
    (∀ q, (s.adviseTank t o).line q = s.line q) ∧ (∀ q, (s.adviseTank t o).governor q = s.governor q) ∧
    (∀ q, (s.adviseTank t o).hose q = s.hose q) ∧ (∀ q, (s.adviseTank t o).topOff q = s.topOff q) ∧
    (∀ q, (s.adviseTank t o).sequenceMemory q = s.sequenceMemory q) ∧ (∀ q, (s.adviseTank t o).node q = s.node q) :=
  ⟨fun q => Device.line_congr _ _ q (by simp),
    fun q => Device.governor_congr _ _ q (by simp),
    fun q => Device.hose_congr _ _ q (by simp),
    fun q => Device.topOff_congr _ _ q (by simp),
    fun q => Device.sequenceMemory_congr _ _ q (by simp),
    fun q => Device.node_congr _ _ q (by simp)⟩

@[simp] theorem Device.overfillTrigger_reads (s : Device) (l : Line) (t : TankNo) (e : Tank) :
    (∀ q, (s.overfillTrigger l t e).tank q = s.tank q) :=
  fun q => Device.tank_congr _ _ q (by simp)

@[simp] theorem Device.pathEffect_reads (s : Device) (l : Line) (a b : Nat) :
    (∀ q, (s.pathEffect l a b).sequenceMemory q = s.sequenceMemory q) ∧
    (∀ q, (s.pathEffect l a b).tank q = s.tank q) :=
  ⟨fun q => Device.sequenceMemory_congr _ _ q (by simp),
    fun q => Device.tank_congr _ _ q (by simp)⟩

@[simp] theorem Device.handToppingOf_reads (s : Device) (e : Tank) :
    (∀ q, (s.handToppingOf e).sequenceMemory q = s.sequenceMemory q) ∧ (∀ q, (s.handToppingOf e).tank q = s.tank q) :=
  ⟨fun q => Device.sequenceMemory_congr _ _ q (by simp),
    fun q => Device.tank_congr _ _ q (by simp)⟩

@[simp] theorem Device.assignTank_reads (s : Device) (l : Line) (t : TankNo) :
    (∀ q, (s.assignTank l t).line q = s.line q) ∧ (∀ q, (s.assignTank l t).governor q = s.governor q) ∧
    (∀ q, (s.assignTank l t).hose q = s.hose q) ∧ (∀ q, (s.assignTank l t).topOff q = s.topOff q) ∧
    (∀ q, (s.assignTank l t).sequenceMemory q = s.sequenceMemory q) ∧ (∀ q, (s.assignTank l t).node q = s.node q) :=
  ⟨fun q => Device.line_congr _ _ q (by simp),
    fun q => Device.governor_congr _ _ q (by simp),
    fun q => Device.hose_congr _ _ q (by simp),
    fun q => Device.topOff_congr _ _ q (by simp),
    fun q => Device.sequenceMemory_congr _ _ q (by simp),
    fun q => Device.node_congr _ _ q (by simp)⟩

@[simp] theorem Device.assignTanks_reads (s : Device) (l : Line) (ts : List TankNo) :
    (∀ q, (s.assignTanks l ts).governor q = s.governor q) ∧ (∀ q, (s.assignTanks l ts).hose q = s.hose q) ∧
    (∀ q, (s.assignTanks l ts).sequenceMemory q = s.sequenceMemory q) ∧
    (∀ q, (s.assignTanks l ts).node q = s.node q) :=
  ⟨fun q => Device.governor_congr _ _ q (by simp),
    fun q => Device.hose_congr _ _ q (by simp),
    fun q => Device.sequenceMemory_congr _ _ q (by simp),
    fun q => Device.node_congr _ _ q (by simp)⟩

@[simp] theorem Device.emptyInFlight_reads (s : Device) (n : NodeNo) (a : Act) (o : TxOutcome) :
    (∀ q, (s.emptyInFlight n a o).line q = s.line q) ∧ (∀ q, (s.emptyInFlight n a o).governor q = s.governor q) ∧
    (∀ q, (s.emptyInFlight n a o).hose q = s.hose q) ∧ (∀ q, (s.emptyInFlight n a o).topOff q = s.topOff q) ∧
    (∀ q, (s.emptyInFlight n a o).sequenceMemory q = s.sequenceMemory q) ∧
    (∀ q, (s.emptyInFlight n a o).tank q = s.tank q) :=
  ⟨fun q => Device.line_congr _ _ q (by simp),
    fun q => Device.governor_congr _ _ q (by simp),
    fun q => Device.hose_congr _ _ q (by simp),
    fun q => Device.topOff_congr _ _ q (by simp),
    fun q => Device.sequenceMemory_congr _ _ q (by simp),
    fun q => Device.tank_congr _ _ q (by simp)⟩

@[simp] theorem Device.promote_reads (s : Device) (n : NodeNo) :
    (∀ q, (s.promote n).line q = s.line q) ∧ (∀ q, (s.promote n).governor q = s.governor q) ∧
    (∀ q, (s.promote n).hose q = s.hose q) ∧ (∀ q, (s.promote n).topOff q = s.topOff q) ∧
    (∀ q, (s.promote n).sequenceMemory q = s.sequenceMemory q) ∧ (∀ q, (s.promote n).tank q = s.tank q) :=
  ⟨fun q => Device.line_congr _ _ q (by simp),
    fun q => Device.governor_congr _ _ q (by simp),
    fun q => Device.hose_congr _ _ q (by simp),
    fun q => Device.topOff_congr _ _ q (by simp),
    fun q => Device.sequenceMemory_congr _ _ q (by simp),
    fun q => Device.tank_congr _ _ q (by simp)⟩

@[simp] theorem Device.tripReading_reads (s : Device) (l : Line) (p : Nat) (b : Option Band) :
    (∀ q, (s.tripReading l p b).tank q = s.tank q) :=
  fun q => Device.tank_congr _ _ q (by simp)

@[simp] theorem Device.primingReading_reads (s : Device) (l : Line) (p : Nat) :
    (∀ q, (s.primingReading l p).sequenceMemory q = s.sequenceMemory q) ∧
    (∀ q, (s.primingReading l p).tank q = s.tank q) :=
  ⟨fun q => Device.sequenceMemory_congr _ _ q (by simp),
    fun q => Device.tank_congr _ _ q (by simp)⟩

@[simp] theorem Device.lowReading_reads (s : Device) (l : Line) (p : Nat) :
    (∀ q, (s.lowReading l p).tank q = s.tank q) :=
  fun q => Device.tank_congr _ _ q (by simp)

@[simp] theorem Device.resetLow_reads (s : Device) (l : Line) :
    (∀ q, (s.resetLow l).line q = s.line q) ∧ (∀ q, (s.resetLow l).governor q = s.governor q) ∧
    (∀ q, (s.resetLow l).topOff q = s.topOff q) ∧ (∀ q, (s.resetLow l).sequenceMemory q = s.sequenceMemory q) ∧
    (∀ q, (s.resetLow l).tank q = s.tank q) ∧ (∀ q, (s.resetLow l).node q = s.node q) :=
  ⟨fun q => Device.line_congr _ _ q (by simp),
    fun q => Device.governor_congr _ _ q (by simp),
    fun q => Device.topOff_congr _ _ q (by simp),
    fun q => Device.sequenceMemory_congr _ _ q (by simp),
    fun q => Device.tank_congr _ _ q (by simp),
    fun q => Device.node_congr _ _ q (by simp)⟩

@[simp] theorem Device.countDelivered_reads (s : Device) (l : Line) (w : Word) :
    (∀ q, (s.countDelivered l w).sequenceMemory q = s.sequenceMemory q) ∧
    (∀ q, (s.countDelivered l w).tank q = s.tank q) :=
  ⟨fun q => Device.sequenceMemory_congr _ _ q (by simp),
    fun q => Device.tank_congr _ _ q (by simp)⟩

@[simp] theorem Device.firstTarget_reads (s : Device) (n : NodeNo) (v : ValveState) :
    (∀ q, (s.firstTarget n v).line q = s.line q) ∧ (∀ q, (s.firstTarget n v).governor q = s.governor q) ∧
    (∀ q, (s.firstTarget n v).hose q = s.hose q) ∧ (∀ q, (s.firstTarget n v).topOff q = s.topOff q) ∧
    (∀ q, (s.firstTarget n v).sequenceMemory q = s.sequenceMemory q) ∧
    (∀ q, (s.firstTarget n v).tank q = s.tank q) ∧ (∀ q, (s.firstTarget n v).node q = s.node q) :=
  ⟨fun q => Device.line_congr _ _ q (by simp),
    fun q => Device.governor_congr _ _ q (by simp),
    fun q => Device.hose_congr _ _ q (by simp),
    fun q => Device.topOff_congr _ _ q (by simp),
    fun q => Device.sequenceMemory_congr _ _ q (by simp),
    fun q => Device.tank_congr _ _ q (by simp),
    fun q => Device.node_congr _ _ q (by simp)⟩

@[simp] theorem Device.clearLocal_reads (s : Device) (l : Line) :
    (∀ q, (s.clearLocal l).sequenceMemory q = s.sequenceMemory q) ∧ (∀ q, (s.clearLocal l).tank q = s.tank q) :=
  ⟨fun q => Device.sequenceMemory_congr _ _ q (by simp),
    fun q => Device.tank_congr _ _ q (by simp)⟩

@[simp] theorem Device.positionTaken_reads (s : Device) (b : Node) :
    (∀ q, (s.positionTaken b).tank q = s.tank q) :=
  fun q => Device.tank_congr _ _ q (by simp)

@[simp] theorem Device.takePosition_reads (s : Device) (n : NodeNo) (b : Node) (a : Answer) :
    (∀ q, (s.takePosition n b a).tank q = s.tank q) :=
  fun q => Device.tank_congr _ _ q (by simp)

@[simp] theorem Device.takeRecord_reads (s : Device) (n : NodeNo) (b : Node) (o : SlotOutcome) :
    (∀ q, (s.takeRecord n b o).tank q = s.tank q) :=
  fun q => Device.tank_congr _ _ q (by simp)

@[simp] theorem Device.becomeStale_reads (s : Device) (n : NodeNo) (o : SlotOutcome) :
    (∀ q, (s.becomeStale n o).sequenceMemory q = s.sequenceMemory q) ∧ (∀ q, (s.becomeStale n o).tank q = s.tank q) :=
  ⟨fun q => Device.sequenceMemory_congr _ _ q (by simp),
    fun q => Device.tank_congr _ _ q (by simp)⟩

@[simp] theorem Device.becomeFresh_reads (s : Device) (n : NodeNo) :
    (∀ q, (s.becomeFresh n).sequenceMemory q = s.sequenceMemory q) ∧ (∀ q, (s.becomeFresh n).tank q = s.tank q) :=
  ⟨fun q => Device.sequenceMemory_congr _ _ q (by simp),
    fun q => Device.tank_congr _ _ q (by simp)⟩

@[simp] theorem Device.takeFreshness_reads (s : Device) (n : NodeNo) (o : SlotOutcome) :
    (∀ q, (s.takeFreshness n o).sequenceMemory q = s.sequenceMemory q) ∧
    (∀ q, (s.takeFreshness n o).tank q = s.tank q) :=
  ⟨fun q => Device.sequenceMemory_congr _ _ q (by simp),
    fun q => Device.tank_congr _ _ q (by simp)⟩

@[simp] theorem Device.setInFlight_reads (s : Device) (n : NodeNo) (t : Transaction) (v : ValveState) :
    (∀ q, (s.setInFlight n t v).line q = s.line q) ∧ (∀ q, (s.setInFlight n t v).governor q = s.governor q) ∧
    (∀ q, (s.setInFlight n t v).hose q = s.hose q) ∧ (∀ q, (s.setInFlight n t v).topOff q = s.topOff q) ∧
    (∀ q, (s.setInFlight n t v).sequenceMemory q = s.sequenceMemory q) ∧
    (∀ q, (s.setInFlight n t v).tank q = s.tank q) :=
  ⟨fun q => Device.line_congr _ _ q (by simp),
    fun q => Device.governor_congr _ _ q (by simp),
    fun q => Device.hose_congr _ _ q (by simp),
    fun q => Device.topOff_congr _ _ q (by simp),
    fun q => Device.sequenceMemory_congr _ _ q (by simp),
    fun q => Device.tank_congr _ _ q (by simp)⟩

@[simp] theorem Device.takeRemote_reads (s : Device) (b : Node) (o : SlotOutcome) :
    (∀ q, (s.takeRemote b o).tank q = s.tank q) :=
  fun q => Device.tank_congr _ _ q (by simp)

@[simp] theorem Device.beginSlot_reads (s : Device) (n : NodeNo) :
    (∀ q, (s.beginSlot n).line q = s.line q) ∧ (∀ q, (s.beginSlot n).governor q = s.governor q) ∧
    (∀ q, (s.beginSlot n).hose q = s.hose q) ∧ (∀ q, (s.beginSlot n).topOff q = s.topOff q) ∧
    (∀ q, (s.beginSlot n).sequenceMemory q = s.sequenceMemory q) ∧ (∀ q, (s.beginSlot n).tank q = s.tank q) ∧
    (∀ q, (s.beginSlot n).node q = s.node q) :=
  ⟨fun q => Device.line_congr _ _ q (by simp),
    fun q => Device.governor_congr _ _ q (by simp),
    fun q => Device.hose_congr _ _ q (by simp),
    fun q => Device.topOff_congr _ _ q (by simp),
    fun q => Device.sequenceMemory_congr _ _ q (by simp),
    fun q => Device.tank_congr _ _ q (by simp),
    fun q => Device.node_congr _ _ q (by simp)⟩

@[simp] theorem Device.endFrame_reads (s : Device) :
    (∀ q, (s.endFrame).line q = s.line q) ∧ (∀ q, (s.endFrame).governor q = s.governor q) ∧
    (∀ q, (s.endFrame).hose q = s.hose q) ∧ (∀ q, (s.endFrame).topOff q = s.topOff q) ∧
    (∀ q, (s.endFrame).sequenceMemory q = s.sequenceMemory q) ∧ (∀ q, (s.endFrame).tank q = s.tank q) ∧
    (∀ q, (s.endFrame).node q = s.node q) :=
  ⟨fun q => Device.line_congr _ _ q (by simp),
    fun q => Device.governor_congr _ _ q (by simp),
    fun q => Device.hose_congr _ _ q (by simp),
    fun q => Device.topOff_congr _ _ q (by simp),
    fun q => Device.sequenceMemory_congr _ _ q (by simp),
    fun q => Device.tank_congr _ _ q (by simp),
    fun q => Device.node_congr _ _ q (by simp)⟩

@[simp] theorem Device.afterSlot_reads (s : Device) (n : NodeNo) :
    (∀ q, (s.afterSlot n).line q = s.line q) ∧ (∀ q, (s.afterSlot n).governor q = s.governor q) ∧
    (∀ q, (s.afterSlot n).hose q = s.hose q) ∧ (∀ q, (s.afterSlot n).topOff q = s.topOff q) ∧
    (∀ q, (s.afterSlot n).sequenceMemory q = s.sequenceMemory q) ∧ (∀ q, (s.afterSlot n).tank q = s.tank q) ∧
    (∀ q, (s.afterSlot n).node q = s.node q) :=
  ⟨fun q => Device.line_congr _ _ q (by simp),
    fun q => Device.governor_congr _ _ q (by simp),
    fun q => Device.hose_congr _ _ q (by simp),
    fun q => Device.topOff_congr _ _ q (by simp),
    fun q => Device.sequenceMemory_congr _ _ q (by simp),
    fun q => Device.tank_congr _ _ q (by simp),
    fun q => Device.node_congr _ _ q (by simp)⟩

@[simp] theorem Device.startFrame_reads (s : Device) :
    (∀ q, (s.startFrame).line q = s.line q) ∧ (∀ q, (s.startFrame).governor q = s.governor q) ∧
    (∀ q, (s.startFrame).hose q = s.hose q) ∧ (∀ q, (s.startFrame).topOff q = s.topOff q) ∧
    (∀ q, (s.startFrame).sequenceMemory q = s.sequenceMemory q) ∧ (∀ q, (s.startFrame).tank q = s.tank q) ∧
    (∀ q, (s.startFrame).node q = s.node q) :=
  ⟨fun q => Device.line_congr _ _ q (by simp),
    fun q => Device.governor_congr _ _ q (by simp),
    fun q => Device.hose_congr _ _ q (by simp),
    fun q => Device.topOff_congr _ _ q (by simp),
    fun q => Device.sequenceMemory_congr _ _ q (by simp),
    fun q => Device.tank_congr _ _ q (by simp),
    fun q => Device.node_congr _ _ q (by simp)⟩

@[simp] theorem Device.requestFrame_reads (s : Device) :
    (∀ q, (s.requestFrame).line q = s.line q) ∧ (∀ q, (s.requestFrame).governor q = s.governor q) ∧
    (∀ q, (s.requestFrame).hose q = s.hose q) ∧ (∀ q, (s.requestFrame).topOff q = s.topOff q) ∧
    (∀ q, (s.requestFrame).sequenceMemory q = s.sequenceMemory q) ∧ (∀ q, (s.requestFrame).tank q = s.tank q) ∧
    (∀ q, (s.requestFrame).node q = s.node q) :=
  ⟨fun q => Device.line_congr _ _ q (by simp),
    fun q => Device.governor_congr _ _ q (by simp),
    fun q => Device.hose_congr _ _ q (by simp),
    fun q => Device.topOff_congr _ _ q (by simp),
    fun q => Device.sequenceMemory_congr _ _ q (by simp),
    fun q => Device.tank_congr _ _ q (by simp),
    fun q => Device.node_congr _ _ q (by simp)⟩

@[simp] theorem Device.startDueFrame_reads (s : Device) :
    (∀ q, (s.startDueFrame).line q = s.line q) ∧ (∀ q, (s.startDueFrame).governor q = s.governor q) ∧
    (∀ q, (s.startDueFrame).hose q = s.hose q) ∧ (∀ q, (s.startDueFrame).topOff q = s.topOff q) ∧
    (∀ q, (s.startDueFrame).sequenceMemory q = s.sequenceMemory q) ∧ (∀ q, (s.startDueFrame).tank q = s.tank q) ∧
    (∀ q, (s.startDueFrame).node q = s.node q) :=
  ⟨fun q => Device.line_congr _ _ q (by simp),
    fun q => Device.governor_congr _ _ q (by simp),
    fun q => Device.hose_congr _ _ q (by simp),
    fun q => Device.topOff_congr _ _ q (by simp),
    fun q => Device.sequenceMemory_congr _ _ q (by simp),
    fun q => Device.tank_congr _ _ q (by simp),
    fun q => Device.node_congr _ _ q (by simp)⟩

@[simp] theorem Device.takeBusMode_reads (s : Device) :
    (∀ q, (s.takeBusMode).line q = s.line q) ∧ (∀ q, (s.takeBusMode).governor q = s.governor q) ∧
    (∀ q, (s.takeBusMode).hose q = s.hose q) ∧ (∀ q, (s.takeBusMode).topOff q = s.topOff q) ∧
    (∀ q, (s.takeBusMode).sequenceMemory q = s.sequenceMemory q) ∧ (∀ q, (s.takeBusMode).tank q = s.tank q) ∧
    (∀ q, (s.takeBusMode).node q = s.node q) :=
  ⟨fun q => Device.line_congr _ _ q (by simp),
    fun q => Device.governor_congr _ _ q (by simp),
    fun q => Device.hose_congr _ _ q (by simp),
    fun q => Device.topOff_congr _ _ q (by simp),
    fun q => Device.sequenceMemory_congr _ _ q (by simp),
    fun q => Device.tank_congr _ _ q (by simp),
    fun q => Device.node_congr _ _ q (by simp)⟩

@[simp] theorem Device.frameStart_reads (s : Device) :
    (∀ q, (s.frameStart).line q = s.line q) ∧ (∀ q, (s.frameStart).governor q = s.governor q) ∧
    (∀ q, (s.frameStart).hose q = s.hose q) ∧ (∀ q, (s.frameStart).topOff q = s.topOff q) ∧
    (∀ q, (s.frameStart).sequenceMemory q = s.sequenceMemory q) ∧ (∀ q, (s.frameStart).tank q = s.tank q) ∧
    (∀ q, (s.frameStart).node q = s.node q) :=
  ⟨fun q => Device.line_congr _ _ q (by simp),
    fun q => Device.governor_congr _ _ q (by simp),
    fun q => Device.hose_congr _ _ q (by simp),
    fun q => Device.topOff_congr _ _ q (by simp),
    fun q => Device.sequenceMemory_congr _ _ q (by simp),
    fun q => Device.tank_congr _ _ q (by simp),
    fun q => Device.node_congr _ _ q (by simp)⟩

@[simp] theorem Device.idleScanExpired_reads (s : Device) :
    (∀ q, (s.idleScanExpired).line q = s.line q) ∧ (∀ q, (s.idleScanExpired).governor q = s.governor q) ∧
    (∀ q, (s.idleScanExpired).hose q = s.hose q) ∧ (∀ q, (s.idleScanExpired).topOff q = s.topOff q) ∧
    (∀ q, (s.idleScanExpired).sequenceMemory q = s.sequenceMemory q) ∧
    (∀ q, (s.idleScanExpired).tank q = s.tank q) ∧ (∀ q, (s.idleScanExpired).node q = s.node q) :=
  ⟨fun q => Device.line_congr _ _ q (by simp),
    fun q => Device.governor_congr _ _ q (by simp),
    fun q => Device.hose_congr _ _ q (by simp),
    fun q => Device.topOff_congr _ _ q (by simp),
    fun q => Device.sequenceMemory_congr _ _ q (by simp),
    fun q => Device.tank_congr _ _ q (by simp),
    fun q => Device.node_congr _ _ q (by simp)⟩

@[simp] theorem Device.busPull_reads (s : Device) :
    (∀ q, (s.busPull).line q = s.line q) ∧ (∀ q, (s.busPull).governor q = s.governor q) ∧
    (∀ q, (s.busPull).hose q = s.hose q) ∧ (∀ q, (s.busPull).topOff q = s.topOff q) ∧
    (∀ q, (s.busPull).sequenceMemory q = s.sequenceMemory q) ∧ (∀ q, (s.busPull).tank q = s.tank q) ∧
    (∀ q, (s.busPull).node q = s.node q) :=
  ⟨fun q => Device.line_congr _ _ q (by simp),
    fun q => Device.governor_congr _ _ q (by simp),
    fun q => Device.hose_congr _ _ q (by simp),
    fun q => Device.topOff_congr _ _ q (by simp),
    fun q => Device.sequenceMemory_congr _ _ q (by simp),
    fun q => Device.tank_congr _ _ q (by simp),
    fun q => Device.node_congr _ _ q (by simp)⟩

@[simp] theorem Device.reportBack_reads (s : Device) (k : LinkState) (t : Option Time) :
    (∀ q, (s.reportBack k t).line q = s.line q) ∧ (∀ q, (s.reportBack k t).governor q = s.governor q) ∧
    (∀ q, (s.reportBack k t).hose q = s.hose q) ∧ (∀ q, (s.reportBack k t).topOff q = s.topOff q) ∧
    (∀ q, (s.reportBack k t).sequenceMemory q = s.sequenceMemory q) ∧ (∀ q, (s.reportBack k t).tank q = s.tank q) ∧
    (∀ q, (s.reportBack k t).node q = s.node q) :=
  ⟨fun q => Device.line_congr _ _ q (by simp),
    fun q => Device.governor_congr _ _ q (by simp),
    fun q => Device.hose_congr _ _ q (by simp),
    fun q => Device.topOff_congr _ _ q (by simp),
    fun q => Device.sequenceMemory_congr _ _ q (by simp),
    fun q => Device.tank_congr _ _ q (by simp),
    fun q => Device.node_congr _ _ q (by simp)⟩

@[simp] theorem Device.storeStatus_reads (s : Device) (x : PerLine LineStatus) :
    (∀ q, (s.storeStatus x).line q = s.line q) ∧ (∀ q, (s.storeStatus x).governor q = s.governor q) ∧
    (∀ q, (s.storeStatus x).hose q = s.hose q) ∧ (∀ q, (s.storeStatus x).topOff q = s.topOff q) ∧
    (∀ q, (s.storeStatus x).sequenceMemory q = s.sequenceMemory q) ∧ (∀ q, (s.storeStatus x).tank q = s.tank q) ∧
    (∀ q, (s.storeStatus x).node q = s.node q) :=
  ⟨fun q => Device.line_congr _ _ q (by simp),
    fun q => Device.governor_congr _ _ q (by simp),
    fun q => Device.hose_congr _ _ q (by simp),
    fun q => Device.topOff_congr _ _ q (by simp),
    fun q => Device.sequenceMemory_congr _ _ q (by simp),
    fun q => Device.tank_congr _ _ q (by simp),
    fun q => Device.node_congr _ _ q (by simp)⟩

@[simp] theorem Device.setPartial_reads (s : Device) (p : Option PartialFrame) :
    (∀ q, (s.setPartial p).line q = s.line q) ∧ (∀ q, (s.setPartial p).governor q = s.governor q) ∧
    (∀ q, (s.setPartial p).hose q = s.hose q) ∧ (∀ q, (s.setPartial p).topOff q = s.topOff q) ∧
    (∀ q, (s.setPartial p).sequenceMemory q = s.sequenceMemory q) ∧ (∀ q, (s.setPartial p).tank q = s.tank q) ∧
    (∀ q, (s.setPartial p).node q = s.node q) :=
  ⟨fun q => Device.line_congr _ _ q (by simp),
    fun q => Device.governor_congr _ _ q (by simp),
    fun q => Device.hose_congr _ _ q (by simp),
    fun q => Device.topOff_congr _ _ q (by simp),
    fun q => Device.sequenceMemory_congr _ _ q (by simp),
    fun q => Device.tank_congr _ _ q (by simp),
    fun q => Device.node_congr _ _ q (by simp)⟩

@[simp] theorem Device.byteGap_reads (s : Device) :
    (∀ q, (s.byteGap).line q = s.line q) ∧ (∀ q, (s.byteGap).governor q = s.governor q) ∧
    (∀ q, (s.byteGap).hose q = s.hose q) ∧ (∀ q, (s.byteGap).topOff q = s.topOff q) ∧
    (∀ q, (s.byteGap).sequenceMemory q = s.sequenceMemory q) ∧ (∀ q, (s.byteGap).tank q = s.tank q) ∧
    (∀ q, (s.byteGap).node q = s.node q) :=
  ⟨fun q => Device.line_congr _ _ q (by simp),
    fun q => Device.governor_congr _ _ q (by simp),
    fun q => Device.hose_congr _ _ q (by simp),
    fun q => Device.topOff_congr _ _ q (by simp),
    fun q => Device.sequenceMemory_congr _ _ q (by simp),
    fun q => Device.tank_congr _ _ q (by simp),
    fun q => Device.node_congr _ _ q (by simp)⟩

@[simp] theorem Device.shipSilence_reads (s : Device) :
    (∀ q, (s.shipSilence).sequenceMemory q = s.sequenceMemory q) ∧ (∀ q, (s.shipSilence).tank q = s.tank q) :=
  ⟨fun q => Device.sequenceMemory_congr _ _ q (by simp),
    fun q => Device.tank_congr _ _ q (by simp)⟩

@[simp] theorem Device.statusFallsDue_reads (s : Device) (d : Time) :
    (∀ q, (s.statusFallsDue d).line q = s.line q) ∧ (∀ q, (s.statusFallsDue d).governor q = s.governor q) ∧
    (∀ q, (s.statusFallsDue d).hose q = s.hose q) ∧ (∀ q, (s.statusFallsDue d).topOff q = s.topOff q) ∧
    (∀ q, (s.statusFallsDue d).sequenceMemory q = s.sequenceMemory q) ∧
    (∀ q, (s.statusFallsDue d).tank q = s.tank q) ∧ (∀ q, (s.statusFallsDue d).node q = s.node q) :=
  ⟨fun q => Device.line_congr _ _ q (by simp),
    fun q => Device.governor_congr _ _ q (by simp),
    fun q => Device.hose_congr _ _ q (by simp),
    fun q => Device.topOff_congr _ _ q (by simp),
    fun q => Device.sequenceMemory_congr _ _ q (by simp),
    fun q => Device.tank_congr _ _ q (by simp),
    fun q => Device.node_congr _ _ q (by simp)⟩

@[simp] theorem Device.frameLeft_reads (s : Device) :
    (∀ q, (s.frameLeft).line q = s.line q) ∧ (∀ q, (s.frameLeft).governor q = s.governor q) ∧
    (∀ q, (s.frameLeft).hose q = s.hose q) ∧ (∀ q, (s.frameLeft).topOff q = s.topOff q) ∧
    (∀ q, (s.frameLeft).sequenceMemory q = s.sequenceMemory q) ∧ (∀ q, (s.frameLeft).tank q = s.tank q) ∧
    (∀ q, (s.frameLeft).node q = s.node q) :=
  ⟨fun q => Device.line_congr _ _ q (by simp),
    fun q => Device.governor_congr _ _ q (by simp),
    fun q => Device.hose_congr _ _ q (by simp),
    fun q => Device.topOff_congr _ _ q (by simp),
    fun q => Device.sequenceMemory_congr _ _ q (by simp),
    fun q => Device.tank_congr _ _ q (by simp),
    fun q => Device.node_congr _ _ q (by simp)⟩

@[simp] theorem Device.giveEntry_reads (s : Device) (r : Report) :
    (∀ q, (s.giveEntry r).line q = s.line q) ∧ (∀ q, (s.giveEntry r).governor q = s.governor q) ∧
    (∀ q, (s.giveEntry r).hose q = s.hose q) ∧ (∀ q, (s.giveEntry r).topOff q = s.topOff q) ∧
    (∀ q, (s.giveEntry r).sequenceMemory q = s.sequenceMemory q) ∧ (∀ q, (s.giveEntry r).tank q = s.tank q) ∧
    (∀ q, (s.giveEntry r).node q = s.node q) :=
  ⟨fun q => Device.line_congr _ _ q (by simp),
    fun q => Device.governor_congr _ _ q (by simp),
    fun q => Device.hose_congr _ _ q (by simp),
    fun q => Device.topOff_congr _ _ q (by simp),
    fun q => Device.sequenceMemory_congr _ _ q (by simp),
    fun q => Device.tank_congr _ _ q (by simp),
    fun q => Device.node_congr _ _ q (by simp)⟩

@[simp] theorem Device.giveOverrun_reads (s : Device) :
    (∀ q, (s.giveOverrun).line q = s.line q) ∧ (∀ q, (s.giveOverrun).governor q = s.governor q) ∧
    (∀ q, (s.giveOverrun).hose q = s.hose q) ∧ (∀ q, (s.giveOverrun).topOff q = s.topOff q) ∧
    (∀ q, (s.giveOverrun).sequenceMemory q = s.sequenceMemory q) ∧ (∀ q, (s.giveOverrun).tank q = s.tank q) ∧
    (∀ q, (s.giveOverrun).node q = s.node q) :=
  ⟨fun q => Device.line_congr _ _ q (by simp),
    fun q => Device.governor_congr _ _ q (by simp),
    fun q => Device.hose_congr _ _ q (by simp),
    fun q => Device.topOff_congr _ _ q (by simp),
    fun q => Device.sequenceMemory_congr _ _ q (by simp),
    fun q => Device.tank_congr _ _ q (by simp),
    fun q => Device.node_congr _ _ q (by simp)⟩

@[simp] theorem Device.giveHead_reads (s : Device) (r : Report) (rest : List Report) :
    (∀ q, (s.giveHead r rest).line q = s.line q) ∧ (∀ q, (s.giveHead r rest).governor q = s.governor q) ∧
    (∀ q, (s.giveHead r rest).hose q = s.hose q) ∧ (∀ q, (s.giveHead r rest).topOff q = s.topOff q) ∧
    (∀ q, (s.giveHead r rest).sequenceMemory q = s.sequenceMemory q) ∧
    (∀ q, (s.giveHead r rest).tank q = s.tank q) ∧ (∀ q, (s.giveHead r rest).node q = s.node q) :=
  ⟨fun q => Device.line_congr _ _ q (by simp),
    fun q => Device.governor_congr _ _ q (by simp),
    fun q => Device.hose_congr _ _ q (by simp),
    fun q => Device.topOff_congr _ _ q (by simp),
    fun q => Device.sequenceMemory_congr _ _ q (by simp),
    fun q => Device.tank_congr _ _ q (by simp),
    fun q => Device.node_congr _ _ q (by simp)⟩

@[simp] theorem Device.dropReports_reads (s : Device) :
    (∀ q, (s.dropReports).line q = s.line q) ∧ (∀ q, (s.dropReports).governor q = s.governor q) ∧
    (∀ q, (s.dropReports).hose q = s.hose q) ∧ (∀ q, (s.dropReports).topOff q = s.topOff q) ∧
    (∀ q, (s.dropReports).sequenceMemory q = s.sequenceMemory q) ∧ (∀ q, (s.dropReports).tank q = s.tank q) ∧
    (∀ q, (s.dropReports).node q = s.node q) :=
  ⟨fun q => Device.line_congr _ _ q (by simp),
    fun q => Device.governor_congr _ _ q (by simp),
    fun q => Device.hose_congr _ _ q (by simp),
    fun q => Device.topOff_congr _ _ q (by simp),
    fun q => Device.sequenceMemory_congr _ _ q (by simp),
    fun q => Device.tank_congr _ _ q (by simp),
    fun q => Device.node_congr _ _ q (by simp)⟩

@[simp] theorem Device.decideReport_reads (s : Device) :
    (∀ q, (s.decideReport).line q = s.line q) ∧ (∀ q, (s.decideReport).governor q = s.governor q) ∧
    (∀ q, (s.decideReport).hose q = s.hose q) ∧ (∀ q, (s.decideReport).topOff q = s.topOff q) ∧
    (∀ q, (s.decideReport).sequenceMemory q = s.sequenceMemory q) ∧ (∀ q, (s.decideReport).tank q = s.tank q) ∧
    (∀ q, (s.decideReport).node q = s.node q) :=
  ⟨fun q => Device.line_congr _ _ q (by simp),
    fun q => Device.governor_congr _ _ q (by simp),
    fun q => Device.hose_congr _ _ q (by simp),
    fun q => Device.topOff_congr _ _ q (by simp),
    fun q => Device.sequenceMemory_congr _ _ q (by simp),
    fun q => Device.tank_congr _ _ q (by simp),
    fun q => Device.node_congr _ _ q (by simp)⟩

@[simp] theorem Device.finish_reads (s : Device) :
    (∀ q, (s.finish).line q = s.line q) ∧ (∀ q, (s.finish).governor q = s.governor q) ∧
    (∀ q, (s.finish).hose q = s.hose q) ∧ (∀ q, (s.finish).topOff q = s.topOff q) ∧
    (∀ q, (s.finish).sequenceMemory q = s.sequenceMemory q) ∧ (∀ q, (s.finish).tank q = s.tank q) ∧
    (∀ q, (s.finish).node q = s.node q) :=
  ⟨fun q => Device.line_congr _ _ q (by simp),
    fun q => Device.governor_congr _ _ q (by simp),
    fun q => Device.hose_congr _ _ q (by simp),
    fun q => Device.topOff_congr _ _ q (by simp),
    fun q => Device.sequenceMemory_congr _ _ q (by simp),
    fun q => Device.tank_congr _ _ q (by simp),
    fun q => Device.node_congr _ _ q (by simp)⟩

@[simp] theorem Device.askResult_reads (s : Device) (r : Result) :
    (∀ q, (s.askResult r).line q = s.line q) ∧ (∀ q, (s.askResult r).governor q = s.governor q) ∧
    (∀ q, (s.askResult r).hose q = s.hose q) ∧ (∀ q, (s.askResult r).topOff q = s.topOff q) ∧
    (∀ q, (s.askResult r).sequenceMemory q = s.sequenceMemory q) ∧ (∀ q, (s.askResult r).tank q = s.tank q) ∧
    (∀ q, (s.askResult r).node q = s.node q) :=
  ⟨fun q => Device.line_congr _ _ q (by simp),
    fun q => Device.governor_congr _ _ q (by simp),
    fun q => Device.hose_congr _ _ q (by simp),
    fun q => Device.topOff_congr _ _ q (by simp),
    fun q => Device.sequenceMemory_congr _ _ q (by simp),
    fun q => Device.tank_congr _ _ q (by simp),
    fun q => Device.node_congr _ _ q (by simp)⟩

@[simp] theorem Device.askPlan_reads (s : Device) (l : Line) :
    (∀ q, (s.askPlan l).line q = s.line q) ∧ (∀ q, (s.askPlan l).governor q = s.governor q) ∧
    (∀ q, (s.askPlan l).hose q = s.hose q) ∧ (∀ q, (s.askPlan l).topOff q = s.topOff q) ∧
    (∀ q, (s.askPlan l).sequenceMemory q = s.sequenceMemory q) ∧ (∀ q, (s.askPlan l).tank q = s.tank q) ∧
    (∀ q, (s.askPlan l).node q = s.node q) :=
  ⟨fun q => Device.line_congr _ _ q (by simp),
    fun q => Device.governor_congr _ _ q (by simp),
    fun q => Device.hose_congr _ _ q (by simp),
    fun q => Device.topOff_congr _ _ q (by simp),
    fun q => Device.sequenceMemory_congr _ _ q (by simp),
    fun q => Device.tank_congr _ _ q (by simp),
    fun q => Device.node_congr _ _ q (by simp)⟩

@[simp] theorem Device.takeHold_reads (s : Device) (l : Line) :
    (∀ q, (s.takeHold l).sequenceMemory q = s.sequenceMemory q) ∧ (∀ q, (s.takeHold l).tank q = s.tank q) :=
  ⟨fun q => Device.sequenceMemory_congr _ _ q (by simp),
    fun q => Device.tank_congr _ _ q (by simp)⟩

@[simp] theorem Device.takeResume_reads (s : Device) (l : Line) :
    (∀ q, (s.takeResume l).sequenceMemory q = s.sequenceMemory q) ∧ (∀ q, (s.takeResume l).tank q = s.tank q) :=
  ⟨fun q => Device.sequenceMemory_congr _ _ q (by simp),
    fun q => Device.tank_congr _ _ q (by simp)⟩

@[simp] theorem Device.takeLock_reads (s : Device) :
    (∀ q, (s.takeLock).line q = s.line q) ∧ (∀ q, (s.takeLock).governor q = s.governor q) ∧
    (∀ q, (s.takeLock).hose q = s.hose q) ∧ (∀ q, (s.takeLock).topOff q = s.topOff q) ∧
    (∀ q, (s.takeLock).sequenceMemory q = s.sequenceMemory q) ∧ (∀ q, (s.takeLock).tank q = s.tank q) ∧
    (∀ q, (s.takeLock).node q = s.node q) :=
  ⟨fun q => Device.line_congr _ _ q (by simp),
    fun q => Device.governor_congr _ _ q (by simp),
    fun q => Device.hose_congr _ _ q (by simp),
    fun q => Device.topOff_congr _ _ q (by simp),
    fun q => Device.sequenceMemory_congr _ _ q (by simp),
    fun q => Device.tank_congr _ _ q (by simp),
    fun q => Device.node_congr _ _ q (by simp)⟩

@[simp] theorem Device.takeSilence_reads (s : Device) :
    (∀ q, (s.takeSilence).line q = s.line q) ∧ (∀ q, (s.takeSilence).governor q = s.governor q) ∧
    (∀ q, (s.takeSilence).hose q = s.hose q) ∧ (∀ q, (s.takeSilence).topOff q = s.topOff q) ∧
    (∀ q, (s.takeSilence).sequenceMemory q = s.sequenceMemory q) ∧ (∀ q, (s.takeSilence).tank q = s.tank q) ∧
    (∀ q, (s.takeSilence).node q = s.node q) :=
  ⟨fun q => Device.line_congr _ _ q (by simp),
    fun q => Device.governor_congr _ _ q (by simp),
    fun q => Device.hose_congr _ _ q (by simp),
    fun q => Device.topOff_congr _ _ q (by simp),
    fun q => Device.sequenceMemory_congr _ _ q (by simp),
    fun q => Device.tank_congr _ _ q (by simp),
    fun q => Device.node_congr _ _ q (by simp)⟩

@[simp] theorem Device.setInterrupt_reads (s : Device) :
    (∀ q, (s.setInterrupt).line q = s.line q) ∧ (∀ q, (s.setInterrupt).governor q = s.governor q) ∧
    (∀ q, (s.setInterrupt).hose q = s.hose q) ∧ (∀ q, (s.setInterrupt).topOff q = s.topOff q) ∧
    (∀ q, (s.setInterrupt).sequenceMemory q = s.sequenceMemory q) ∧ (∀ q, (s.setInterrupt).tank q = s.tank q) ∧
    (∀ q, (s.setInterrupt).node q = s.node q) :=
  ⟨fun q => Device.line_congr _ _ q (by simp),
    fun q => Device.governor_congr _ _ q (by simp),
    fun q => Device.hose_congr _ _ q (by simp),
    fun q => Device.topOff_congr _ _ q (by simp),
    fun q => Device.sequenceMemory_congr _ _ q (by simp),
    fun q => Device.tank_congr _ _ q (by simp),
    fun q => Device.node_congr _ _ q (by simp)⟩

@[simp] theorem Device.linkEntersLoading_reads (s : Device) :
    (∀ q, (s.linkEntersLoading).line q = s.line q) ∧ (∀ q, (s.linkEntersLoading).governor q = s.governor q) ∧
    (∀ q, (s.linkEntersLoading).hose q = s.hose q) ∧ (∀ q, (s.linkEntersLoading).topOff q = s.topOff q) ∧
    (∀ q, (s.linkEntersLoading).sequenceMemory q = s.sequenceMemory q) ∧
    (∀ q, (s.linkEntersLoading).tank q = s.tank q) ∧ (∀ q, (s.linkEntersLoading).node q = s.node q) :=
  ⟨fun q => Device.line_congr _ _ q (by simp),
    fun q => Device.governor_congr _ _ q (by simp),
    fun q => Device.hose_congr _ _ q (by simp),
    fun q => Device.topOff_congr _ _ q (by simp),
    fun q => Device.sequenceMemory_congr _ _ q (by simp),
    fun q => Device.tank_congr _ _ q (by simp),
    fun q => Device.node_congr _ _ q (by simp)⟩

@[simp] theorem Device.linkEntersWatch_reads (s : Device) :
    (∀ q, (s.linkEntersWatch).line q = s.line q) ∧ (∀ q, (s.linkEntersWatch).governor q = s.governor q) ∧
    (∀ q, (s.linkEntersWatch).hose q = s.hose q) ∧ (∀ q, (s.linkEntersWatch).topOff q = s.topOff q) ∧
    (∀ q, (s.linkEntersWatch).sequenceMemory q = s.sequenceMemory q) ∧
    (∀ q, (s.linkEntersWatch).tank q = s.tank q) ∧ (∀ q, (s.linkEntersWatch).node q = s.node q) :=
  ⟨fun q => Device.line_congr _ _ q (by simp),
    fun q => Device.governor_congr _ _ q (by simp),
    fun q => Device.hose_congr _ _ q (by simp),
    fun q => Device.topOff_congr _ _ q (by simp),
    fun q => Device.sequenceMemory_congr _ _ q (by simp),
    fun q => Device.tank_congr _ _ q (by simp),
    fun q => Device.node_congr _ _ q (by simp)⟩

@[simp] theorem Device.linkEntersPassive_reads (s : Device) :
    (∀ q, (s.linkEntersPassive).line q = s.line q) ∧ (∀ q, (s.linkEntersPassive).governor q = s.governor q) ∧
    (∀ q, (s.linkEntersPassive).hose q = s.hose q) ∧ (∀ q, (s.linkEntersPassive).topOff q = s.topOff q) ∧
    (∀ q, (s.linkEntersPassive).sequenceMemory q = s.sequenceMemory q) ∧
    (∀ q, (s.linkEntersPassive).tank q = s.tank q) ∧ (∀ q, (s.linkEntersPassive).node q = s.node q) :=
  ⟨fun q => Device.line_congr _ _ q (by simp),
    fun q => Device.governor_congr _ _ q (by simp),
    fun q => Device.hose_congr _ _ q (by simp),
    fun q => Device.topOff_congr _ _ q (by simp),
    fun q => Device.sequenceMemory_congr _ _ q (by simp),
    fun q => Device.tank_congr _ _ q (by simp),
    fun q => Device.node_congr _ _ q (by simp)⟩

@[simp] theorem Device.enterLoading_reads (s : Device) :
    (∀ q, (s.enterLoading).line q = s.line q) ∧ (∀ q, (s.enterLoading).governor q = s.governor q) ∧
    (∀ q, (s.enterLoading).hose q = s.hose q) ∧ (∀ q, (s.enterLoading).topOff q = s.topOff q) ∧
    (∀ q, (s.enterLoading).sequenceMemory q = s.sequenceMemory q) ∧ (∀ q, (s.enterLoading).node q = s.node q) :=
  ⟨fun q => Device.line_congr _ _ q (by simp),
    fun q => Device.governor_congr _ _ q (by simp),
    fun q => Device.hose_congr _ _ q (by simp),
    fun q => Device.topOff_congr _ _ q (by simp),
    fun q => Device.sequenceMemory_congr _ _ q (by simp),
    fun q => Device.node_congr _ _ q (by simp)⟩

@[simp] theorem Device.startLoad_reads (s : Device) :
    (∀ q, (s.startLoad).line q = s.line q) ∧ (∀ q, (s.startLoad).governor q = s.governor q) ∧
    (∀ q, (s.startLoad).hose q = s.hose q) ∧ (∀ q, (s.startLoad).topOff q = s.topOff q) ∧
    (∀ q, (s.startLoad).sequenceMemory q = s.sequenceMemory q) ∧ (∀ q, (s.startLoad).node q = s.node q) :=
  ⟨fun q => Device.line_congr _ _ q (by simp),
    fun q => Device.governor_congr _ _ q (by simp),
    fun q => Device.hose_congr _ _ q (by simp),
    fun q => Device.topOff_congr _ _ q (by simp),
    fun q => Device.sequenceMemory_congr _ _ q (by simp),
    fun q => Device.node_congr _ _ q (by simp)⟩

@[simp] theorem Device.takeLoad_reads (s : Device) :
    (∀ q, (s.takeLoad).line q = s.line q) ∧ (∀ q, (s.takeLoad).governor q = s.governor q) ∧
    (∀ q, (s.takeLoad).hose q = s.hose q) ∧ (∀ q, (s.takeLoad).topOff q = s.topOff q) ∧
    (∀ q, (s.takeLoad).sequenceMemory q = s.sequenceMemory q) ∧ (∀ q, (s.takeLoad).node q = s.node q) :=
  ⟨fun q => Device.line_congr _ _ q (by simp),
    fun q => Device.governor_congr _ _ q (by simp),
    fun q => Device.hose_congr _ _ q (by simp),
    fun q => Device.topOff_congr _ _ q (by simp),
    fun q => Device.sequenceMemory_congr _ _ q (by simp),
    fun q => Device.node_congr _ _ q (by simp)⟩

@[simp] theorem Device.storeCharter_reads (s : Device) (i : Nat) (ws : List Word) :
    (∀ q, (s.storeCharter i ws).line q = s.line q) ∧ (∀ q, (s.storeCharter i ws).governor q = s.governor q) ∧
    (∀ q, (s.storeCharter i ws).hose q = s.hose q) ∧ (∀ q, (s.storeCharter i ws).topOff q = s.topOff q) ∧
    (∀ q, (s.storeCharter i ws).sequenceMemory q = s.sequenceMemory q) ∧
    (∀ q, (s.storeCharter i ws).tank q = s.tank q) ∧ (∀ q, (s.storeCharter i ws).node q = s.node q) :=
  ⟨fun q => Device.line_congr _ _ q (by simp),
    fun q => Device.governor_congr _ _ q (by simp),
    fun q => Device.hose_congr _ _ q (by simp),
    fun q => Device.topOff_congr _ _ q (by simp),
    fun q => Device.sequenceMemory_congr _ _ q (by simp),
    fun q => Device.tank_congr _ _ q (by simp),
    fun q => Device.node_congr _ _ q (by simp)⟩

@[simp] theorem Device.startRate_reads (s : Device) (l : Line) :
    (∀ q, (s.startRate l).line q = s.line q) ∧ (∀ q, (s.startRate l).hose q = s.hose q) ∧
    (∀ q, (s.startRate l).topOff q = s.topOff q) ∧ (∀ q, (s.startRate l).sequenceMemory q = s.sequenceMemory q) ∧
    (∀ q, (s.startRate l).tank q = s.tank q) :=
  ⟨fun q => Device.line_congr _ _ q (by simp),
    fun q => Device.hose_congr _ _ q (by simp),
    fun q => Device.topOff_congr _ _ q (by simp),
    fun q => Device.sequenceMemory_congr _ _ q (by simp),
    fun q => Device.tank_congr _ _ q (by simp)⟩

@[simp] theorem Device.deliveryStep_reads (s : Device) (l : Line) :
    (∀ q, (s.deliveryStep l).line q = s.line q) ∧ (∀ q, (s.deliveryStep l).hose q = s.hose q) ∧
    (∀ q, (s.deliveryStep l).topOff q = s.topOff q) ∧
    (∀ q, (s.deliveryStep l).sequenceMemory q = s.sequenceMemory q) ∧ (∀ q, (s.deliveryStep l).tank q = s.tank q) :=
  ⟨fun q => Device.line_congr _ _ q (by simp),
    fun q => Device.hose_congr _ _ q (by simp),
    fun q => Device.topOff_congr _ _ q (by simp),
    fun q => Device.sequenceMemory_congr _ _ q (by simp),
    fun q => Device.tank_congr _ _ q (by simp)⟩

@[simp] theorem Device.primingStep_reads (s : Device) (l : Line) :
    (∀ q, (s.primingStep l).line q = s.line q) ∧ (∀ q, (s.primingStep l).hose q = s.hose q) ∧
    (∀ q, (s.primingStep l).topOff q = s.topOff q) ∧
    (∀ q, (s.primingStep l).sequenceMemory q = s.sequenceMemory q) ∧ (∀ q, (s.primingStep l).tank q = s.tank q) :=
  ⟨fun q => Device.line_congr _ _ q (by simp),
    fun q => Device.hose_congr _ _ q (by simp),
    fun q => Device.topOff_congr _ _ q (by simp),
    fun q => Device.sequenceMemory_congr _ _ q (by simp),
    fun q => Device.tank_congr _ _ q (by simp)⟩

@[simp] theorem Device.rampStep_reads (s : Device) (l : Line) :
    (∀ q, (s.rampStep l).line q = s.line q) ∧ (∀ q, (s.rampStep l).hose q = s.hose q) ∧
    (∀ q, (s.rampStep l).topOff q = s.topOff q) ∧ (∀ q, (s.rampStep l).sequenceMemory q = s.sequenceMemory q) ∧
    (∀ q, (s.rampStep l).tank q = s.tank q) :=
  ⟨fun q => Device.line_congr _ _ q (by simp),
    fun q => Device.hose_congr _ _ q (by simp),
    fun q => Device.topOff_congr _ _ q (by simp),
    fun q => Device.sequenceMemory_congr _ _ q (by simp),
    fun q => Device.tank_congr _ _ q (by simp)⟩

@[simp] theorem Device.rampEnd_reads (s : Device) (l : Line) :
    (∀ q, (s.rampEnd l).line q = s.line q) ∧ (∀ q, (s.rampEnd l).hose q = s.hose q) ∧
    (∀ q, (s.rampEnd l).topOff q = s.topOff q) ∧ (∀ q, (s.rampEnd l).sequenceMemory q = s.sequenceMemory q) ∧
    (∀ q, (s.rampEnd l).tank q = s.tank q) :=
  ⟨fun q => Device.line_congr _ _ q (by simp),
    fun q => Device.hose_congr _ _ q (by simp),
    fun q => Device.topOff_congr _ _ q (by simp),
    fun q => Device.sequenceMemory_congr _ _ q (by simp),
    fun q => Device.tank_congr _ _ q (by simp)⟩

@[simp] theorem Device.alarmEvent_reads (s : Device) :
    (∀ q, (s.alarmEvent).line q = s.line q) ∧ (∀ q, (s.alarmEvent).governor q = s.governor q) ∧
    (∀ q, (s.alarmEvent).hose q = s.hose q) ∧ (∀ q, (s.alarmEvent).topOff q = s.topOff q) ∧
    (∀ q, (s.alarmEvent).sequenceMemory q = s.sequenceMemory q) ∧ (∀ q, (s.alarmEvent).tank q = s.tank q) ∧
    (∀ q, (s.alarmEvent).node q = s.node q) :=
  ⟨fun q => Device.line_congr _ _ q (by simp),
    fun q => Device.governor_congr _ _ q (by simp),
    fun q => Device.hose_congr _ _ q (by simp),
    fun q => Device.topOff_congr _ _ q (by simp),
    fun q => Device.sequenceMemory_congr _ _ q (by simp),
    fun q => Device.tank_congr _ _ q (by simp),
    fun q => Device.node_congr _ _ q (by simp)⟩

@[simp] theorem Device.judgeAlarm_reads (s : Device) :
    (∀ q, (s.judgeAlarm).line q = s.line q) ∧ (∀ q, (s.judgeAlarm).governor q = s.governor q) ∧
    (∀ q, (s.judgeAlarm).hose q = s.hose q) ∧ (∀ q, (s.judgeAlarm).topOff q = s.topOff q) ∧
    (∀ q, (s.judgeAlarm).sequenceMemory q = s.sequenceMemory q) ∧ (∀ q, (s.judgeAlarm).tank q = s.tank q) ∧
    (∀ q, (s.judgeAlarm).node q = s.node q) :=
  ⟨fun q => Device.line_congr _ _ q (by simp),
    fun q => Device.governor_congr _ _ q (by simp),
    fun q => Device.hose_congr _ _ q (by simp),
    fun q => Device.topOff_congr _ _ q (by simp),
    fun q => Device.sequenceMemory_congr _ _ q (by simp),
    fun q => Device.tank_congr _ _ q (by simp),
    fun q => Device.node_congr _ _ q (by simp)⟩

@[simp] theorem Device.retakeTankAlarm_reads (s : Device) :
    (∀ q, (s.retakeTankAlarm).line q = s.line q) ∧ (∀ q, (s.retakeTankAlarm).governor q = s.governor q) ∧
    (∀ q, (s.retakeTankAlarm).hose q = s.hose q) ∧ (∀ q, (s.retakeTankAlarm).topOff q = s.topOff q) ∧
    (∀ q, (s.retakeTankAlarm).sequenceMemory q = s.sequenceMemory q) ∧
    (∀ q, (s.retakeTankAlarm).tank q = s.tank q) ∧ (∀ q, (s.retakeTankAlarm).node q = s.node q) :=
  ⟨fun q => Device.line_congr _ _ q (by simp),
    fun q => Device.governor_congr _ _ q (by simp),
    fun q => Device.hose_congr _ _ q (by simp),
    fun q => Device.topOff_congr _ _ q (by simp),
    fun q => Device.sequenceMemory_congr _ _ q (by simp),
    fun q => Device.tank_congr _ _ q (by simp),
    fun q => Device.node_congr _ _ q (by simp)⟩

@[simp] theorem Device.retakeValveAlarm_reads (s : Device) :
    (∀ q, (s.retakeValveAlarm).line q = s.line q) ∧ (∀ q, (s.retakeValveAlarm).governor q = s.governor q) ∧
    (∀ q, (s.retakeValveAlarm).hose q = s.hose q) ∧ (∀ q, (s.retakeValveAlarm).topOff q = s.topOff q) ∧
    (∀ q, (s.retakeValveAlarm).sequenceMemory q = s.sequenceMemory q) ∧
    (∀ q, (s.retakeValveAlarm).tank q = s.tank q) ∧ (∀ q, (s.retakeValveAlarm).node q = s.node q) :=
  ⟨fun q => Device.line_congr _ _ q (by simp),
    fun q => Device.governor_congr _ _ q (by simp),
    fun q => Device.hose_congr _ _ q (by simp),
    fun q => Device.topOff_congr _ _ q (by simp),
    fun q => Device.sequenceMemory_congr _ _ q (by simp),
    fun q => Device.tank_congr _ _ q (by simp),
    fun q => Device.node_congr _ _ q (by simp)⟩

@[simp] theorem Device.driveBargeLoop_reads (s : Device) :
    (∀ q, (s.driveBargeLoop).line q = s.line q) ∧ (∀ q, (s.driveBargeLoop).governor q = s.governor q) ∧
    (∀ q, (s.driveBargeLoop).hose q = s.hose q) ∧ (∀ q, (s.driveBargeLoop).topOff q = s.topOff q) ∧
    (∀ q, (s.driveBargeLoop).sequenceMemory q = s.sequenceMemory q) ∧ (∀ q, (s.driveBargeLoop).tank q = s.tank q) ∧
    (∀ q, (s.driveBargeLoop).node q = s.node q) :=
  ⟨fun q => Device.line_congr _ _ q (by simp),
    fun q => Device.governor_congr _ _ q (by simp),
    fun q => Device.hose_congr _ _ q (by simp),
    fun q => Device.topOff_congr _ _ q (by simp),
    fun q => Device.sequenceMemory_congr _ _ q (by simp),
    fun q => Device.tank_congr _ _ q (by simp),
    fun q => Device.node_congr _ _ q (by simp)⟩

@[simp] theorem Device.startTest_reads (s : Device) (l : Line) :
    (∀ q, (s.startTest l).sequenceMemory q = s.sequenceMemory q) ∧ (∀ q, (s.startTest l).tank q = s.tank q) :=
  ⟨fun q => Device.sequenceMemory_congr _ _ q (by simp),
    fun q => Device.tank_congr _ _ q (by simp)⟩

@[simp] theorem Device.enterStartWait_reads (s : Device) (l : Line) :
    (∀ q, (s.enterStartWait l).sequenceMemory q = s.sequenceMemory q) ∧
    (∀ q, (s.enterStartWait l).tank q = s.tank q) :=
  ⟨fun q => Device.sequenceMemory_congr _ _ q (by simp),
    fun q => Device.tank_congr _ _ q (by simp)⟩

@[simp] theorem Device.enterManifoldOpening_reads (s : Device) (l : Line) :
    (∀ q, (s.enterManifoldOpening l).sequenceMemory q = s.sequenceMemory q) ∧
    (∀ q, (s.enterManifoldOpening l).tank q = s.tank q) :=
  ⟨fun q => Device.sequenceMemory_congr _ _ q (by simp),
    fun q => Device.tank_congr _ _ q (by simp)⟩

@[simp] theorem Device.lineupClaims_reads (s : Device) (l : Line) :
    (∀ q, (s.lineupClaims l).sequenceMemory q = s.sequenceMemory q) ∧ (∀ q, (s.lineupClaims l).tank q = s.tank q) :=
  ⟨fun q => Device.sequenceMemory_congr _ _ q (by simp),
    fun q => Device.tank_congr _ _ q (by simp)⟩

@[simp] theorem Device.releaseTank_fold_reads (s : Device) (l : Line) (ts : List TankNo) :
    (∀ q, ((ts.foldl (fun s t => s.releaseTank l t) s)).line q = s.line q) ∧
    (∀ q, ((ts.foldl (fun s t => s.releaseTank l t) s)).governor q = s.governor q) ∧
    (∀ q, ((ts.foldl (fun s t => s.releaseTank l t) s)).hose q = s.hose q) ∧
    (∀ q, ((ts.foldl (fun s t => s.releaseTank l t) s)).topOff q = s.topOff q) ∧
    (∀ q, ((ts.foldl (fun s t => s.releaseTank l t) s)).sequenceMemory q = s.sequenceMemory q) ∧
    (∀ q, ((ts.foldl (fun s t => s.releaseTank l t) s)).node q = s.node q) :=
  ⟨fun q => Device.line_congr _ _ q (by simp),
    fun q => Device.governor_congr _ _ q (by simp),
    fun q => Device.hose_congr _ _ q (by simp),
    fun q => Device.topOff_congr _ _ q (by simp),
    fun q => Device.sequenceMemory_congr _ _ q (by simp),
    fun q => Device.node_congr _ _ q (by simp)⟩

@[simp] theorem Device.assignTank_fold_reads (s : Device) (l : Line) (ts : List TankNo) :
    (∀ q, ((ts.foldl (fun s t => s.assignTank l t) s)).line q = s.line q) ∧
    (∀ q, ((ts.foldl (fun s t => s.assignTank l t) s)).governor q = s.governor q) ∧
    (∀ q, ((ts.foldl (fun s t => s.assignTank l t) s)).hose q = s.hose q) ∧
    (∀ q, ((ts.foldl (fun s t => s.assignTank l t) s)).topOff q = s.topOff q) ∧
    (∀ q, ((ts.foldl (fun s t => s.assignTank l t) s)).sequenceMemory q = s.sequenceMemory q) ∧
    (∀ q, ((ts.foldl (fun s t => s.assignTank l t) s)).node q = s.node q) :=
  ⟨fun q => Device.line_congr _ _ q (by simp),
    fun q => Device.governor_congr _ _ q (by simp),
    fun q => Device.hose_congr _ _ q (by simp),
    fun q => Device.topOff_congr _ _ q (by simp),
    fun q => Device.sequenceMemory_congr _ _ q (by simp),
    fun q => Device.node_congr _ _ q (by simp)⟩


/-! ## Every other line -/

@[simp] theorem Device.claimSpeed_other (s : Device) (l : Line) (v : Nat) (m : Line) (h : m ≠ l) :
    (s.claimSpeed l v).governor m = s.governor m := by
  unfold Device.claimSpeed; (try dsimp only); (repeat' split) <;> simp [h]

@[simp] theorem Device.claimIfChanged_other (s : Device) (l : Line) (v : Nat) (m : Line) (h : m ≠ l) :
    (s.claimIfChanged l v).governor m = s.governor m := by
  unfold Device.claimIfChanged; (try dsimp only); (repeat' split) <;> simp [h]

@[simp] theorem Device.judgeRateLow_other (s : Device) (l : Line) (m : Line) (h : m ≠ l) :
    (s.judgeRateLow l).governor m = s.governor m := by
  unfold Device.judgeRateLow; (try dsimp only); (repeat' split) <;> simp [h]

@[simp] theorem Device.governorEnters_other (s : Device) (l : Line) (st : LineState) (m : Line) (h : m ≠ l) :
    (s.governorEnters l st).governor m = s.governor m := by
  unfold Device.governorEnters; (try dsimp only); (repeat' split) <;> simp [h]

@[simp] theorem Device.primeSpeed_other (s : Device) (l : Line) (m : Line) (h : m ≠ l) :
    (s.primeSpeed l).governor m = s.governor m := by
  unfold Device.primeSpeed; (try dsimp only); (repeat' split) <;> simp [h]

@[simp] theorem Device.applyRate_other (s : Device) (l : Line) (m : Line) (h : m ≠ l) :
    (s.applyRate l).governor m = s.governor m := by
  unfold Device.applyRate; (try dsimp only); (repeat' split) <;> simp [h]

@[simp] theorem Device.startRate_other (s : Device) (l : Line) (m : Line) (h : m ≠ l) :
    (s.startRate l).governor m = s.governor m := by
  unfold Device.startRate; (try dsimp only); (repeat' split) <;> simp [h]

@[simp] theorem Device.deliveryStep_other (s : Device) (l : Line) (m : Line) (h : m ≠ l) :
    (s.deliveryStep l).governor m = s.governor m := by
  unfold Device.deliveryStep; (try dsimp only); (repeat' split) <;> simp [h]

@[simp] theorem Device.primingStep_other (s : Device) (l : Line) (m : Line) (h : m ≠ l) :
    (s.primingStep l).governor m = s.governor m := by
  unfold Device.primingStep; (try dsimp only); (repeat' split) <;> simp [h]

@[simp] theorem Device.rampStep_other (s : Device) (l : Line) (m : Line) (h : m ≠ l) :
    (s.rampStep l).governor m = s.governor m := by
  unfold Device.rampStep; (try dsimp only); (repeat' split) <;> simp [h]

@[simp] theorem Device.rampEnd_other (s : Device) (l : Line) (m : Line) (h : m ≠ l) :
    (s.rampEnd l).governor m = s.governor m := by
  unfold Device.rampEnd; (try dsimp only); (repeat' split) <;> simp [h]

@[simp] theorem Device.nextStep_other (s : Device) (l : Line) (due : Time) (m : Line) (h : m ≠ l) :
    (s.nextStep l due).governor m = s.governor m := by
  unfold Device.nextStep; (try dsimp only); (repeat' split) <;> simp [h]

@[simp] theorem Device.governorEnd_other (s : Device) (l : Line) (n : NodeNo) (a : Act) (o : TxOutcome) (m : Line) (h : m ≠ l) :
    (s.governorEnd l n a o).governor m = s.governor m := by
  unfold Device.governorEnd; (try dsimp only); (repeat' split) <;> simp [h]

@[simp] theorem Device.takeRateDemand_other (s : Device) (l : Line) (v : Word) (m : Line) (h : m ≠ l) :
    (s.takeRateDemand l v).governor m = s.governor m := by
  unfold Device.takeRateDemand; (try dsimp only); (repeat' split) <;> simp [h]

@[simp] theorem Device.recompute_other (s : Device) (l : Line) (m : Line) (h : m ≠ l) :
    (s.recompute l).line m = s.line m ∧ (s.recompute l).topOff m = s.topOff m := by
  unfold Device.recompute; (try dsimp only); (repeat' split) <;> simp [h]

@[simp] theorem Device.enterState_other (s : Device) (l : Line) (st : LineState) (p : Step) (c : ReportCause) (m : Line) (h : m ≠ l) :
    (s.enterState l st p c).line m = s.line m ∧ (s.enterState l st p c).governor m = s.governor m ∧
    (s.enterState l st p c).hose m = s.hose m ∧ (s.enterState l st p c).topOff m = s.topOff m := by
  unfold Device.enterState; (try dsimp only); (repeat' split) <;> simp [h]

@[simp] theorem Device.setStep_other (s : Device) (l : Line) (p : Step) (m : Line) (h : m ≠ l) :
    (s.setStep l p).line m = s.line m := by
  unfold Device.setStep; (try dsimp only); (repeat' split) <;> simp [h]

@[simp] theorem Device.setDeadline_other (s : Device) (l : Line) (d : Time) (m : Line) (h : m ≠ l) :
    (s.setDeadline l d).line m = s.line m := by
  unfold Device.setDeadline; (try dsimp only); (repeat' split) <;> simp [h]

@[simp] theorem Device.handTopping_other (s : Device) (l : Line) (m : Line) (h : m ≠ l) :
    (s.handTopping l).line m = s.line m ∧ (s.handTopping l).governor m = s.governor m ∧
    (s.handTopping l).hose m = s.hose m ∧ (s.handTopping l).topOff m = s.topOff m := by
  unfold Device.handTopping; (try dsimp only); (repeat' split) <;> simp [h]

@[simp] theorem Device.tripLine_other (s : Device) (l : Line) (c : Cause) (m : Line) (h : m ≠ l) :
    (s.tripLine l c).line m = s.line m ∧ (s.tripLine l c).governor m = s.governor m ∧
    (s.tripLine l c).hose m = s.hose m ∧ (s.tripLine l c).topOff m = s.topOff m ∧
    (s.tripLine l c).sequenceMemory m = s.sequenceMemory m := by
  unfold Device.tripLine; (try dsimp only); (repeat' split) <;> simp [h]

@[simp] theorem Device.setSequence_other (s : Device) (l : Line) (p : Step) (m : Line) (h : m ≠ l) :
    (s.setSequence l p).line m = s.line m := by
  unfold Device.setSequence; (try dsimp only); (repeat' split) <;> simp [h]

@[simp] theorem Device.esdStart_other (s : Device) (l : Line) (m : Line) (h : m ≠ l) :
    (s.esdStart l).line m = s.line m := by
  unfold Device.esdStart; (try dsimp only); (repeat' split) <;> simp [h]

@[simp] theorem Device.esdFinish_other (s : Device) (l : Line) (m : Line) (h : m ≠ l) :
    (s.esdFinish l).line m = s.line m ∧ (s.esdFinish l).governor m = s.governor m ∧
    (s.esdFinish l).hose m = s.hose m ∧ (s.esdFinish l).topOff m = s.topOff m := by
  unfold Device.esdFinish; (try dsimp only); (repeat' split) <;> simp [h]

@[simp] theorem Device.esdDischarge_other (s : Device) (l : Line) (m : Line) (h : m ≠ l) :
    (s.esdDischarge l).line m = s.line m ∧ (s.esdDischarge l).governor m = s.governor m ∧
    (s.esdDischarge l).hose m = s.hose m ∧ (s.esdDischarge l).topOff m = s.topOff m := by
  unfold Device.esdDischarge; (try dsimp only); (repeat' split) <;> simp [h]

@[simp] theorem Device.esdManifold_other (s : Device) (l : Line) (m : Line) (h : m ≠ l) :
    (s.esdManifold l).line m = s.line m ∧ (s.esdManifold l).governor m = s.governor m ∧
    (s.esdManifold l).hose m = s.hose m ∧ (s.esdManifold l).topOff m = s.topOff m := by
  unfold Device.esdManifold; (try dsimp only); (repeat' split) <;> simp [h]

@[simp] theorem Device.esdEnd_other (s : Device) (l : Line) (n : NodeNo) (m : Line) (h : m ≠ l) :
    (s.esdEnd l n).line m = s.line m ∧ (s.esdEnd l n).governor m = s.governor m ∧
    (s.esdEnd l n).hose m = s.hose m ∧ (s.esdEnd l n).topOff m = s.topOff m := by
  unfold Device.esdEnd; (try dsimp only); (repeat' split) <;> simp [h]

@[simp] theorem Device.primeClaim_other (s : Device) (l : Line) (m : Line) (h : m ≠ l) :
    (s.primeClaim l).line m = s.line m ∧ (s.primeClaim l).governor m = s.governor m ∧
    (s.primeClaim l).hose m = s.hose m ∧ (s.primeClaim l).topOff m = s.topOff m := by
  unfold Device.primeClaim; (try dsimp only); (repeat' split) <;> simp [h]

@[simp] theorem Device.primeFromLineup_other (s : Device) (l : Line) (m : Line) (h : m ≠ l) :
    (s.primeFromLineup l).line m = s.line m ∧ (s.primeFromLineup l).governor m = s.governor m ∧
    (s.primeFromLineup l).hose m = s.hose m ∧ (s.primeFromLineup l).topOff m = s.topOff m := by
  unfold Device.primeFromLineup; (try dsimp only); (repeat' split) <;> simp [h]

@[simp] theorem Device.primeFromHeld_other (s : Device) (l : Line) (m : Line) (h : m ≠ l) :
    (s.primeFromHeld l).line m = s.line m ∧ (s.primeFromHeld l).governor m = s.governor m ∧
    (s.primeFromHeld l).hose m = s.hose m ∧ (s.primeFromHeld l).topOff m = s.topOff m := by
  unfold Device.primeFromHeld; (try dsimp only); (repeat' split) <;> simp [h]

@[simp] theorem Device.primingComplete_other (s : Device) (l : Line) (m : Line) (h : m ≠ l) :
    (s.primingComplete l).line m = s.line m ∧ (s.primingComplete l).governor m = s.governor m ∧
    (s.primingComplete l).hose m = s.hose m ∧ (s.primingComplete l).topOff m = s.topOff m := by
  unfold Device.primingComplete; (try dsimp only); (repeat' split) <;> simp [h]

@[simp] theorem Device.enterHeld_other (s : Device) (l : Line) (c : HoldCause) (m : Line) (h : m ≠ l) :
    (s.enterHeld l c).line m = s.line m ∧ (s.enterHeld l c).governor m = s.governor m ∧
    (s.enterHeld l c).hose m = s.hose m ∧ (s.enterHeld l c).topOff m = s.topOff m := by
  unfold Device.enterHeld; (try dsimp only); (repeat' split) <;> simp [h]

@[simp] theorem Device.holdTrigger_other (s : Device) (l : Line) (c : HoldCause) (m : Line) (h : m ≠ l) :
    (s.holdTrigger l c).line m = s.line m ∧ (s.holdTrigger l c).governor m = s.governor m ∧
    (s.holdTrigger l c).hose m = s.hose m ∧ (s.holdTrigger l c).topOff m = s.topOff m := by
  unfold Device.holdTrigger; (try dsimp only); (repeat' split) <;> simp [h]

@[simp] theorem Device.clearHold_other (s : Device) (l : Line) (c : HoldCause) (m : Line) (h : m ≠ l) :
    (s.clearHold l c).line m = s.line m ∧ (s.clearHold l c).governor m = s.governor m ∧
    (s.clearHold l c).hose m = s.hose m ∧ (s.clearHold l c).topOff m = s.topOff m := by
  unfold Device.clearHold; (try dsimp only); (repeat' split) <;> simp [h]

@[simp] theorem Device.release_other (s : Device) (l : Line) (m : Line) (h : m ≠ l) :
    (s.release l).topOff m = s.topOff m := by
  unfold Device.release; (try dsimp only); (repeat' split) <;> simp [h]

@[simp] theorem Device.enterFree_other (s : Device) (l : Line) (m : Line) (h : m ≠ l) :
    (s.enterFree l).line m = s.line m ∧ (s.enterFree l).governor m = s.governor m ∧
    (s.enterFree l).hose m = s.hose m ∧ (s.enterFree l).topOff m = s.topOff m ∧
    (s.enterFree l).sequenceMemory m = s.sequenceMemory m := by
  unfold Device.enterFree; (try dsimp only); (repeat' split) <;> simp [h]

@[simp] theorem Device.closeValve_other (s : Device) (l : Line) (r : Role) (m : Line) (h : m ≠ l) :
    (s.closeValve l r).sequenceMemory m = s.sequenceMemory m := by
  unfold Device.closeValve; (try dsimp only); (repeat' split) <;> simp [h]

@[simp] theorem Device.closeValves_other (s : Device) (l : Line) (m : Line) (h : m ≠ l) :
    (s.closeValves l).line m = s.line m ∧ (s.closeValves l).governor m = s.governor m ∧
    (s.closeValves l).hose m = s.hose m ∧ (s.closeValves l).topOff m = s.topOff m ∧
    (s.closeValves l).sequenceMemory m = s.sequenceMemory m := by
  unfold Device.closeValves; (try dsimp only); (repeat' split) <;> simp [h]

@[simp] theorem Device.closeManifold_other (s : Device) (l : Line) (m : Line) (h : m ≠ l) :
    (s.closeManifold l).line m = s.line m ∧ (s.closeManifold l).governor m = s.governor m ∧
    (s.closeManifold l).hose m = s.hose m ∧ (s.closeManifold l).topOff m = s.topOff m ∧
    (s.closeManifold l).sequenceMemory m = s.sequenceMemory m := by
  unfold Device.closeManifold; (try dsimp only); (repeat' split) <;> simp [h]

@[simp] theorem Device.enterClosing_other (s : Device) (l : Line) (m : Line) (h : m ≠ l) :
    (s.enterClosing l).line m = s.line m ∧ (s.enterClosing l).governor m = s.governor m ∧
    (s.enterClosing l).hose m = s.hose m ∧ (s.enterClosing l).topOff m = s.topOff m ∧
    (s.enterClosing l).sequenceMemory m = s.sequenceMemory m := by
  unfold Device.enterClosing; (try dsimp only); (repeat' split) <;> simp [h]

@[simp] theorem Device.enterStripping_other (s : Device) (l : Line) (m : Line) (h : m ≠ l) :
    (s.enterStripping l).line m = s.line m ∧ (s.enterStripping l).governor m = s.governor m ∧
    (s.enterStripping l).hose m = s.hose m ∧ (s.enterStripping l).topOff m = s.topOff m := by
  unfold Device.enterStripping; (try dsimp only); (repeat' split) <;> simp [h]

@[simp] theorem Device.leaveStopping_other (s : Device) (l : Line) (m : Line) (h : m ≠ l) :
    (s.leaveStopping l).line m = s.line m ∧ (s.leaveStopping l).governor m = s.governor m ∧
    (s.leaveStopping l).hose m = s.hose m ∧ (s.leaveStopping l).topOff m = s.topOff m ∧
    (s.leaveStopping l).sequenceMemory m = s.sequenceMemory m := by
  unfold Device.leaveStopping; (try dsimp only); (repeat' split) <;> simp [h]

@[simp] theorem Device.enterPumpStopping_other (s : Device) (l : Line) (m : Line) (h : m ≠ l) :
    (s.enterPumpStopping l).line m = s.line m ∧ (s.enterPumpStopping l).governor m = s.governor m ∧
    (s.enterPumpStopping l).hose m = s.hose m ∧ (s.enterPumpStopping l).topOff m = s.topOff m ∧
    (s.enterPumpStopping l).sequenceMemory m = s.sequenceMemory m := by
  unfold Device.enterPumpStopping; (try dsimp only); (repeat' split) <;> simp [h]

@[simp] theorem Device.enterStopping_other (s : Device) (l : Line) (c : Cause) (b : Bool) (m : Line) (h : m ≠ l) :
    (s.enterStopping l c b).line m = s.line m ∧ (s.enterStopping l c b).governor m = s.governor m ∧
    (s.enterStopping l c b).hose m = s.hose m ∧ (s.enterStopping l c b).topOff m = s.topOff m ∧
    (s.enterStopping l c b).sequenceMemory m = s.sequenceMemory m := by
  unfold Device.enterStopping; (try dsimp only); (repeat' split) <;> simp [h]

@[simp] theorem Device.closeFromLineup_other (s : Device) (l : Line) (c : Cause) (m : Line) (h : m ≠ l) :
    (s.closeFromLineup l c).line m = s.line m ∧ (s.closeFromLineup l c).governor m = s.governor m ∧
    (s.closeFromLineup l c).hose m = s.hose m ∧ (s.closeFromLineup l c).topOff m = s.topOff m ∧
    (s.closeFromLineup l c).sequenceMemory m = s.sequenceMemory m := by
  unfold Device.closeFromLineup; (try dsimp only); (repeat' split) <;> simp [h]

@[simp] theorem Device.stopTrigger_other (s : Device) (l : Line) (c : Cause) (b : Bool) (m : Line) (h : m ≠ l) :
    (s.stopTrigger l c b).line m = s.line m ∧ (s.stopTrigger l c b).governor m = s.governor m ∧
    (s.stopTrigger l c b).hose m = s.hose m ∧ (s.stopTrigger l c b).topOff m = s.topOff m ∧
    (s.stopTrigger l c b).sequenceMemory m = s.sequenceMemory m := by
  unfold Device.stopTrigger; (try dsimp only); (repeat' split) <;> simp [h]

@[simp] theorem Device.finishRamp_other (s : Device) (l : Line) (m : Line) (h : m ≠ l) :
    (s.finishRamp l).line m = s.line m ∧ (s.finishRamp l).governor m = s.governor m ∧
    (s.finishRamp l).hose m = s.hose m ∧ (s.finishRamp l).topOff m = s.topOff m ∧
    (s.finishRamp l).sequenceMemory m = s.sequenceMemory m := by
  unfold Device.finishRamp; (try dsimp only); (repeat' split) <;> simp [h]

@[simp] theorem Device.governorStep_other (s : Device) (l : Line) (d : Time) (m : Line) (h : m ≠ l) :
    (s.governorStep l d).line m = s.line m ∧ (s.governorStep l d).governor m = s.governor m ∧
    (s.governorStep l d).hose m = s.hose m ∧ (s.governorStep l d).topOff m = s.topOff m ∧
    (s.governorStep l d).sequenceMemory m = s.sequenceMemory m := by
  unfold Device.governorStep; (try dsimp only); (repeat' split) <;> simp [h]

@[simp] theorem Device.stripComplete_other (s : Device) (l : Line) (m : Line) (h : m ≠ l) :
    (s.stripComplete l).line m = s.line m ∧ (s.stripComplete l).governor m = s.governor m ∧
    (s.stripComplete l).hose m = s.hose m ∧ (s.stripComplete l).topOff m = s.topOff m ∧
    (s.stripComplete l).sequenceMemory m = s.sequenceMemory m := by
  unfold Device.stripComplete; (try dsimp only); (repeat' split) <;> simp [h]

@[simp] theorem Device.startTest_other (s : Device) (l : Line) (m : Line) (h : m ≠ l) :
    (s.startTest l).line m = s.line m ∧ (s.startTest l).governor m = s.governor m ∧
    (s.startTest l).hose m = s.hose m ∧ (s.startTest l).topOff m = s.topOff m := by
  unfold Device.startTest; (try dsimp only); (repeat' split) <;> simp [h]

@[simp] theorem Device.enterStartWait_other (s : Device) (l : Line) (m : Line) (h : m ≠ l) :
    (s.enterStartWait l).line m = s.line m ∧ (s.enterStartWait l).governor m = s.governor m ∧
    (s.enterStartWait l).hose m = s.hose m ∧ (s.enterStartWait l).topOff m = s.topOff m := by
  unfold Device.enterStartWait; (try dsimp only); (repeat' split) <;> simp [h]

@[simp] theorem Device.enterManifoldOpening_other (s : Device) (l : Line) (m : Line) (h : m ≠ l) :
    (s.enterManifoldOpening l).line m = s.line m ∧ (s.enterManifoldOpening l).governor m = s.governor m ∧
    (s.enterManifoldOpening l).hose m = s.hose m ∧ (s.enterManifoldOpening l).topOff m = s.topOff m := by
  unfold Device.enterManifoldOpening; (try dsimp only); (repeat' split) <;> simp [h]

@[simp] theorem Device.lineupClaims_other (s : Device) (l : Line) (m : Line) (h : m ≠ l) :
    (s.lineupClaims l).line m = s.line m ∧ (s.lineupClaims l).governor m = s.governor m ∧
    (s.lineupClaims l).hose m = s.hose m ∧ (s.lineupClaims l).topOff m = s.topOff m := by
  unfold Device.lineupClaims; (try dsimp only); (repeat' split) <;> simp [h]

@[simp] theorem Device.valveRemote_other (s : Device) (l : Line) (r : Role) (m : Line) (h : m ≠ l) :
    (s.valveRemote l r).line m = s.line m ∧ (s.valveRemote l r).governor m = s.governor m ∧
    (s.valveRemote l r).hose m = s.hose m ∧ (s.valveRemote l r).topOff m = s.topOff m ∧
    (s.valveRemote l r).sequenceMemory m = s.sequenceMemory m := by
  unfold Device.valveRemote; (try dsimp only); (repeat' split) <;> simp [h]

@[simp] theorem Device.lineupEnd_other (s : Device) (l : Line) (r : Role) (o : TxOutcome) (m : Line) (h : m ≠ l) :
    (s.lineupEnd l r o).line m = s.line m ∧ (s.lineupEnd l r o).governor m = s.governor m ∧
    (s.lineupEnd l r o).hose m = s.hose m ∧ (s.lineupEnd l r o).topOff m = s.topOff m ∧
    (s.lineupEnd l r o).sequenceMemory m = s.sequenceMemory m := by
  unfold Device.lineupEnd; (try dsimp only); (repeat' split) <;> simp [h]

@[simp] theorem Device.closingEnd_other (s : Device) (l : Line) (n : NodeNo) (r : Role) (m : Line) (h : m ≠ l) :
    (s.closingEnd l n r).line m = s.line m ∧ (s.closingEnd l n r).governor m = s.governor m ∧
    (s.closingEnd l n r).hose m = s.hose m ∧ (s.closingEnd l n r).topOff m = s.topOff m ∧
    (s.closingEnd l n r).sequenceMemory m = s.sequenceMemory m := by
  unfold Device.closingEnd; (try dsimp only); (repeat' split) <;> simp [h]

@[simp] theorem Device.valveEnd_other (s : Device) (l : Line) (n : NodeNo) (a : Act) (o : TxOutcome) (m : Line) (h : m ≠ l) :
    (s.valveEnd l n a o).line m = s.line m ∧ (s.valveEnd l n a o).governor m = s.governor m ∧
    (s.valveEnd l n a o).hose m = s.hose m ∧ (s.valveEnd l n a o).topOff m = s.topOff m ∧
    (s.valveEnd l n a o).sequenceMemory m = s.sequenceMemory m := by
  unfold Device.valveEnd; (try dsimp only); (repeat' split) <;> simp [h]

@[simp] theorem Device.pumpEnd_other (s : Device) (l : Line) (n : NodeNo) (m : Line) (h : m ≠ l) :
    (s.pumpEnd l n).line m = s.line m ∧ (s.pumpEnd l n).governor m = s.governor m ∧
    (s.pumpEnd l n).hose m = s.hose m ∧ (s.pumpEnd l n).topOff m = s.topOff m ∧
    (s.pumpEnd l n).sequenceMemory m = s.sequenceMemory m := by
  unfold Device.pumpEnd; (try dsimp only); (repeat' split) <;> simp [h]

@[simp] theorem Device.stripExpired_other (s : Device) (l : Line) (m : Line) (h : m ≠ l) :
    (s.stripExpired l).line m = s.line m ∧ (s.stripExpired l).governor m = s.governor m ∧
    (s.stripExpired l).hose m = s.hose m ∧ (s.stripExpired l).topOff m = s.topOff m ∧
    (s.stripExpired l).sequenceMemory m = s.sequenceMemory m := by
  unfold Device.stripExpired; (try dsimp only); (repeat' split) <;> simp [h]

@[simp] theorem Device.checkLastTank_other (s : Device) (l : Line) (m : Line) (h : m ≠ l) :
    (s.checkLastTank l).line m = s.line m ∧ (s.checkLastTank l).governor m = s.governor m ∧
    (s.checkLastTank l).hose m = s.hose m ∧ (s.checkLastTank l).topOff m = s.topOff m ∧
    (s.checkLastTank l).sequenceMemory m = s.sequenceMemory m := by
  unfold Device.checkLastTank; (try dsimp only); (repeat' split) <;> simp [h]

@[simp] theorem Device.pathEffect_other (s : Device) (l : Line) (a b : Nat) (m : Line) (h : m ≠ l) :
    (s.pathEffect l a b).line m = s.line m ∧ (s.pathEffect l a b).governor m = s.governor m ∧
    (s.pathEffect l a b).hose m = s.hose m ∧ (s.pathEffect l a b).topOff m = s.topOff m := by
  unfold Device.pathEffect; (try dsimp only); (repeat' split) <;> simp [h]

@[simp] theorem Device.assignTanks_other (s : Device) (l : Line) (ts : List TankNo) (m : Line) (h : m ≠ l) :
    (s.assignTanks l ts).line m = s.line m ∧ (s.assignTanks l ts).topOff m = s.topOff m := by
  unfold Device.assignTanks; (try dsimp only); (repeat' split) <;> simp [h]

@[simp] theorem Device.primingReading_other (s : Device) (l : Line) (p : Nat) (m : Line) (h : m ≠ l) :
    (s.primingReading l p).line m = s.line m ∧ (s.primingReading l p).governor m = s.governor m ∧
    (s.primingReading l p).hose m = s.hose m ∧ (s.primingReading l p).topOff m = s.topOff m := by
  unfold Device.primingReading; (try dsimp only); (repeat' split) <;> simp [h]

@[simp] theorem Device.stripReading_other (s : Device) (l : Line) (p : Nat) (m : Line) (h : m ≠ l) :
    (s.stripReading l p).line m = s.line m ∧ (s.stripReading l p).governor m = s.governor m ∧
    (s.stripReading l p).hose m = s.hose m ∧ (s.stripReading l p).topOff m = s.topOff m ∧
    (s.stripReading l p).sequenceMemory m = s.sequenceMemory m := by
  unfold Device.stripReading; (try dsimp only); (repeat' split) <;> simp [h]

@[simp] theorem Device.resetLow_other (s : Device) (l : Line) (m : Line) (h : m ≠ l) :
    (s.resetLow l).hose m = s.hose m := by
  unfold Device.resetLow; (try dsimp only); (repeat' split) <;> simp [h]

@[simp] theorem Device.stopReading_other (s : Device) (l : Line) (m : Line) (h : m ≠ l) :
    (s.stopReading l).line m = s.line m ∧ (s.stopReading l).governor m = s.governor m ∧
    (s.stopReading l).hose m = s.hose m ∧ (s.stopReading l).topOff m = s.topOff m ∧
    (s.stopReading l).sequenceMemory m = s.sequenceMemory m := by
  unfold Device.stopReading; (try dsimp only); (repeat' split) <;> simp [h]

@[simp] theorem Device.countDelivered_other (s : Device) (l : Line) (w : Word) (m : Line) (h : m ≠ l) :
    (s.countDelivered l w).line m = s.line m ∧ (s.countDelivered l w).governor m = s.governor m ∧
    (s.countDelivered l w).hose m = s.hose m ∧ (s.countDelivered l w).topOff m = s.topOff m := by
  unfold Device.countDelivered; (try dsimp only); (repeat' split) <;> simp [h]

@[simp] theorem Device.flowReading_other (s : Device) (l : Line) (w : Word) (m : Line) (h : m ≠ l) :
    (s.flowReading l w).line m = s.line m ∧ (s.flowReading l w).governor m = s.governor m ∧
    (s.flowReading l w).hose m = s.hose m ∧ (s.flowReading l w).topOff m = s.topOff m ∧
    (s.flowReading l w).sequenceMemory m = s.sequenceMemory m := by
  unfold Device.flowReading; (try dsimp only); (repeat' split) <;> simp [h]

@[simp] theorem Device.permitEffect_other (s : Device) (l : Line) (p : Permit) (m : Line) (h : m ≠ l) :
    (s.permitEffect l p).line m = s.line m ∧ (s.permitEffect l p).governor m = s.governor m ∧
    (s.permitEffect l p).hose m = s.hose m ∧ (s.permitEffect l p).topOff m = s.topOff m ∧
    (s.permitEffect l p).sequenceMemory m = s.sequenceMemory m := by
  unfold Device.permitEffect; (try dsimp only); (repeat' split) <;> simp [h]

end Sys2Proof.Machine
end

