-- ==== Sys2Proof/Laws/Claims.lean ====
section
/-! SUPPORT. What a claim does to its own node and to the others, what two devices that agree about a line's nodes have in
common, and the claims of an event as the statements speak of them. -/

namespace Sys2Proof.Machine

open Sys2Proof

/-! ## A claim changes its own node alone -/

@[simp] theorem Device.enqueueAhead_node (s : Device) (r : Report) (m : NodeNo) : (s.enqueueAhead r).node m = s.node m :=
  Device.node_congr _ _ m (by simp)

theorem Device.displaceQueued_node (s : Device) (n m : NodeNo) (o : Origin) (h : m ≠ n) :
    (s.displaceQueued n o).node m = s.node m := by
  unfold Device.displaceQueued; split
  · rfl
  · simp [Device.reportDropped, h]

theorem Device.goInFlight_node (s : Device) (n m : NodeNo) (c : Claim) (h : m ≠ n) :
    (s.goInFlight n c).node m = s.node m := by
  have keeps : ∀ (d : Device) (a : Act), ((d.takeTarget n a).noteEntered n).node m = d.node m := fun d a =>
    Device.node_congr _ _ m (by simp)
  unfold Device.goInFlight
  simp only [keeps, Device.setNode_node, if_neg h]

theorem Device.claim_node (s : Device) (n m : NodeNo) (c : Claim) (h : m ≠ n) : (s.claim n c).node m = s.node m := by
  unfold Device.claim
  split
  · simp [Device.reportDropped]
  · rw [Device.goInFlight_node _ _ _ _ h, Device.displaceQueued_node _ _ _ _ h]
  · rw [Device.displaceQueued_node _ _ _ _ h]
  · simp [h, Device.displaceQueued_node _ _ _ _ h]
  · rw [Device.goInFlight_node _ _ _ _ h, Device.displaceQueued_node _ _ _ _ h]
  · unfold Device.adoptInFlight; split
    · rw [Device.displaceQueued_node _ _ _ _ h]
    · simp [h, Device.displaceQueued_node _ _ _ _ h]
  · rw [Device.goInFlight_node _ _ _ _ h]
    unfold Device.abandonInFlight; split
    · rw [Device.displaceQueued_node _ _ _ _ h]
    · simp [Device.reportEnd, h, Device.displaceQueued_node _ _ _ _ h]

/-- Two devices' nodes have the same kinds, lines and roles. -/
def Device.sameSettings (s t : Device) : Prop :=
  ∀ n, (t.node n).kind = (s.node n).kind ∧ (t.node n).line = (s.node n).line ∧ (t.node n).role = (s.node n).role

theorem Device.sameSettings_of_stills (s t : Device) (h : t.stills = s.stills) : s.sameSettings t := by
  intro n
  have e : (t.node n).still = (s.node n).still := congrFun h n
  simp only [Node.still, Node.mk.injEq] at e
  exact ⟨e.1, e.2.1, e.2.2.1⟩

theorem Device.sameSettings_of_nodes (s t : Device) (h : t.nodes = s.nodes) : s.sameSettings t := by
  intro n; rw [Device.node_congr t s n h]; exact ⟨rfl, rfl, rfl⟩

theorem Device.valveOf_congr (s t : Device) (h : s.sameSettings t) (l : Line) (r : Role) :
    t.valveOf l r = s.valveOf l r := by
  unfold Device.valveOf
  congr 1; funext n
  rw [(h n).1, (h n).2.1, (h n).2.2]

theorem Device.deviceOf_congr (s t : Device) (h : s.sameSettings t) (l : Line) (k : NodeKind) :
    t.deviceOf l k = s.deviceOf l k := by
  unfold Device.deviceOf
  congr 1; funext n
  rw [(h n).1, (h n).2.1]

/-- Two nodes have the same valve state and slots. -/
def Node.sameSlots (x y : Node) : Prop := y.valve = x.valve ∧ y.inFlight = x.inFlight ∧ y.queued = x.queued

theorem claimFate_congr (x y : Node) (c : Claim) (h : x.sameSlots y) : claimFate y c = claimFate x c := by
  unfold claimFate Node.queuedEsd; rw [h.2.1, h.2.2]

theorem Node.idle_congr (x y : Node) (h : x.sameSlots y) : y.idle = x.idle := by unfold Node.idle; rw [h.2.1, h.2.2]

/-- The valve of a role has it. -/
theorem Device.valveOf_some (s : Device) (l : Line) (r : Role) (n : NodeNo) (h : s.valveOf l r = some n) :
    (s.node n).kind = .valve ∧ (s.node n).line = some l ∧ (s.node n).role = r := by
  simpa using List.find?_some h

theorem Device.claimValve_off (s : Device) (l : Line) (r : Role) (t : Target) (o : Origin) (n : NodeNo)
    (h : (s.node n).line ≠ some l) : (s.claimValve l r t o).node n = s.node n := by
  unfold Device.claimValve
  cases hr : s.valveOf l r with
  | none => rfl
  | some m => exact s.claim_node m n _ fun e => h (e ▸ (s.valveOf_some l r m hr).2.1)

/-! ## What a claim leaves in the slots (R120 to R124) -/

theorem Node.idle_iff (nd : Node) : nd.idle = true ↔ nd.inFlight = none ∧ nd.queued = none := by
  unfold Node.idle; simp

/-- The claim reads the slots before it, and is seen in the slots after it. -/
theorem Node.claimTaken_congr (x y u v : Node) (c : Claim) (now : Time) (h : x.claimTaken u c now)
    (hx : y.inFlight = x.inFlight ∧ y.queued = x.queued) (hu : v.inFlight = u.inFlight ∧ v.queued = u.queued) :
    y.claimTaken v c now := by
  unfold Node.claimTaken at *; rw [hx.1, hx.2, hu.1, hu.2]; exact h

theorem esdWaits_queued (nd : Node) : esdWaits nd.queued = nd.queuedEsd := by
  unfold esdWaits Node.queuedEsd; cases nd.queued <;> rfl

/-- Emptying the queued slot keeps the transaction in flight. -/
theorem Device.displaceQueued_slots (s : Device) (n : NodeNo) (o : Origin) :
    ((s.displaceQueued n o).node n).inFlight = (s.node n).inFlight ∧ ((s.displaceQueued n o).node n).queued = none ∧
    (s.displaceQueued n o).time = s.time := by
  unfold Device.displaceQueued; split
  · next h => exact ⟨rfl, h, rfl⟩
  · simp [Device.reportDropped]

theorem Device.goInFlight_slots (s : Device) (n : NodeNo) (c : Claim) :
    ((s.goInFlight n c).node n).inFlight = some (c.started s.time) ∧
    ((s.goInFlight n c).node n).queued = (s.node n).queued := by
  have keeps : ∀ (d : Device) (a : Act), ((d.takeTarget n a).noteEntered n).node n = d.node n := fun d a =>
    Device.node_congr _ _ n (by simp)
  unfold Device.goInFlight; simp [keeps, Claim.started]

/-- What a claim leaves in the slots of its node. -/
theorem Device.claim_taken (s : Device) (n : NodeNo) (c : Claim) :
    (s.node n).claimTaken ((s.claim n c).node n) c s.time := by
  have q := s.displaceQueued_slots n c.origin
  have go := (s.displaceQueued n c.origin).goInFlight_slots n c
  have ab : ∀ d : Device, ((d.abandonInFlight n).node n).queued = (d.node n).queued ∧
      (d.abandonInFlight n).time = d.time := by
    intro d; unfold Device.abandonInFlight; split
    · exact ⟨rfl, rfl⟩
    · simp [Device.reportEnd]
  have goa := ((s.displaceQueued n c.origin).abandonInFlight n).goInFlight_slots n c
  rw [(ab _).1, (ab _).2, q.2.1, q.2.2] at goa
  rw [q.2.1, q.2.2] at go
  have ad : ∀ x, (s.node n).inFlight = some x →
      (((s.displaceQueued n c.origin).adoptInFlight n).node n).inFlight = some { x with origin := .esd } ∧
      (((s.displaceQueued n c.origin).adoptInFlight n).node n).queued = none := by
    intro x hx
    unfold Device.adoptInFlight
    rw [q.1, hx]; simp [q.2.1]
  have drop : ∀ k, (s.reportDropped n c k).node n = s.node n := fun k => by simp [Device.reportDropped]
  obtain ⟨a, o⟩ := c
  unfold Node.claimTaken Device.claim claimFate
  cases hx : (s.node n).inFlight with
  | none =>
    intro hq
    have e : (s.node n).queuedEsd = false := by unfold Node.queuedEsd; rw [hq]
    simp only [e]
    exact go
  | some x =>
    have m := ad x hx
    rw [hx] at q
    unfold slotsAfter
    rw [esdWaits_queued]
    cases a <;> dsimp only at go goa q m ⊢
    all_goals repeat' split
    all_goals first
      | contradiction
      | (split <;> simp_all; done)
      | simp_all

theorem Device.claim_idle (s : Device) (n : NodeNo) (c : Claim) (h : (s.node n).idle = true) :
    ((s.claim n c).node n).inFlight = some (c.started s.time) := by
  obtain ⟨hi, hq⟩ := (Node.idle_iff _).mp h
  have x := s.claim_taken n c
  unfold Node.claimTaken at x
  rw [hi] at x
  exact (x hq).1

theorem Device.claimValve_claimed (s : Device) (l : Line) (r : Role) (g : Target) (o : Origin) :
    s.moveClaimed (s.claimValve l r g o) l r g o := by
  intro n hn
  unfold Device.claimValve; rw [hn]
  exact s.claim_taken n _

theorem Device.claimPump_claimed (s : Device) (l : Line) (v : Nat) (o : Origin) :
    s.speedClaimed (s.claimPump l v o) l v o := by
  intro n hn
  unfold Device.claimPump; rw [hn]
  exact s.claim_taken n _

/-- A claim on a valve leaves every node that is not the valve of that role. -/
theorem Device.claimValve_role (s : Device) (l : Line) (r : Role) (g : Target) (o : Origin) (n : NodeNo)
    (h : (s.node n).kind ≠ .valve ∨ (s.node n).role ≠ r) : (s.claimValve l r g o).node n = s.node n := by
  unfold Device.claimValve
  cases hr : s.valveOf l r with
  | none => rfl
  | some m =>
    have x := s.valveOf_some l r m hr
    exact s.claim_node m n _ fun e => h.elim (fun k => k (e ▸ x.1)) fun k => k (e ▸ x.2.2)

/-- The device of a kind has it. -/
theorem Device.deviceOf_some (s : Device) (l : Line) (k : NodeKind) (n : NodeNo) (h : s.deviceOf l k = some n) :
    (s.node n).kind = k ∧ (s.node n).line = some l := by simpa using List.find?_some h

theorem Device.claimPump_kind (s : Device) (l : Line) (v : Nat) (o : Origin) (n : NodeNo) (h : (s.node n).kind ≠ .pump) :
    (s.claimPump l v o).node n = s.node n := by
  unfold Device.claimPump
  cases hr : s.deviceOf l .pump with
  | none => rfl
  | some m => exact s.claim_node m n _ fun e => h (e ▸ (s.deviceOf_some l .pump m hr).1)

theorem Device.claimPump_off (s : Device) (l : Line) (v : Nat) (o : Origin) (n : NodeNo)
    (h : (s.node n).line ≠ some l) : (s.claimPump l v o).node n = s.node n := by
  unfold Device.claimPump
  cases hr : s.deviceOf l .pump with
  | none => rfl
  | some m => exact s.claim_node m n _ fun e => h (e ▸ (s.deviceOf_some l .pump m hr).2)

/-! ## A claim stands through what leaves the line's nodes -/

/-- Two nodes have the same slots. -/
def Node.sameClaims (x y : Node) : Prop := y.inFlight = x.inFlight ∧ y.queued = x.queued

/-- From an event that takes S to T, to one that takes D to U: the time and the node settings before agree, and so do the
slots of a line's valves and pump, before and after. -/
def Device.carries (s d t u : Device) (l : Line) : Prop :=
  d.time = s.time ∧ s.sameSettings d ∧
  ∀ n, (s.node n).line = some l → (s.node n).kind = .valve ∨ (s.node n).kind = .pump →
    (s.node n).sameClaims (d.node n) ∧ (t.node n).sameClaims (u.node n)

theorem Device.carries_refl (s t : Device) (l : Line) : s.carries s t t l :=
  ⟨rfl, fun _ => ⟨rfl, rfl, rfl⟩, fun _ _ _ => ⟨⟨rfl, rfl⟩, rfl, rfl⟩⟩

theorem Device.moveClaimed_of (s d t u : Device) (l : Line) (r : Role) (g : Target) (o : Origin)
    (h : s.moveClaimed t l r g o) (c : s.carries d t u l) : d.moveClaimed u l r g o := by
  intro n hn
  rw [s.valveOf_congr d c.2.1] at hn
  have x := s.valveOf_some l r n hn
  have y := c.2.2 n x.2.1 (.inl x.1)
  rw [c.1]
  exact Node.claimTaken_congr _ _ _ _ _ _ (h n hn) y.1 y.2

theorem Device.speedClaimed_of (s d t u : Device) (l : Line) (v : Nat) (o : Origin)
    (h : s.speedClaimed t l v o) (c : s.carries d t u l) : d.speedClaimed u l v o := by
  intro n hn
  rw [s.deviceOf_congr d c.2.1] at hn
  have x := s.deviceOf_some l .pump n hn
  have y := c.2.2 n x.2 (.inr x.1)
  rw [c.1]
  exact Node.claimTaken_congr _ _ _ _ _ _ (h n hn) y.1 y.2

/-- An event that leaves the line's nodes after another, and one before which they stood as they were. -/
theorem Device.carries_of (s d t u : Device) (l : Line) (ht : d.time = s.time) (hs : s.sameSettings d)
    (hd : ∀ n, (s.node n).line = some l → d.node n = s.node n)
    (hu : ∀ n, (s.node n).line = some l → u.node n = t.node n) : s.carries d t u l :=
  ⟨ht, hs, fun n hl _ => ⟨by rw [hd n hl]; exact ⟨rfl, rfl⟩, by rw [hu n hl]; exact ⟨rfl, rfl⟩⟩⟩

theorem Device.carries_nodes (s d t u : Device) (l : Line) (ht : d.time = s.time) (hd : d.nodes = s.nodes)
    (hu : u.nodes = t.nodes) : s.carries d t u l :=
  s.carries_of d t u l ht (s.sameSettings_of_nodes d hd) (fun n _ => Device.node_congr d s n hd)
    fun n _ => Device.node_congr u t n hu

/-- A claim of a line's valve stands through what leaves that valve. -/
theorem Device.moveClaimed_at (s d t u : Device) (l : Line) (r : Role) (g : Target) (o : Origin)
    (h : s.moveClaimed t l r g o) (ht : d.time = s.time) (hs : s.sameSettings d)
    (hd : ∀ n, s.valveOf l r = some n → d.node n = s.node n)
    (hu : ∀ n, s.valveOf l r = some n → u.node n = t.node n) : d.moveClaimed u l r g o := by
  intro n hn
  rw [s.valveOf_congr d hs] at hn
  rw [hu n hn, ht, hd n hn]
  exact h n hn

/-- A claim of a line's pump stands through what leaves the pump. -/
theorem Device.speedClaimed_at (s d t u : Device) (l : Line) (v : Nat) (o : Origin)
    (h : s.speedClaimed t l v o) (ht : d.time = s.time) (hs : s.sameSettings d)
    (hd : ∀ n, s.deviceOf l .pump = some n → d.node n = s.node n)
    (hu : ∀ n, s.deviceOf l .pump = some n → u.node n = t.node n) : d.speedClaimed u l v o := by
  intro n hn
  rw [s.deviceOf_congr d hs] at hn
  rw [hu n hn, ht, hd n hn]
  exact h n hn

/-- What is at rest is read off the valve's own node. -/
theorem Device.atRest_congr (s t : Device) (l : Line) (r : Role) (g : Target) (h : s.sameSettings t)
    (hn : ∀ n, s.valveOf l r = some n → t.node n = s.node n) : t.atRest l r g = s.atRest l r g := by
  unfold Device.atRest
  rw [s.valveOf_congr t h]
  cases hv : s.valveOf l r with
  | none => rfl
  | some n => dsimp only; rw [hn n hv]

theorem Device.claimUnlessAtRest_role (s : Device) (l : Line) (r : Role) (g : Target) (n : NodeNo)
    (h : (s.node n).kind ≠ .valve ∨ (s.node n).role ≠ r) : (s.claimUnlessAtRest l r g).node n = s.node n := by
  unfold Device.claimUnlessAtRest; split
  · rfl
  · exact s.claimValve_role l r g .esd n h

theorem Device.claimUnlessAtRest_off (s : Device) (l : Line) (r : Role) (g : Target) (n : NodeNo)
    (h : (s.node n).line ≠ some l) : (s.claimUnlessAtRest l r g).node n = s.node n := by
  unfold Device.claimUnlessAtRest; split
  · rfl
  · exact s.claimValve_off l r g .esd n h

theorem Device.claimUnlessAtRest_claimed (s : Device) (l : Line) (r : Role) (g : Target) (h : s.atRest l r g = false) :
    s.moveClaimed (s.claimUnlessAtRest l r g) l r g .esd := by
  unfold Device.claimUnlessAtRest; rw [h]
  exact s.claimValve_claimed l r g .esd

/-! ## A claim never leaves a valve at rest -/

/-- After a claim its node is not idle: the claim stands in a slot, or met one that did (R120 to R124). -/
theorem Device.claim_busy (s : Device) (n : NodeNo) (c : Claim) : ((s.claim n c).node n).idle = false := by
  have keeps : ∀ (d : Device) (a : Act), ((d.takeTarget n a).noteEntered n).node n = d.node n := fun d a =>
    Device.node_congr _ _ n (by simp)
  have go : ∀ d : Device, ((d.goInFlight n c).node n).idle = false := fun d => by
    unfold Device.goInFlight Node.idle; simp [keeps]
  have shown : ∀ d : Device, (d.displaceQueued n c.origin |>.node n).inFlight = (d.node n).inFlight := fun d => by
    unfold Device.displaceQueued; split <;> simp [Device.reportDropped]
  have flies : claimFate (s.node n) c = .merge ∨ claimFate (s.node n) c = .adopt → (s.node n).inFlight ≠ none := by
    intro h e
    unfold claimFate at h
    rw [e] at h
    dsimp only at h
    split at h <;> simp at h
  unfold Device.claim
  split
  · next f =>
    simp only [Device.reportDropped, Device.enqueueAhead_node]
    cases hi : (s.node n).inFlight with
    | some x => simp [Node.idle, hi]
    | none =>
      cases hq : (s.node n).queued with
      | some x => simp [Node.idle, hq]
      | none => simp [claimFate, Node.queuedEsd, hi, hq] at f
  · exact go _
  · next f =>
    have x := flies (.inl f)
    rw [← shown s] at x
    simp [Node.idle, x]
  · simp [Node.idle]
  · exact go _
  · next f =>
    have x := flies (.inr f)
    rw [← shown s] at x
    unfold Device.adoptInFlight
    split
    · next e => exact absurd e x
    · simp [Node.idle]
  · exact go _

/-- A claim made unless the valve is at rest in its position does not change whether it is. -/
theorem Device.claimUnlessAtRest_atRest (s : Device) (l : Line) (r : Role) (g : Target) :
    (s.claimUnlessAtRest l r g).atRest l r g = s.atRest l r g := by
  unfold Device.claimUnlessAtRest
  split
  · rfl
  · next h =>
    rw [Bool.not_eq_true] at h
    rw [h]
    unfold Device.atRest
    rw [s.valveOf_congr _ (s.sameSettings_of_stills _ (by simp))]
    unfold Device.claimValve
    cases s.valveOf l r with
    | none => rfl
    | some n => dsimp only; rw [s.claim_busy n]; simp

/-! ## The claims of an ESD sequence's start (R91) -/

/-- The start of a line's ESD sequence leaves the nodes of other lines. -/
theorem Device.esdStart_off (s : Device) (l : Line) (n : NodeNo) (h : (s.node n).line ≠ some l) :
    (s.esdStart l).node n = s.node n := by
  generalize ha : s.setSequence l .esdPumpStop = a
  have na : a.node n = s.node n := Device.node_congr _ _ n (by rw [← ha]; simp)
  have nb := (a.claimPump_off l 0 .esd n (na ▸ h)).trans na
  have nc := ((a.claimPump l 0 .esd).claimUnlessAtRest_off l .returnValve .opened n (nb ▸ h)).trans nb
  unfold Device.esdStart Device.setPumpDeadline; dsimp only; rw [ha]
  exact (Device.node_congr _ _ n (by simp)).trans nc

/-- What the start of a line's ESD sequence claims: SPEED 0, and RETURN OPEN unless it is at rest OPEN. -/
theorem Device.esdStart_claimed (s : Device) (l : Line) :
    s.speedClaimed (s.esdStart l) l 0 .esd ∧
    (s.atRest l .returnValve .opened = false → s.moveClaimed (s.esdStart l) l .returnValve .opened .esd) := by
  generalize ha : s.setSequence l .esdPumpStop = a
  have na : a.nodes = s.nodes := by rw [← ha]; simp
  have ta : a.time = s.time := by rw [← ha]; simp
  have e : (s.esdStart l).nodes = ((a.claimPump l 0 .esd).claimUnlessAtRest l .returnValve .opened).nodes := by
    unfold Device.esdStart Device.setPumpDeadline; dsimp only; rw [ha]; simp
  generalize hb : a.claimPump l 0 .esd = b at e
  have sb : a.sameSettings b := a.sameSettings_of_stills b (by rw [← hb]; simp)
  have nb : ∀ n, a.valveOf l .returnValve = some n → b.node n = a.node n := fun n hn => by
    rw [← hb]; exact a.claimPump_kind l 0 .esd n (by rw [(a.valveOf_some l _ n hn).1]; decide)
  have back : ∀ n, s.node n = a.node n := fun n => (Device.node_congr a s n na).symm
  constructor
  · intro n hn
    rw [← s.deviceOf_congr a (s.sameSettings_of_nodes a na)] at hn
    have hk : (b.node n).kind ≠ .valve := by
      rw [(sb n).1, (a.deviceOf_some l .pump n hn).1]; decide
    rw [Device.node_congr _ _ n e, b.claimUnlessAtRest_role l _ _ n (.inl hk), ← ta, ← hb, back n]
    exact a.claimPump_claimed l 0 .esd n hn
  · intro hr n hn
    rw [← s.valveOf_congr a (s.sameSettings_of_nodes a na)] at hn
    have hc := b.claimUnlessAtRest_claimed l .returnValve .opened (by
      rw [a.atRest_congr b l _ _ sb nb, s.atRest_congr a l _ _ (s.sameSettings_of_nodes a na) fun n _ => (back n).symm]
      exact hr)
    rw [Device.node_congr _ _ n e, ← ta]
    have tb : b.time = a.time := by rw [← hb]; simp
    rw [← tb]
    rw [back n, ← nb n hn]
    exact hc n ((a.valveOf_congr b sb l .returnValve).trans hn)

theorem Device.esdStart_settings (s : Device) (l : Line) : s.sameSettings (s.esdStart l) :=
  s.sameSettings_of_stills _ (by simp)

theorem Device.startSequences_off (s : Device) (ls : List Line) (n : NodeNo)
    (h : ∀ l ∈ ls, (s.node n).line ≠ some l) : (s.startSequences ls).node n = s.node n := by
  induction ls generalizing s with
  | nil => rfl
  | cons l ls ih =>
    have e := s.esdStart_off l n (h l (by simp))
    rw [Device.startSequences, ih (s.esdStart l) fun m hm => by rw [e]; exact h m (by simp [hm]), e]

/-- The start of several lines' ESD sequences makes the claims of each. -/
theorem Device.startSequences_claimed (s : Device) (ls : List Line) (hd : ls.Nodup) (l : Line) (hl : l ∈ ls) :
    s.speedClaimed (s.startSequences ls) l 0 .esd ∧
    (s.atRest l .returnValve .opened = false → s.moveClaimed (s.startSequences ls) l .returnValve .opened .esd) := by
  induction ls generalizing s with
  | nil => cases hl
  | cons m ls ih =>
    obtain ⟨hm, hd⟩ := List.nodup_cons.mp hd
    generalize ha : s.esdStart m = a
    have sa : s.sameSettings a := ha ▸ s.esdStart_settings m
    have ta : a.time = s.time := by rw [← ha]; simp
    have e : s.startSequences (m :: ls) = a.startSequences ls := by rw [Device.startSequences, ha]
    rw [e]
    by_cases hlm : l = m
    · subst hlm
      have x := s.esdStart_claimed l
      rw [ha] at x
      have c : s.carries s a (a.startSequences ls) l :=
        s.carries_of s a _ l rfl (fun _ => ⟨rfl, rfl, rfl⟩) (fun _ _ => rfl) fun n hn =>
          a.startSequences_off ls n fun k hk hx => hm (by
            rw [(sa n).2.1, hn] at hx; exact Option.some.inj hx ▸ hk)
      exact ⟨s.speedClaimed_of s a _ l 0 .esd x.1 c, fun h => s.moveClaimed_of s a _ l _ _ _ (x.2 h) c⟩
    · have hl' : l ∈ ls := (List.mem_cons.mp hl).resolve_left hlm
      have x := ih a hd hl'
      have off : ∀ n, (s.node n).line = some l → a.node n = s.node n := fun n hn => by
        rw [← ha]; exact s.esdStart_off m n (by rw [hn]; exact fun h => hlm (Option.some.inj h))
      have c : a.carries s (a.startSequences ls) (a.startSequences ls) l :=
        a.carries_of s _ _ l ta.symm (fun n => ⟨(sa n).1.symm, (sa n).2.1.symm, (sa n).2.2.symm⟩)
          (fun n hn => (off n (by rw [← (sa n).2.1]; exact hn)).symm) fun _ _ => rfl
      refine ⟨a.speedClaimed_of s _ _ l 0 .esd x.1 c, fun h => a.moveClaimed_of s _ _ l _ _ _ (x.2 ?_) c⟩
      rw [s.atRest_congr a l _ _ sa fun n hn => off n (s.valveOf_some l _ n hn).2.1]
      exact h

end Sys2Proof.Machine
end

