-- ==== Sys2Proof/Laws/Effects.lean ====
section
/-! SUPPORT. What the operations of a line do to it: the line's state and context after a change of state, a stop trigger, a
trip, and the setting of the latch. -/

namespace Sys2Proof.Machine

open Sys2Proof

/-! ## A change of line state -/

/-- Handing the topping causes changes nothing else of a line's context. -/
@[simp] theorem Device.recompute_context (s : Device) (l : Line) :
    ((s.recompute l).line l).state = (s.line l).state ∧ ((s.recompute l).line l).step = (s.line l).step ∧
    ((s.recompute l).line l).hold = (s.line l).hold ∧ ((s.recompute l).line l).stopCause = (s.line l).stopCause ∧
    ((s.recompute l).line l).stripFlag = (s.line l).stripFlag ∧
    ((s.recompute l).line l).stripResult = (s.line l).stripResult ∧
    ((s.recompute l).line l).nominated = (s.line l).nominated ∧ ((s.recompute l).line l).base = (s.line l).base ∧
    ((s.recompute l).line l).holdStart = (s.line l).holdStart ∧ ((s.recompute l).line l).entry = (s.line l).entry ∧
    ((s.recompute l).line l).deadline = (s.line l).deadline ∧
    ((s.recompute l).line l).fitted = (s.line l).fitted := by
  unfold Device.recompute; dsimp only; split <;> simp

/-- A change of state sets state, step and entry time, cancels the deadline, and keeps the rest of the context (R3). -/
@[simp] theorem Device.enterState_context (s : Device) (l : Line) (st : LineState) (p : Step) (c : ReportCause) :
    ((s.enterState l st p c).line l).state = st ∧ ((s.enterState l st p c).line l).step = p ∧
    ((s.enterState l st p c).line l).entry = s.time ∧ ((s.enterState l st p c).line l).deadline = none ∧
    ((s.enterState l st p c).line l).hold = (s.line l).hold ∧
    ((s.enterState l st p c).line l).stopCause = (s.line l).stopCause ∧
    ((s.enterState l st p c).line l).stripFlag = (s.line l).stripFlag ∧
    ((s.enterState l st p c).line l).stripResult = (s.line l).stripResult ∧
    ((s.enterState l st p c).line l).nominated = (s.line l).nominated ∧
    ((s.enterState l st p c).line l).base = (s.line l).base ∧
    ((s.enterState l st p c).line l).holdStart = (s.line l).holdStart ∧
    ((s.enterState l st p c).line l).fitted = (s.line l).fitted := by
  unfold Device.enterState; dsimp only; split <;> simp

/-- A change to any state but HELD makes no claim (R13, R39). -/
theorem Device.enterState_nodes (s : Device) (l : Line) (st : LineState) (p : Step) (c : ReportCause)
    (h : st ≠ .held) :
    (s.enterState l st p c).nodes = s.nodes ∧ (s.enterState l st p c).targets = s.targets ∧
    (s.enterState l st p c).bus = s.bus := by
  unfold Device.enterState Device.governorEnters; dsimp only
  rw [if_neg h]
  split <;> simp

/-! ## The setting of the latch (R89) -/

/-- A line tripped stands in TRIPPING with the cause and no hold cause (R25). -/
@[simp] theorem Device.tripLine_context (s : Device) (l : Line) (c : Cause) :
    ((s.tripLine l c).line l).state = .tripping ∧ ((s.tripLine l c).line l).step = .none ∧
    ((s.tripLine l c).line l).stopCause = some c ∧ ((s.tripLine l c).line l).hold = .empty ∧
    ((s.tripLine l c).line l).nominated = (s.line l).nominated ∧
    ((s.tripLine l c).line l).stripResult = trippedStripResult (s.line l) := by
  unfold Device.tripLine; simp

/-- The start of a line's ESD sequence shows its step and keeps the rest of the line's context (R91). -/
@[simp] theorem Device.esdStart_line (s : Device) (l m : Line) :
    (s.esdStart l).line m = if m = l then { s.line l with step := .esdPumpStop } else s.line m := by
  unfold Device.esdStart Device.setSequence Device.setStep; simp

@[simp] theorem Device.esdStart_sequence (s : Device) (l m : Line) :
    (s.esdStart l).shutdown.sequence.get m = if m = l then .esdPumpStop else s.shutdown.sequence.get m := by
  unfold Device.esdStart Device.setSequence Device.setStep Device.setPumpDeadline; simp

@[simp] theorem Device.esdStart_deadline (s : Device) (l m : Line) :
    (s.esdStart l).shutdown.pumpDeadline.get m =
      if m = l then some (s.secondsOn (s.limits l).pumpStop) else s.shutdown.pumpDeadline.get m := by
  unfold Device.esdStart Device.setSequence Device.setStep Device.setPumpDeadline Device.secondsOn Device.limits; simp

theorem Device.startSequences_deadline (s : Device) (ls : List Line) (m : Line) :
    (s.startSequences ls).shutdown.pumpDeadline.get m =
      if m ∈ ls then some (s.secondsOn (s.limits m).pumpStop) else s.shutdown.pumpDeadline.get m := by
  induction ls generalizing s with
  | nil => simp [Device.startSequences]
  | cons l ls ih =>
    rw [Device.startSequences, ih, Device.esdStart_deadline]
    by_cases h : m = l
    · subst h; simp [Device.secondsOn, Device.limits]
    · simp [h, Device.secondsOn, Device.limits]

theorem Device.startSequences_line (s : Device) (ls : List Line) (m : Line) :
    (s.startSequences ls).line m = if m ∈ ls then { s.line m with step := .esdPumpStop } else s.line m := by
  induction ls generalizing s with
  | nil => simp [Device.startSequences]
  | cons l ls ih =>
    rw [Device.startSequences, ih, Device.esdStart_line]
    by_cases h : m = l
    · subst h; simp
    · simp [h]

theorem Device.startSequences_sequence (s : Device) (ls : List Line) (m : Line) :
    (s.startSequences ls).shutdown.sequence.get m = if m ∈ ls then .esdPumpStop else s.shutdown.sequence.get m := by
  induction ls generalizing s with
  | nil => simp [Device.startSequences]
  | cons l ls ih =>
    rw [Device.startSequences, ih, Device.esdStart_sequence]
    by_cases h : m = l
    · subst h; simp
    · simp [h]

/-- Each line that trips is tripped, and no other line changes (R89). -/
theorem Device.tripLines_line (s : Device) (c : Cause) (m : Line) :
    if (s.line m).state.trips = true then
      ((s.tripLines c).line m).state = .tripping ∧ ((s.tripLines c).line m).stopCause = some c
    else (s.tripLines c).line m = s.line m := by
  have one : ∀ (s : Device) (l m : Line),
      (m ≠ l → (if (s.line l).state.trips = true then s.tripLine l c else s).line m = s.line m) ∧
      (if (s.line l).state.trips = true then
        ((if (s.line l).state.trips = true then s.tripLine l c else s).line l).state = .tripping ∧
        ((if (s.line l).state.trips = true then s.tripLine l c else s).line l).stopCause = some c
       else (if (s.line l).state.trips = true then s.tripLine l c else s).line l = s.line l) := by
    intro s l m
    refine ⟨fun h => ?_, ?_⟩
    · split
      · simp [h]
      · rfl
    · split <;> simp
  unfold Device.tripLines Device.forLines
  cases m
  · rw [(one _ .l3 .l1).1 (by decide), (one _ .l2 .l1).1 (by decide)]
    exact (one s .l1 .l1).2
  · rw [(one _ .l3 .l2).1 (by decide)]
    have h := (one (if (s.line .l1).state.trips = true then s.tripLine .l1 c else s) .l2 .l2).2
    rw [(one s .l1 .l2).1 (by decide)] at h
    simpa [(one s .l1 .l2).1 (by decide)] using h
  · have h := (one (if ((if (s.line .l1).state.trips = true then s.tripLine .l1 c else s).line .l2).state.trips = true
        then (if (s.line .l1).state.trips = true then s.tripLine .l1 c else s).tripLine .l2 c
        else if (s.line .l1).state.trips = true then s.tripLine .l1 c else s) .l3 .l3).2
    rw [(one _ .l2 .l3).1 (by decide), (one s .l1 .l3).1 (by decide)] at h
    simpa [(one _ .l2 .l3).1 (by decide), (one s .l1 .l3).1 (by decide)] using h

/-- The lines that the latch trips. -/
theorem Device.mem_trippingLines (s : Device) (l : Line) : l ∈ s.trippingLines ↔ (s.line l).state.trips = true := by
  simp [Device.trippingLines]

/-- Tripping the lines claims nothing (R25). -/
theorem Device.tripLines_nodes (s : Device) (c : Cause) : (s.tripLines c).nodes = s.nodes := by
  have one : ∀ (l : Line) (d : Device), (if (d.line l).state.trips then d.tripLine l c else d).nodes = d.nodes := by
    intro l d; split
    · unfold Device.tripLine; dsimp only
      rw [(Device.enterState_nodes _ l .tripping .none _ (by decide)).1]; simp
    · rfl
  unfold Device.tripLines Device.forLines
  rw [one, one, one]

/-- Tripping the lines and starting their sequences, from a device whose lines are those of another (R89, R91). -/
theorem Device.tripAll (s d : Device) (c : Cause) (h : ∀ m, d.line m = s.line m) (hn : d.nodes = s.nodes)
    (ht : d.time = s.time) (hc : d.charter = s.charter) (l : Line) (u : Device)
    (hu : u = (d.tripLines c).placeReports.startSequences s.trippingLines) :
    if (s.line l).state.trips = true then
      (u.line l).state = .tripping ∧ (u.line l).step = .esdPumpStop ∧ (u.line l).stopCause = some c ∧
      u.shutdown.sequence.get l = .esdPumpStop ∧
      u.shutdown.pumpDeadline.get l = some (s.secondsOn (s.limits l).pumpStop) ∧ s.speedClaimed u l 0 .esd ∧
      (s.atRest l .returnValve .opened = false → s.moveClaimed u l .returnValve .opened .esd)
    else u.line l = s.line l := by
  have one := d.tripLines_line c l
  rw [h l] at one
  generalize hv : (d.tripLines c).placeReports = v at hu
  have nv : v.nodes = s.nodes := by rw [← hv]; simp [Device.tripLines_nodes, hn]
  have tv : v.time = s.time := by rw [← hv]; simp [ht]
  have cv : v.charter = s.charter := by rw [← hv]; simp [hc]
  have lv : v.line l = (d.tripLines c).line l := by rw [← hv]; simp
  rw [← lv] at one
  rw [hu, Device.startSequences_line, Device.startSequences_sequence, Device.startSequences_deadline]
  by_cases ht : (s.line l).state.trips = true
  · have hm := (s.mem_trippingLines l).mpr ht
    rw [if_pos ht] at one ⊢
    have x := v.startSequences_claimed s.trippingLines (List.Nodup.sublist List.filter_sublist (by decide)) l hm
    have k := v.carries_nodes s (v.startSequences s.trippingLines) _ l tv.symm nv.symm rfl
    refine ⟨by simp [hm, one], by simp [hm], by simp [hm, one], by simp [hm], ?_,
      v.speedClaimed_of s _ _ l 0 .esd x.1 k, fun r => v.moveClaimed_of s _ _ l _ _ _ (x.2 ?_) k⟩
    · simp [hm, Device.secondsOn, Device.limits, tv, cv]
    · rw [s.atRest_congr v l _ _ (s.sameSettings_of_nodes v nv) fun n _ => Device.node_congr v s n nv]; exact r
  · have hm : l ∉ s.trippingLines := fun x => ht ((s.mem_trippingLines l).mp x)
    rw [if_neg ht] at one ⊢
    simp [hm, one]

/-- What the setting of the latch does (R89). -/
theorem Device.setLatch_latchSet (s : Device) (c : Cause) (line subject v : Nat) :
    s.latchSet (s.setLatch c line subject v) c line subject := by
  refine ⟨?_, ?_, ?_, ?_, ?_, ?_, ?_, fun l => ?_⟩
  rotate_right
  · exact Device.tripAll s _ c (fun m => by simp) (by simp) (by simp) (by simp) l _ rfl
  all_goals unfold Device.setLatch; simp [Device.alarmEvent, Device.driveBargeLoop]

/-- The latch as set depends on the lines, the time, the charter and the nodes before, and on the shutdown unit, the lines
and what is in flight after. -/
theorem Device.latchSet_of (s d t u : Device) (c : Cause) (line subject : Nat) (h : s.latchSet t c line subject)
    (hl : d.lines = s.lines) (hc : d.charter = s.charter) (hs : u.shutdown = t.shutdown) (hu : u.lines = t.lines)
    (hk : ∀ l, s.carries d t u l) (hr : ∀ l, d.atRest l .returnValve .opened = s.atRest l .returnValve .opened) :
    d.latchSet u c line subject := by
  have ht : d.time = s.time := (hk .l1).1
  unfold Device.latchSet Device.line at *
  rw [hl, hs, hu, ht]
  refine ⟨h.1, h.2.1, h.2.2.1, h.2.2.2.1, h.2.2.2.2.1, h.2.2.2.2.2.1, h.2.2.2.2.2.2.1, fun l => ?_⟩
  have x := h.2.2.2.2.2.2.2 l
  split
  · next q =>
    rw [if_pos q] at x
    obtain ⟨x1, x2, x3, x4, x5, x6, x7⟩ := x
    refine ⟨x1, x2, x3, x4, ?_, s.speedClaimed_of d t u l 0 .esd x6 (hk l), fun r =>
      s.moveClaimed_of d t u l _ _ _ (x7 (hr l ▸ r)) (hk l)⟩
    rw [x5]; simp [Device.secondsOn, Device.limits, ht, hc]
  · next q => rw [if_neg q] at x; exact x

/-! ## The end of step ESD_PUMP_STOP (R92, R93) -/

/-- The end of a line's ESD sequence (R93). -/
theorem Device.esdFinish_taken (s : Device) (l : Line) :
    (s.esdFinish l).shutdown.sequence.get l = .none ∧ ((s.esdFinish l).line l).state = .tripped ∧
    ((s.esdFinish l).line l).step = .none ∧ ((s.esdFinish l).line l).stopCause = (s.line l).stopCause ∧
    ((s.esdFinish l).line l).stripResult = (s.line l).stripResult ∧ ((s.esdFinish l).line l).entry = s.time ∧
    (s.esdFinish l).nodes = s.nodes := by
  unfold Device.esdFinish Device.lineSummary
  simp [Device.setSequence, Device.setStep, (Device.enterState_nodes _ l .tripped .none .none (by decide)).1]

/-- Step ESD_DISCHARGE entered: DISCHARGE CLOSED is claimed, or the sequence ends (R93). -/
theorem Device.esdDischarge_taken (s : Device) (l : Line) :
    if s.atRest l .discharge .closed = false then
      (s.esdDischarge l).shutdown.sequence.get l = .esdDischarge ∧
      (s.esdDischarge l).line l = { s.line l with step := .esdDischarge } ∧
      s.moveClaimed (s.esdDischarge l) l .discharge .closed .esd ∧
      ∀ n, (s.node n).kind ≠ .valve ∨ (s.node n).role ≠ .discharge → (s.esdDischarge l).node n = s.node n
    else
      (s.esdDischarge l).shutdown.sequence.get l = .none ∧ ((s.esdDischarge l).line l).state = .tripped ∧
      ((s.esdDischarge l).line l).step = .none ∧ ((s.esdDischarge l).line l).stopCause = (s.line l).stopCause ∧
      ((s.esdDischarge l).line l).stripResult = (s.line l).stripResult ∧
      ((s.esdDischarge l).line l).entry = s.time ∧ (s.esdDischarge l).nodes = s.nodes := by
  generalize ha : s.setSequence l .esdDischarge = a
  have na : a.nodes = s.nodes := by rw [← ha]; simp
  have la : a.line l = { s.line l with step := .esdDischarge } := by
    rw [← ha]; simp [Device.setSequence, Device.setStep]
  have qa : a.shutdown.sequence.get l = .esdDischarge := by rw [← ha]; simp [Device.setSequence, Device.setStep]
  have ta : a.time = s.time := by rw [← ha]; simp
  have r : a.atRest l .discharge .closed = s.atRest l .discharge .closed :=
    s.atRest_congr a l _ _ (s.sameSettings_of_nodes a na) fun n _ => Device.node_congr a s n na
  have e : s.esdDischarge l = if s.atRest l .discharge .closed then a.esdFinish l
      else a.claimValve l .discharge .closed .esd := by
    unfold Device.esdDischarge; dsimp only; rw [ha, r]
  rw [e]
  by_cases h : s.atRest l .discharge .closed = true
  · rw [if_neg (by simp [h]), if_pos h]
    have x := a.esdFinish_taken l
    rw [la, ta, na] at x
    exact x
  · rw [if_pos (by simpa using h), if_neg h]
    refine ⟨by simp [qa], by simp [la], a.moveClaimed_of s _ _ l _ _ _ (a.claimValve_claimed l .discharge .closed .esd)
      (a.carries_nodes s _ _ l ta.symm na.symm rfl), fun n hn => ?_⟩
    rw [← Device.node_congr a s n na] at hn ⊢
    exact a.claimValve_role l .discharge .closed .esd n hn

theorem Device.esdFinish_finished (s : Device) (l : Line) : s.esdFinished (s.esdFinish l) l := by
  have x := s.esdFinish_taken l
  exact ⟨x.1, x.2.1, x.2.2.1, x.2.2.2.1, x.2.2.2.2.1, x.2.2.2.2.2.1⟩

theorem Device.esdDischarge_entered (s : Device) (l : Line) : s.esdDischargeTaken (s.esdDischarge l) l := by
  have x := s.esdDischarge_taken l
  unfold Device.esdDischargeTaken Device.esdFinished
  split at x
  · next h => rw [if_pos h]; exact ⟨x.1, x.2.1, x.2.2.1⟩
  · next h => rw [if_neg h]; exact ⟨x.1, x.2.1, x.2.2.1, x.2.2.2.1, x.2.2.2.2.1, x.2.2.2.2.2.1⟩

/-- Step ESD_PUMP_STOP ended (R92, R93). -/
theorem Device.esdManifold_closed (s : Device) (l : Line) : s.esdClosed (s.esdManifold l) l := by
  generalize ha : (s.setPumpDeadline l none).setSequence l .esdManifold = a
  generalize hb : a.claimUnlessAtRest l .manifold .closed = b
  generalize hc : b.claimUnlessAtRest l .strip .closed = c
  have na : a.nodes = s.nodes := by rw [← ha]; simp
  have back : ∀ n, a.node n = s.node n := fun n => Device.node_congr a s n na
  have sa : s.sameSettings a := s.sameSettings_of_nodes a na
  have sb : s.sameSettings b := s.sameSettings_of_stills b (by rw [← hb, ← ha]; simp)
  have sc : s.sameSettings c := s.sameSettings_of_stills c (by rw [← hc, ← hb, ← ha]; simp)
  have rev : ∀ d : Device, s.sameSettings d → d.sameSettings s := fun d h n =>
    ⟨(h n).1.symm, (h n).2.1.symm, (h n).2.2.symm⟩
  have ta : a.time = s.time := by rw [← ha]; simp
  have tb : b.time = s.time := by rw [← hb]; simp [ta]
  have tc : c.time = s.time := by rw [← hc]; simp [tb]
  have lc : c.line l = { s.line l with step := .esdManifold } := by
    rw [← hc, ← hb, ← ha]; simp [Device.setPumpDeadline, Device.setSequence, Device.setStep]
  have qc : c.shutdown.sequence.get l = .esdManifold := by
    rw [← hc, ← hb, ← ha]; simp [Device.setPumpDeadline, Device.setSequence, Device.setStep]
  have nb : ∀ r n, s.valveOf l r = some n → r ≠ .manifold → b.node n = s.node n := fun r n hn hr => by
    rw [← hb, a.claimUnlessAtRest_role l .manifold .closed n (.inr ?_), back]
    rw [back, (s.valveOf_some l r n hn).2.2]; exact hr
  have nc : ∀ r n, s.valveOf l r = some n → r ≠ .strip → c.node n = b.node n := fun r n hn hr => by
    rw [← hc, b.claimUnlessAtRest_role l .strip .closed n (.inr ?_)]
    rw [(sb n).2.2, (s.valveOf_some l r n hn).2.2]; exact hr
  have rm : c.atRest l .manifold .closed = s.atRest l .manifold .closed := by
    rw [b.atRest_congr c l _ _ (fun n => ?_) fun n hn => nc .manifold n (s.valveOf_congr b sb l _ ▸ hn) (by decide), ← hb,
      a.claimUnlessAtRest_atRest, s.atRest_congr a l _ _ sa fun n _ => back n]
    exact ⟨(sc n).1.trans (sb n).1.symm, (sc n).2.1.trans (sb n).2.1.symm, (sc n).2.2.trans (sb n).2.2.symm⟩
  have rd : c.atRest l .discharge .closed = s.atRest l .discharge .closed :=
    s.atRest_congr c l _ _ sc fun n hn =>
      (nc .discharge n hn (by decide)).trans (nb .discharge n hn (by decide))
  have strip : s.atRest l .strip .closed = false → s.moveClaimed c l .strip .closed .esd := fun h => by
    have x := b.claimUnlessAtRest_claimed l .strip .closed (by
      rw [s.atRest_congr b l _ _ sb fun n hn => nb .strip n hn (by decide)]; exact h)
    rw [hc] at x
    refine b.moveClaimed_at s c c l _ _ _ x tb.symm (rev b sb) (fun n hn => ?_) fun _ _ => rfl
    exact (nb .strip n (s.valveOf_congr b sb l _ ▸ hn) (by decide)).symm
  have manifold : s.atRest l .manifold .closed = false → s.moveClaimed c l .manifold .closed .esd := fun h => by
    have x := a.claimUnlessAtRest_claimed l .manifold .closed (by
      rw [s.atRest_congr a l _ _ sa fun n _ => back n]; exact h)
    rw [hb] at x
    refine a.moveClaimed_at s b c l _ _ _ x ta.symm (rev a sa) (fun n _ => (back n).symm) fun n hn => ?_
    exact nc .manifold n (s.valveOf_congr a sa l _ ▸ hn) (by decide)
  have e : s.esdManifold l = if s.atRest l .manifold .closed then c.esdDischarge l else c := by
    unfold Device.esdManifold; dsimp only; rw [ha, hb, hc, rm]
  unfold Device.esdClosed Device.esdDischargeTaken Device.esdFinished
  rw [e]
  by_cases hm : s.atRest l .manifold .closed = true
  · have x := c.esdDischarge_taken l
    rw [if_pos hm, if_neg (by simp [hm])]
    rw [rd, lc] at x
    have keep : (∀ n, s.valveOf l .strip = some n → (c.esdDischarge l).node n = c.node n) →
        s.atRest l .strip .closed = false → s.moveClaimed (c.esdDischarge l) l .strip .closed .esd := fun k h =>
      s.moveClaimed_at s c _ l _ _ _ (strip h) rfl (fun _ => ⟨rfl, rfl, rfl⟩) (fun _ _ => rfl) k
    by_cases hd : s.atRest l .discharge .closed = false
    · rw [if_pos hd] at x ⊢
      refine ⟨keep fun n hn => x.2.2.2 n (.inr ?_), x.1, x.2.1, ?_⟩
      · rw [(sc n).2.2, (s.valveOf_some l .strip n hn).2.2]; decide
      · refine c.moveClaimed_at s _ _ l _ _ _ x.2.2.1 tc.symm (rev c sc) (fun n hn => ?_) fun _ _ => rfl
        have hn := s.valveOf_congr c sc l .discharge ▸ hn
        exact ((nc .discharge n hn (by decide)).trans (nb .discharge n hn (by decide))).symm
    · rw [if_neg hd] at x ⊢
      exact ⟨keep fun n _ => Device.node_congr _ _ n x.2.2.2.2.2.2, x.1, x.2.1, x.2.2.1, x.2.2.2.1, x.2.2.2.2.1,
        x.2.2.2.2.2.1.trans tc⟩
  · rw [if_neg hm, if_pos (by simpa using hm)]
    exact ⟨strip, qc, lc, manifold (by simpa using hm)⟩

/-! ## Line by line -/

/-- An operation that is taken line by line, and changes no other line, acts on each line as it was. -/
theorem Device.forLines_line (s : Device) (f : Line → Device → Device)
    (hf : ∀ l d m, m ≠ l → (f l d).line m = d.line m) (m : Line) :
    ∃ d : Device, d.line m = s.line m ∧ (s.forLines f).line m = (f m d).line m := by
  unfold Device.forLines
  cases m
  · exact ⟨s, rfl, by rw [hf .l3 _ .l1 (by decide), hf .l2 _ .l1 (by decide)]⟩
  · exact ⟨f .l1 s, hf .l1 s .l2 (by decide), by rw [hf .l3 _ .l2 (by decide)]⟩
  · exact ⟨f .l2 (f .l1 s), by rw [hf .l2 _ .l3 (by decide), hf .l1 _ .l3 (by decide)], rfl⟩

/-! ## Entry to LOADING (R117, R149, R179) -/

/-- What the entry to LOADING leaves. -/
theorem Device.enterLoading_effect (s : Device) :
    s.enterLoading.charter =
      { s.charter with mode := .loading, progress := 0, runningCrc := 0xFFFFFFFF#32, working := [] } ∧
    s.enterLoading.jobs = { s.jobs with reads := s.jobs.reads ++ charterReads } ∧
    s.enterLoading.bus = { s.bus with mode := .off, idleScan := none, startHeld := false, startDue := false } ∧
    s.enterLoading.link =
      { s.link with
        taking := false, silenceExpiry := none, lossExpiry := none, statusExpiry := none, statusDue := false,
        queue := [], partialFrame := dropTaking s.link.partialFrame } ∧
    s.enterLoading.shutdown = { s.shutdown with bargeLoop := .broken } ∧
    s.enterLoading.reports.interrupt = false ∧ s.enterLoading.requests = s.requests := by
  unfold Device.enterLoading
  simp [Device.driveBargeLoop, Device.linkEntersLoading, Device.setInterrupt, Device.interruptLevel]

/-- With the bus OFF and out of WATCH, an event's end leaves the bus alone (R114). -/
theorem Device.finish_bus (s : Device) (h : s.charter.mode ≠ .watch) (hb : s.bus.mode = .off)
    (hd : s.bus.startDue = false) : s.finish.bus = s.bus := by
  have e : s.takeBusMode = s := by unfold Device.takeBusMode Device.wantedBusMode; simp [h, hb]
  unfold Device.finish Device.startDueFrame
  rw [e]; simp [hd]

/-! ## The governor's allowed rate -/

/-- When a step in STOPPING claims SPEED 0 (R38, R40). -/
theorem Device.rampEnds_iff (s : Device) (l : Line) :
    s.rampEnds l = true ↔ (s.governor l).allowed ≤ (s.limits l).floor ∨
      s.rampRate l = 0 ∧ ((s.governor l).lastSpeed ≠ 0 ∨ (s.governor l).reclaim = true) := by
  simp [Device.rampEnds]

/-- Where the step of R38 lands on 0 and claims SPEED 0, the end of the ramp is that step with no step expiry (R31). -/
theorem Device.rampEnd_lands (s : Device) (l : Line) (h : s.rampRate l = 0)
    (hc : (s.governor l).lastSpeed ≠ 0 ∨ (s.governor l).reclaim = true) :
    s.rampEnd l = (s.rampStep l).setGovernor l { (s.rampStep l).governor l with expiry := none } := by
  have e (n : Nat) : speedFor 0 n = 0 := by simp [speedFor]
  unfold Device.rampEnd Device.rampStep Device.applyRate Device.claimIfChanged
  rw [h]; dsimp only
  simp only [Device.setGovernor_governor, if_true, e]
  rw [if_pos (hc.imp_left Ne.symm)]

@[simp] theorem Device.claimSpeed_allowed (s : Device) (l : Line) (v : Nat) :
    ((s.claimSpeed l v).governor l).allowed = (s.governor l).allowed ∧
    ((s.claimSpeed l v).governor l).lastSpeed = v := by
  unfold Device.claimSpeed; simp

/-- The allowed rate on a change of line state: kept in DELIVERING, TOPPING and STOPPING, 0 in every other (R32). -/
@[simp] theorem Device.enterState_allowed (s : Device) (l : Line) (st : LineState) (p : Step) (c : ReportCause) :
    ((s.enterState l st p c).governor l).allowed = ((s.governor l).entering s.periodOn st).allowed := by
  unfold Device.enterState Device.governorEnters; dsimp only
  split <;> split <;> simp_all [Governor.entering]
  all_goals cases st <;> simp_all

/-- The delivered quantity and the requested rate stand through a change of line state (R32, R45). -/
@[simp] theorem Device.enterState_delivered (s : Device) (l : Line) (st : LineState) (p : Step) (c : ReportCause) :
    ((s.enterState l st p c).governor l).delivered = (s.governor l).delivered ∧
    ((s.enterState l st p c).governor l).requested = (s.governor l).requested := by
  have h : ∀ (g : Governor) (x : Time), (g.entering x st).delivered = g.delivered ∧
      (g.entering x st).requested = g.requested := by
    intro g x; cases st <;> exact ⟨rfl, rfl⟩
  unfold Device.enterState Device.governorEnters Device.claimSpeed; dsimp only
  split <;> split <;> simp [h]

/-! ## A hold (R12, R13) -/

/-- HELD entered (R12, R13). -/
theorem Device.enterHeld_line (s : Device) (l : Line) (c : HoldCause) :
    ((s.enterHeld l c).line l).state = .held ∧ ((s.enterHeld l c).line l).step = .hold ∧
    ((s.enterHeld l c).line l).hold = (s.line l).hold.put c true ∧
    ((s.enterHeld l c).line l).holdStart = some s.time ∧ ((s.enterHeld l c).line l).entry = s.time ∧
    ((s.enterHeld l c).line l).deadline = some (s.secondsOn (s.limits l).holdLimit) ∧
    ((s.enterHeld l c).line l).stopCause = (s.line l).stopCause ∧
    ((s.enterHeld l c).line l).nominated = (s.line l).nominated ∧
    ((s.enterHeld l c).line l).base = (s.line l).base ∧ ((s.enterHeld l c).line l).fitted = (s.line l).fitted ∧
    ((s.enterHeld l c).governor l).allowed = 0 := by
  unfold Device.enterHeld Device.setDeadline
  simp [Device.secondsOn, Device.limits, Governor.entering]

/-! ## Where a stop takes a line (R19 to R24, R28) -/

theorem Device.enterFree_state (s : Device) (l : Line) : ((s.enterFree l).line l).state = .free := by
  unfold Device.enterFree; simp [LineContext.cleared, Device.lineSummary]

theorem Device.closeValves_state (s : Device) (l : Line) :
    ((s.closeValves l).line l).state = (s.line l).state ∨ ((s.closeValves l).line l).state = .free := by
  unfold Device.closeValves; dsimp only; split
  · exact .inr (Device.enterFree_state _ l)
  · left; simp [Device.setStep]

theorem Device.closeManifold_state (s : Device) (l : Line) :
    ((s.closeManifold l).line l).state = (s.line l).state ∨ ((s.closeManifold l).line l).state = .free := by
  have h : ∀ d : Device, (d.line l).state = (s.line l).state →
      ((d.closeValves l).line l).state = (s.line l).state ∨ ((d.closeValves l).line l).state = .free :=
    fun d hd => hd ▸ d.closeValves_state l
  unfold Device.closeManifold; dsimp only; split
  · exact h _ (by simp [Device.setStep])
  · split
    · exact h _ (by simp [Device.setStep])
    · left; simp [Device.setStep]

/-- CLOSING entered goes on to FREE when nothing is left to close (R24). -/
theorem Device.enterClosing_state (s : Device) (l : Line) :
    ((s.enterClosing l).line l).state = .closing ∨ ((s.enterClosing l).line l).state = .free := by
  have h := Device.closeManifold_state (s.enterState l .closing .manifoldClosing .none) l
  simpa [Device.enterClosing] using h

theorem Device.enterStripping_state (s : Device) (l : Line) : ((s.enterStripping l).line l).state = .stripping := by
  unfold Device.enterStripping Device.setDeadline; simp

theorem Device.leaveStopping_state (s : Device) (l : Line) :
    ((s.leaveStopping l).line l).state = .stripping ∨ ((s.leaveStopping l).line l).state = .closing ∨
    ((s.leaveStopping l).line l).state = .free := by
  unfold Device.leaveStopping; split
  · exact .inl (s.enterStripping_state l)
  · exact .inr (s.enterClosing_state l)

theorem Device.enterPumpStopping_state (s : Device) (l : Line) :
    ((s.enterPumpStopping l).line l).state = (s.line l).state ∨
    ((s.enterPumpStopping l).line l).state = .stripping ∨ ((s.enterPumpStopping l).line l).state = .closing ∨
    ((s.enterPumpStopping l).line l).state = .free := by
  unfold Device.enterPumpStopping; dsimp only; split
  · exact .inr (Device.leaveStopping_state _ l)
  · left; simp [Device.setStep, Device.setDeadline]

theorem Device.enterStopping_state (s : Device) (l : Line) (c : Cause) (b : Bool) :
    ((s.enterStopping l c b).line l).state = .stopping ∨ ((s.enterStopping l c b).line l).state = .stripping ∨
    ((s.enterStopping l c b).line l).state = .closing ∨ ((s.enterStopping l c b).line l).state = .free := by
  unfold Device.enterStopping; dsimp only; split
  · have h := Device.enterPumpStopping_state
      ((s.setLine l ((s.line l).stopped c b)).enterState l .stopping .ramp (.line c)) l
    simpa using h
  · left; simp

theorem Device.closeFromLineup_state (s : Device) (l : Line) (c : Cause) :
    ((s.closeFromLineup l c).line l).state = .closing ∨ ((s.closeFromLineup l c).line l).state = .free := by
  unfold Device.closeFromLineup; dsimp only; split
  · left; simp
  · have h := Device.closeManifold_state
      ((((s.setLine l ((s.line l).stopped c false)).setSequenceMemory l .reset).enterState l .closing .holdOff
        (.line c)).withdrawLine l) l
    simpa using h

/-- TRIP_RESET sends every TRIPPED line to CLOSING, and changes no other (R26, R98). -/
theorem Device.clearLatch_line (s : Device) (m : Line) :
    if (s.line m).state = .tripped then
      (s.clearLatch.line m).state = .closing ∨ (s.clearLatch.line m).state = .free
    else s.clearLatch.line m = s.line m := by
  unfold Device.clearLatch Device.closeTripped
  simp only [Device.judgeAlarm_reads]
  obtain ⟨d, h1, h2⟩ := Device.forLines_line s.dropLatch.placeReports
    (fun l s => if (s.line l).state = .tripped then s.enterClosing l else s)
    (fun l d m hm => by split <;> simp [hm]) m
  rw [s.dropLatch.placeReports_reads.1 m, s.dropLatch_reads.1 m] at h1
  rw [h2, h1]
  split
  · exact d.enterClosing_state m
  · exact h1

/-- What TRIP_RESET leaves in the shutdown unit (R87, R98, R100). -/
theorem Device.clearLatch_shutdown (s : Device) :
    s.clearLatch.shutdown.latch = false ∧ s.clearLatch.shutdown.first = none ∧
    s.clearLatch.shutdown.firstLine = 0 ∧ s.clearLatch.shutdown.firstSubject = 0 ∧
    s.clearLatch.shutdown.bargeLoop = (if s.charter.mode = .watch then .healthy else .broken) ∧
    (s.shutdown.tankAlarm = false → s.shutdown.valveAlarm = false →
      s.clearLatch.shutdown.alarmPending = false ∧ s.clearLatch.shutdown.hornSounding = false) := by
  have h : s.dropLatch.shutdown.latch = false ∧ s.dropLatch.shutdown.first = none ∧
      s.dropLatch.shutdown.firstLine = 0 ∧ s.dropLatch.shutdown.firstSubject = 0 ∧
      s.dropLatch.shutdown.bargeLoop = (if s.charter.mode = .watch then .healthy else .broken) := by
    unfold Device.dropLatch; simp [Device.driveBargeLoop]
  unfold Device.clearLatch Device.judgeAlarm
  split
  · simp [h]
  · next hn =>
    refine ⟨by simp [h], by simp [h], by simp [h], by simp [h], by simp [h], fun h1 h2 => ?_⟩
    exact absurd (by simp [h, h1, h2]) hn

/-- A line that takes a stop trigger is no longer active; any other keeps its state (R19). -/
theorem Device.stopTrigger_state (s : Device) (l : Line) (c : Cause) (b : Bool) :
    if (s.line l).state.active = true then ((s.stopTrigger l c b).line l).state.active = false
    else s.stopTrigger l c b = s := by
  unfold Device.stopTrigger; dsimp only
  have h1 := s.closeFromLineup_state l c
  have h2 := s.enterStopping_state l c b
  cases hs : (s.line l).state <;> simp [LineState.active, LineState.running]
  · rcases h1 with h | h <;> rw [h]
  all_goals rcases h2 with h | h | h | h <;> rw [h]

/-- Every active line is stopped, and every other line keeps its items (R27, R145). -/
theorem Device.stopActive_lines (s : Device) (c : Cause) (m : Line) :
    ((s.stopActive c).line m).state.active = false ∧
    ((s.line m).state.active = false → (s.stopActive c).line m = s.line m ∧
      (s.stopActive c).governor m = s.governor m ∧ (s.stopActive c).hose m = s.hose m) := by
  have one : ∀ (s : Device) (l : Line), ∃ d : Device,
      (if (s.line l).state.active = true then s.stopTrigger l c false else s) = d ∧
      (∀ m, m ≠ l → d.line m = s.line m ∧ d.governor m = s.governor m ∧ d.hose m = s.hose m) ∧
      (d.line l).state.active = false ∧
      ((s.line l).state.active = false → d.line l = s.line l ∧ d.governor l = s.governor l ∧ d.hose l = s.hose l) := by
    intro s l
    refine ⟨_, rfl, fun m hm => ?_, ?_, fun h => ?_⟩
    · split <;> simp [hm]
    · have ht := s.stopTrigger_state l c false
      split
      · next h => rwa [if_pos h] at ht
      · next h => simpa using h
    · simp [h]
  obtain ⟨a, ha, ao, aa, ak⟩ := one s .l1
  obtain ⟨b, hb, bo, ba, bk⟩ := one a .l2
  obtain ⟨d, hd, dd, da, dk⟩ := one b .l3
  have e : s.stopActive c = d := by
    unfold Device.stopActive Device.forLines; dsimp only; rw [ha, hb, hd]
  rw [e]
  cases m
  · have x := bo .l1 (by decide)
    have y := dd .l1 (by decide)
    rw [y.1, y.2.1, y.2.2, x.1, x.2.1, x.2.2]
    exact ⟨aa, ak⟩
  · have x := ao .l2 (by decide)
    have y := dd .l2 (by decide)
    rw [y.1, y.2.1, y.2.2, ← x.1, ← x.2.1, ← x.2.2]
    exact ⟨ba, bk⟩
  · have x := ao .l3 (by decide)
    have y := bo .l3 (by decide)
    rw [← x.1, ← x.2.1, ← x.2.2, ← y.1, ← y.2.1, ← y.2.2]
    exact ⟨da, dk⟩

end Sys2Proof.Machine
end

