-- ==== Sys2Proof/Laws/Memory.lean ====
section
/-! SUPPORT. The memory operations: what a byte reads as after a write, and that every write keeps the canonical form. -/

namespace Sys2Proof.Machine

open Sys2Proof

/-! ## Reading after writing -/

/-- An address below the canonical form's least entry reads as unwritten. -/
theorem Memory.read_below (m : Memory) (c n : Nat) (hm : m.canonicalFrom n = true) (hc : c < n) :
    m.read c = Config.unwrittenByte := by
  induction m generalizing n with
  | nil => rfl
  | cons e m ih =>
    obtain ⟨k, w⟩ := e
    simp only [Memory.canonicalFrom, Bool.and_eq_true, decide_eq_true_eq] at hm
    have : k ≠ c := by omega
    simp only [Memory.read, this, if_false]
    exact ih (k + 1) hm.2 (by omega)

theorem Memory.read_write (m : Memory) (a b : Nat) (v : Byte)
    (least : Nat) (hm : m.canonicalFrom least = true) :
    (m.write a v).read b = if b = a then v else m.read b := by
  induction m generalizing least with
  | nil =>
    unfold Memory.write
    split
    · next hv => simp only [Memory.read]; split <;> simp [hv]
    · simp only [Memory.read]; by_cases hb : b = a
      · simp [hb]
      · simp [hb, Ne.symm hb]
  | cons e m ih =>
    obtain ⟨k, w⟩ := e
    simp only [Memory.canonicalFrom, Bool.and_eq_true, decide_eq_true_eq] at hm
    obtain ⟨⟨⟨hk, _⟩, hw⟩, hrest⟩ := hm
    have absent := Memory.read_below m
    unfold Memory.write
    split
    · next hlt =>
      have ha : Memory.read m a = Config.unwrittenByte := absent a (k + 1) hrest (by omega)
      split
      · next hv =>
        by_cases hb : b = a
        · subst hb; simp [Memory.read, ha, hv, show k ≠ b by omega]
        · simp [hb]
      · by_cases hb : b = a
        · subst hb; simp [Memory.read]
        · simp [Memory.read, hb, Ne.symm hb]
    · split
      · next hge heq =>
        subst heq
        have ha : Memory.read m a = Config.unwrittenByte := absent a (a + 1) hrest (by omega)
        split
        · next hv =>
          by_cases hb : b = a
          · subst hb; simp [ha, hv]
          · simp [Memory.read, hb, Ne.symm hb]
        · by_cases hb : b = a
          · subst hb; simp [Memory.read]
          · simp [Memory.read, hb, Ne.symm hb]
      · next hge hne =>
        simp only [Memory.read]
        by_cases hb : k = b
        · subst hb; simp [Ne.symm hne]
        · simp only [hb, if_false]
          exact ih (k + 1) hrest

/-! ## The canonical form -/

theorem Memory.canonicalFrom_mono (m : Memory) (n k : Nat) (h : k ≤ n) (hm : m.canonicalFrom n = true) :
    m.canonicalFrom k = true := by
  cases m with
  | nil => rfl
  | cons e m =>
    obtain ⟨a, v⟩ := e
    simp only [Memory.canonicalFrom, Bool.and_eq_true, decide_eq_true_eq] at hm ⊢
    exact ⟨⟨⟨by omega, hm.1.1.2⟩, hm.1.2⟩, hm.2⟩

theorem Memory.write_canonicalFrom (m : Memory) (n a : Nat) (v : Byte) (hn : n ≤ a) (ha : a < Config.addressSpace)
    (hm : m.canonicalFrom n = true) : (m.write a v).canonicalFrom n = true := by
  induction m generalizing n with
  | nil =>
    unfold Memory.write
    split
    · rfl
    · next hv => simp [Memory.canonicalFrom, hn, ha, hv]
  | cons e m ih =>
    obtain ⟨k, w⟩ := e
    have hm' := hm
    simp only [Memory.canonicalFrom, Bool.and_eq_true, decide_eq_true_eq] at hm'
    obtain ⟨⟨⟨hk, hs⟩, hw⟩, hrest⟩ := hm'
    unfold Memory.write
    split
    · next hlt =>
      split
      · exact hm
      · next hv =>
        simp only [Memory.canonicalFrom, Bool.and_eq_true, decide_eq_true_eq]
        exact ⟨⟨⟨hn, ha⟩, hv⟩, ⟨⟨by omega, hs⟩, hw⟩, hrest⟩
    · split
      · next hge heq =>
        subst heq
        split
        · exact Memory.canonicalFrom_mono m (a + 1) n (by omega) hrest
        · next hv =>
          simp only [Memory.canonicalFrom, Bool.and_eq_true, decide_eq_true_eq]
          exact ⟨⟨⟨hn, ha⟩, hv⟩, hrest⟩
      · next hge hne =>
        simp only [Memory.canonicalFrom, Bool.and_eq_true, decide_eq_true_eq]
        exact ⟨⟨⟨hk, hs⟩, hw⟩, ih (k + 1) (by omega) hrest⟩

theorem Memory.write_wf (m : Memory) (a : Nat) (v : Byte) (ha : a < Config.addressSpace) (hm : m.wf = true) :
    (m.write a v).wf = true :=
  Memory.write_canonicalFrom m 0 a v (Nat.zero_le a) ha hm

theorem Memory.read_write_wf (m : Memory) (a b : Nat) (v : Byte) (hm : m.wf = true) :
    (m.write a v).read b = if b = a then v else m.read b :=
  Memory.read_write m a b v 0 hm

/-! ## Words and bursts -/

theorem Memory.writeEnabled_wf (m : Memory) (a : Nat) (e : BitVec 4) (w : Word) (ha : a + 3 < Config.addressSpace)
    (hm : m.wf = true) : (m.writeEnabled a e w).wf = true := by
  simp only [Memory.writeEnabled, List.foldl]
  repeat' split
  all_goals
    first
    | exact hm
    | (repeat' apply Memory.write_wf) <;> first | assumption | omega

theorem Memory.writeWord_wf (m : Memory) (a : Nat) (w : Word) (ha : a + 3 < Config.addressSpace) (hm : m.wf = true) :
    (m.writeWord a w).wf = true :=
  Memory.writeEnabled_wf m a 15 w ha hm

theorem Memory.writeWords_wf (m : Memory) (a : Nat) (ws : List Word) (ha : a + 4 * ws.length ≤ Config.addressSpace)
    (hm : m.wf = true) : (m.writeWords a ws).wf = true := by
  induction ws generalizing m a with
  | nil => exact hm
  | cons w ws ih =>
    simp only [List.length_cons] at ha
    unfold Memory.writeWords
    exact ih (m.writeWord a w) (a + 4) (by omega) (Memory.writeWord_wf m a w (by omega) hm)

/-- A write under byte enables changes the enabled bytes of the word, and no other byte (R155). -/
theorem Memory.read_writeEnabled_outside (m : Memory) (a b : Nat) (e : BitVec 4) (w : Word)
    (ha : a + 3 < Config.addressSpace) (hm : m.wf = true) (hb : b < a ∨ a + 3 < b) :
    (m.writeEnabled a e w).read b = m.read b := by
  have step : ∀ (x : Memory) (k : Nat), k ≤ 3 → x.wf = true → x.read b = m.read b →
      ((if e.getLsbD k then x.write (a + k) (wordByte w k) else x).wf = true ∧
       (if e.getLsbD k then x.write (a + k) (wordByte w k) else x).read b = m.read b) := by
    intro x k hk hx hr
    split
    · refine ⟨Memory.write_wf x _ _ (by omega) hx, ?_⟩
      rw [Memory.read_write_wf x _ _ _ hx, if_neg (by omega), hr]
    · exact ⟨hx, hr⟩
  simp only [Memory.writeEnabled, List.foldl]
  have h0 := step m 0 (by omega) hm rfl
  have h1 := step _ 1 (by omega) h0.1 h0.2
  have h2 := step _ 2 (by omega) h1.1 h1.2
  exact (step _ 3 (by omega) h2.1 h2.2).2

/-- A write under byte enables, byte by byte (R150, R155). -/
theorem Memory.read_writeEnabled (m : Memory) (a b : Nat) (e : BitVec 4) (w : Word) (ha : a + 3 < Config.addressSpace)
    (hm : m.wf = true) :
    (m.writeEnabled a e w).read b =
      if a ≤ b ∧ b ≤ a + 3 ∧ e.getLsbD (b - a) = true then wordByte w (b - a) else m.read b := by
  have one : ∀ (x : Memory) (k : Nat), k ≤ 3 → x.wf = true →
      (if e.getLsbD k then x.write (a + k) (wordByte w k) else x).wf = true ∧
      (if e.getLsbD k then x.write (a + k) (wordByte w k) else x).read b =
        if b = a + k ∧ e.getLsbD k = true then wordByte w k else x.read b := by
    intro x k hk hx
    split
    · next he =>
      refine ⟨Memory.write_wf x _ _ (by omega) hx, ?_⟩
      rw [Memory.read_write_wf x _ _ _ hx]
      by_cases hb : b = a + k
      · rw [if_pos hb, if_pos ⟨hb, he⟩]
      · rw [if_neg hb, if_neg (fun h => hb h.1)]
    · next he => exact ⟨hx, by simp [he]⟩
  simp only [Memory.writeEnabled, List.foldl]
  have h0 := one m 0 (by omega) hm
  have h1 := one _ 1 (by omega) h0.1
  have h2 := one _ 2 (by omega) h1.1
  have h3 := one _ 3 (by omega) h2.1
  rw [h3.2, h2.2, h1.2, h0.2]
  by_cases hb : a ≤ b ∧ b ≤ a + 3
  · obtain ⟨k, hk, rfl⟩ : ∃ k, k ≤ 3 ∧ b = a + k := ⟨b - a, by omega, by omega⟩
    match k, hk with
    | 0, _ => simp
    | 1, _ => simp
    | 2, _ => simp
    | 3, _ => simp
  · rw [if_neg (by omega), if_neg (by omega), if_neg (by omega), if_neg (by omega), if_neg (fun h => hb ⟨h.1, h.2.1⟩)]

theorem Memory.read_writeWord_outside (m : Memory) (a b : Nat) (w : Word) (ha : a + 3 < Config.addressSpace)
    (hm : m.wf = true) (hb : b < a ∨ a + 3 < b) : (m.writeWord a w).read b = m.read b :=
  Memory.read_writeEnabled_outside m a b 15 w ha hm hb

/-- A burst changes no byte outside its words (R158). -/
theorem Memory.read_writeWords_outside (m : Memory) (a b : Nat) (ws : List Word)
    (ha : a + 4 * ws.length ≤ Config.addressSpace) (hm : m.wf = true) (hb : b < a ∨ a + 4 * ws.length ≤ b) :
    (m.writeWords a ws).read b = m.read b := by
  induction ws generalizing m a with
  | nil => rfl
  | cons w ws ih =>
    simp only [List.length_cons] at ha hb
    unfold Memory.writeWords
    rw [ih (m.writeWord a w) (a + 4) (by omega) (Memory.writeWord_wf m a w (by omega) hm) (by omega)]
    exact Memory.read_writeWord_outside m a b w (by omega) hm (by omega)

/-- A byte of a word written whole reads as that byte of the word (R186). -/
theorem Memory.read_writeWord_inside (m : Memory) (a k : Nat) (w : Word) (hk : k ≤ 3)
    (ha : a + 3 < Config.addressSpace) (hm : m.wf = true) : (m.writeWord a w).read (a + k) = wordByte w k := by
  have e : m.writeWord a w =
      (((m.write (a + 0) (wordByte w 0)).write (a + 1) (wordByte w 1)).write (a + 2) (wordByte w 2)).write (a + 3)
        (wordByte w 3) := rfl
  have w0 := Memory.write_wf m (a + 0) (wordByte w 0) (by omega) hm
  have w1 := Memory.write_wf _ (a + 1) (wordByte w 1) (by omega) w0
  have w2 := Memory.write_wf _ (a + 2) (wordByte w 2) (by omega) w1
  rw [e, Memory.read_write_wf _ _ _ _ w2, Memory.read_write_wf _ _ _ _ w1, Memory.read_write_wf _ _ _ _ w0,
    Memory.read_write_wf _ _ _ _ hm]
  match k, hk with
  | 0, _ => simp
  | 1, _ => simp
  | 2, _ => simp
  | 3, _ => simp

theorem wordByte_toNat (w : Word) (k : Nat) : (wordByte w k).toNat = w.toNat / 2 ^ (8 * k) % 256 := by
  simp [wordByte, Nat.shiftRight_eq_div_pow]

/-- A word written whole reads back (R152). -/
theorem Memory.readWord_writeWord (m : Memory) (a : Nat) (w : Word) (ha : a + 3 < Config.addressSpace)
    (hm : m.wf = true) : (m.writeWord a w).readWord a = w := by
  unfold Memory.readWord
  have r0 := Memory.read_writeWord_inside m a 0 w (by omega) ha hm
  have r1 := Memory.read_writeWord_inside m a 1 w (by omega) ha hm
  have r2 := Memory.read_writeWord_inside m a 2 w (by omega) ha hm
  have r3 := Memory.read_writeWord_inside m a 3 w (by omega) ha hm
  rw [Nat.add_zero] at r0
  rw [r0, r1, r2, r3]
  apply BitVec.eq_of_toNat_eq
  simp only [wordByte_toNat, BitVec.toNat_ofNat]
  have := w.isLt
  omega

end Sys2Proof.Machine
end

