-- ==== Sys2Proof/Laws/Access.lean ====
section
/-! SUPPORT. Stores as the statements speak of them, the window's addresses, and what a granted station write of a request
word, a demand word or the consumer index does. -/

namespace Sys2Proof.Machine

open Sys2Proof

/-! ## Stores -/

/-- A word outside those of a later burst reads as before. -/
theorem Memory.readWord_of_read (m k : Memory) (a : Nat) (h : ∀ b, a ≤ b → b ≤ a + 3 → m.read b = k.read b) :
    m.readWord a = k.readWord a := by
  unfold Memory.readWord
  rw [h a (by omega) (by omega), h (a + 1) (by omega) (by omega), h (a + 2) (by omega) (by omega),
    h (a + 3) (by omega) (by omega)]

/-- The words of a burst read back (R158). -/
theorem Memory.readWords_writeWords (m : Memory) (a : Nat) (ws : List Word)
    (ha : a + 4 * ws.length ≤ Config.addressSpace) (hm : m.wf = true) :
    (m.writeWords a ws).readWords a ws.length = ws := by
  induction ws generalizing m a with
  | nil => rfl
  | cons w ws ih =>
    simp only [List.length_cons] at ha ⊢
    unfold Memory.writeWords Memory.readWords
    have hw := Memory.writeWord_wf m a w (by omega) hm
    rw [ih (m.writeWord a w) (a + 4) (by omega) hw]
    have h : ((m.writeWord a w).writeWords (a + 4) ws).readWord a = (m.writeWord a w).readWord a :=
      Memory.readWord_of_read _ _ a fun b hb hc =>
        Memory.read_writeWords_outside _ (a + 4) b ws (by omega) hw (by omega)
    rw [h, Memory.readWord_writeWord m a w (by omega) hm]

theorem storesOnly_writeWords (m : Memory) (a : Nat) (ws : List Word)
    (ha : a + 4 * ws.length ≤ Config.addressSpace) (hm : m.wf = true) : storesOnly m (m.writeWords a ws) a ws :=
  ⟨Memory.readWords_writeWords m a ws ha hm, fun b hb => Memory.read_writeWords_outside m a b ws ha hm hb⟩

theorem storesOnly_writeWord (m : Memory) (a : Nat) (w : Word) (ha : a + 4 ≤ Config.addressSpace) (hm : m.wf = true) :
    storesOnly m (m.writeWord a w) a [w] :=
  storesOnly_writeWords m a [w] (by simpa using ha) hm

/-! ## The window -/

/-- The window lies below 2^22, so every word of it lies in the address space (R151). -/
theorem windowBase_lt (strap : BitVec 8) : windowBase strap ≤ 4177920 := by
  have := strap.isLt
  unfold windowBase Config.windowSize
  omega

theorem Device.address_room (s : Device) (off n : Nat) (h : off + n ≤ 16384) :
    s.address off + n ≤ Config.addressSpace := by
  have := windowBase_lt s.strap
  unfold Device.address Config.addressSpace
  omega

theorem windowAddress (strap : BitVec 8) (off : Nat) (h : off < 16384) (h4 : off % 4 = 0) :
    wordAddress (BitVec.ofNat 32 (windowBase strap + off)) = windowBase strap + off := by
  have hb := windowBase_lt strap
  have hm : windowBase strap % 4 = 0 := by unfold windowBase Config.windowSize; omega
  unfold wordAddress
  rw [BitVec.toNat_ofNat, Nat.mod_eq_of_lt (by omega)]
  omega

theorem windowOffset_base (strap : BitVec 8) (off : Nat) (h : off < 16384) :
    windowOffset strap (windowBase strap + off) = some off := by
  unfold windowOffset Config.windowSize
  rw [if_pos (by omega)]
  congr 1
  omega

@[simp] theorem areaOf_request (w : RequestWord) : areaOf (requestOffset w) = .request w := by
  rcases w with (_ | _ | _) | _ <;> rfl

@[simp] theorem areaOf_rate (l : Line) : areaOf (rateOffset l) = .rateDemand l := by cases l <;> rfl

@[simp] theorem areaOf_valve (l : Line) (r : Role) : areaOf (valveOffset l r) = .valveDemand l r := by
  cases l <;> cases r <;> rfl

@[simp] theorem areaOf_consumer : areaOf consumerOffset = .consumer := rfl

theorem requestOffset_room (w : RequestWord) : requestOffset w + 4 ≤ 16384 ∧ requestOffset w % 4 = 0 := by
  rcases w with (_ | _ | _) | _ <;> decide

theorem rateOffset_room (l : Line) : rateOffset l + 4 ≤ 16384 ∧ rateOffset l % 4 = 0 := by cases l <;> decide

theorem valveOffset_room (l : Line) (r : Role) : valveOffset l r + 4 ≤ 16384 ∧ valveOffset l r % 4 = 0 := by
  cases l <;> cases r <;> decide

/-! ## The lengths of what the device writes -/

/-- Every refresh unit's words fit the window at the unit's offset (R160). -/
theorem Device.unitWords_room (s : Device) (u : RefreshUnit) : unitOffset u + 4 * (s.unitWords u).length ≤ 16384 := by
  rcases u with _ | _ | _ | l | t | n
  · simp [unitOffset, Device.unitWords, Device.rateWords, allLines]
  · simp [unitOffset, Device.unitWords, Device.valveWords, allLines, allRoles]
  · simp [unitOffset, Device.unitWords, Device.statusRecord]
  · cases l <;> simp [unitOffset, Device.unitWords, Device.lineRecord, lineNumber]
  · have := t.isLt
    simp only [unitOffset, Device.unitWords, Device.tankRecord]
    split <;> simp <;> omega
  · have := n.isLt
    simp only [unitOffset, Device.unitWords, Device.nodeRecord, List.length_cons, List.length_nil]
    omega

/-! ## A report submitted within an event -/

/-- A report submitted while reports flow still waits at the event's end (R172, R173; log 12). -/
theorem Device.reportWaits_finish (s d : Device) (r : Report) (h : s.reportsFlow)
    (hd : d.reports = (s.enqueueReport r).reports) : d.finish.reportWaits r := by
  obtain ⟨h1, h2, h3, h4⟩ := h
  have hq : d.reports = { s.reports with queue := [r] } := by
    rw [hd]; unfold Device.enqueueReport; simp [h1, h2, Config.reportQueueSize]
  have hb : d.takeBusMode.startDueFrame.reports = { s.reports with queue := [r] } := by rw [← hq]; simp
  have hf : d.takeBusMode.startDueFrame.reports.full = false := by rw [hb, ← h4]; rfl
  have ho : d.takeBusMode.startDueFrame.reports.overrun = 0 := by rw [hb]; exact h3
  have hq' : d.takeBusMode.startDueFrame.reports.queue = [r] := by rw [hb]
  unfold Device.finish Device.decideReport
  generalize d.takeBusMode.startDueFrame = e at hf ho hq' ⊢
  unfold Device.reportWaits
  split
  · left; simp [hq']
  · simp only [ho, Nat.lt_irrefl, false_and, if_false, hq', hf, Bool.false_eq_true]
    right; rfl

/-- While an entry is pending, an event's end gives no other (R173). -/
theorem Device.finish_entry (s : Device) (h : s.entryPending = true) :
    s.finish.jobs.entry = s.jobs.entry ∧ s.finish.reports = { s.reports with placed := s.reports.queue.length } := by
  have hb : s.takeBusMode.startDueFrame.entryPending = true := by
    unfold Device.entryPending at *; simpa using h
  have e : s.takeBusMode.startDueFrame.decideReport = s.takeBusMode.startDueFrame := by
    unfold Device.decideReport; simp [hb]
  unfold Device.finish
  rw [e]; simp [Device.placeReports]

/-- Of the changed marks an event's end can set only the status record's (R160; log 19). -/
theorem Device.finish_marks (s : Device) (u : RefreshUnit) (hu : u ≠ .status) :
    s.finish.marks.get u = s.marks.get u := by
  have h1 : ∀ (d : Device) (c : Bool), (d.markStatus c).marks.get u = d.marks.get u := by
    intro d c; cases u <;> simp_all [Device.markStatus, Marks.get]
  have h2 : ∀ d : Device, d.decideReport.marks.get u = d.marks.get u := by
    intro d; unfold Device.decideReport
    split
    · rfl
    · split
      · exact h1 d true
      · split
        · rfl
        · split
          · unfold Device.dropReports Device.countOverrun; exact h1 _ _
          · rfl
  have h3 : s.takeBusMode.marks.get u = s.marks.get u := by
    unfold Device.takeBusMode; dsimp only
    split
    · rfl
    · split <;> exact h1 _ _
  unfold Device.finish
  rw [show ∀ d : Device, d.placeReports.marks = d.marks from fun _ => rfl, h2, ← h3]; simp

/-! ## The grant -/

/-- An upstream grant moves at most the wait count (R157). -/
theorem Device.countGrant_port (s : Device) :
    s.countGrant = { s with port := s.countGrant.port } ∧ s.countGrant.port.burst = s.port.burst ∧
    s.countGrant.port.writesOpen = s.port.writesOpen := by
  unfold Device.countGrant; split <;> exact ⟨rfl, rfl, rfl⟩

@[simp] theorem Device.countGrant_keeps (s : Device) :
    (s.countGrant).time = s.time ∧ (s.countGrant).half = s.half ∧ (s.countGrant).strap = s.strap ∧
    (s.countGrant).jobs = s.jobs ∧ (s.countGrant).marks = s.marks ∧ (s.countGrant).requests = s.requests ∧
    (s.countGrant).reports = s.reports ∧ (s.countGrant).lines = s.lines ∧ (s.countGrant).memory = s.memory ∧
    (s.countGrant).governors = s.governors ∧ (s.countGrant).hoses = s.hoses ∧ (s.countGrant).tanks = s.tanks ∧
    (s.countGrant).topOffs = s.topOffs ∧ (s.countGrant).shutdown = s.shutdown ∧ (s.countGrant).nodes = s.nodes ∧
    (s.countGrant).targets = s.targets ∧ (s.countGrant).bus = s.bus ∧ (s.countGrant).link = s.link ∧
    (s.countGrant).charter = s.charter ∧ (s.countGrant).stills = s.stills ∧ (s.countGrant).valves = s.valves ∧
    (s.countGrant).slotNode = s.slotNode := by
  unfold Device.countGrant; split <;> exact ⟨rfl, rfl, rfl, rfl, rfl, rfl, rfl, rfl, rfl, rfl, rfl, rfl, rfl, rfl, rfl, rfl, rfl, rfl, rfl, rfl, rfl, rfl⟩

@[simp] theorem Device.countGrant_reads (s : Device) :
    (∀ q, (s.countGrant).line q = s.line q) ∧ (∀ q, (s.countGrant).governor q = s.governor q) ∧
    (∀ q, (s.countGrant).hose q = s.hose q) ∧ (∀ q, (s.countGrant).topOff q = s.topOff q) ∧
    (∀ q, (s.countGrant).sequenceMemory q = s.sequenceMemory q) ∧ (∀ q, (s.countGrant).tank q = s.tank q) ∧
    (∀ q, (s.countGrant).node q = s.node q) :=
  ⟨fun q => Device.line_congr _ _ q (by simp),
    fun q => Device.governor_congr _ _ q (by simp),
    fun q => Device.hose_congr _ _ q (by simp),
    fun q => Device.topOff_congr _ _ q (by simp),
    fun q => Device.sequenceMemory_congr _ _ q (by simp),
    fun q => Device.tank_congr _ _ q (by simp),
    fun q => Device.node_congr _ _ q (by simp)⟩

@[simp] theorem Device.reply_keeps (s : Device) (t : Treatment) (w : Word) :
    (s.reply t w).time = s.time ∧ (s.reply t w).half = s.half ∧ (s.reply t w).strap = s.strap ∧
    (s.reply t w).jobs = s.jobs ∧ (s.reply t w).marks = s.marks ∧ (s.reply t w).requests = s.requests ∧
    (s.reply t w).reports = s.reports ∧ (s.reply t w).lines = s.lines ∧ (s.reply t w).memory = s.memory ∧
    (s.reply t w).governors = s.governors ∧ (s.reply t w).hoses = s.hoses ∧ (s.reply t w).tanks = s.tanks ∧
    (s.reply t w).topOffs = s.topOffs ∧ (s.reply t w).shutdown = s.shutdown ∧ (s.reply t w).nodes = s.nodes ∧
    (s.reply t w).targets = s.targets ∧ (s.reply t w).bus = s.bus ∧ (s.reply t w).link = s.link ∧
    (s.reply t w).charter = s.charter ∧ (s.reply t w).stills = s.stills ∧ (s.reply t w).valves = s.valves ∧
    (s.reply t w).slotNode = s.slotNode := by
  exact ⟨rfl, rfl, rfl, rfl, rfl, rfl, rfl, rfl, rfl, rfl, rfl, rfl, rfl, rfl, rfl, rfl, rfl, rfl, rfl, rfl, rfl, rfl⟩

@[simp] theorem Device.reply_reads (s : Device) (t : Treatment) (w : Word) :
    (∀ q, (s.reply t w).line q = s.line q) ∧ (∀ q, (s.reply t w).governor q = s.governor q) ∧
    (∀ q, (s.reply t w).hose q = s.hose q) ∧ (∀ q, (s.reply t w).topOff q = s.topOff q) ∧
    (∀ q, (s.reply t w).sequenceMemory q = s.sequenceMemory q) ∧ (∀ q, (s.reply t w).tank q = s.tank q) ∧
    (∀ q, (s.reply t w).node q = s.node q) :=
  ⟨fun q => Device.line_congr _ _ q (by simp),
    fun q => Device.governor_congr _ _ q (by simp),
    fun q => Device.hose_congr _ _ q (by simp),
    fun q => Device.topOff_congr _ _ q (by simp),
    fun q => Device.sequenceMemory_congr _ _ q (by simp),
    fun q => Device.tank_congr _ _ q (by simp),
    fun q => Device.node_congr _ _ q (by simp)⟩

/-- The device with one request queued, not yet taken. -/
def Device.withRequest (s : Device) (q : Request) : Device := { s with requests := { s.requests with queue := [q] } }

@[simp] theorem Device.withRequest_keeps (s : Device) (q : Request) :
    (s.withRequest q).time = s.time ∧ (s.withRequest q).half = s.half ∧ (s.withRequest q).strap = s.strap ∧
    (s.withRequest q).port = s.port ∧ (s.withRequest q).jobs = s.jobs ∧ (s.withRequest q).marks = s.marks ∧
    (s.withRequest q).reports = s.reports ∧ (s.withRequest q).lines = s.lines ∧
    (s.withRequest q).memory = s.memory ∧ (s.withRequest q).governors = s.governors ∧
    (s.withRequest q).hoses = s.hoses ∧ (s.withRequest q).tanks = s.tanks ∧ (s.withRequest q).topOffs = s.topOffs ∧
    (s.withRequest q).shutdown = s.shutdown ∧ (s.withRequest q).nodes = s.nodes ∧
    (s.withRequest q).targets = s.targets ∧ (s.withRequest q).bus = s.bus ∧ (s.withRequest q).link = s.link ∧
    (s.withRequest q).charter = s.charter ∧ (s.withRequest q).stills = s.stills ∧
    (s.withRequest q).valves = s.valves ∧ (s.withRequest q).slotNode = s.slotNode := by
  exact ⟨rfl, rfl, rfl, rfl, rfl, rfl, rfl, rfl, rfl, rfl, rfl, rfl, rfl, rfl, rfl, rfl, rfl, rfl, rfl, rfl, rfl, rfl⟩

@[simp] theorem Device.withRequest_reads (s : Device) (r : Request) :
    (∀ q, (s.withRequest r).line q = s.line q) ∧ (∀ q, (s.withRequest r).governor q = s.governor q) ∧
    (∀ q, (s.withRequest r).hose q = s.hose q) ∧ (∀ q, (s.withRequest r).topOff q = s.topOff q) ∧
    (∀ q, (s.withRequest r).sequenceMemory q = s.sequenceMemory q) ∧ (∀ q, (s.withRequest r).tank q = s.tank q) ∧
    (∀ q, (s.withRequest r).node q = s.node q) :=
  ⟨fun q => Device.line_congr _ _ q (by simp),
    fun q => Device.governor_congr _ _ q (by simp),
    fun q => Device.hose_congr _ _ q (by simp),
    fun q => Device.topOff_congr _ _ q (by simp),
    fun q => Device.sequenceMemory_congr _ _ q (by simp),
    fun q => Device.tank_congr _ _ q (by simp),
    fun q => Device.node_congr _ _ q (by simp)⟩

/-- A full write of a window word is judged by the word's area (R153, R154). -/
theorem Device.judgeWrite_full (s : Device) (off : Nat) (data : Word) (h : off < 16384) (h4 : off % 4 = 0) :
    s.judgeWrite (fullWrite s.strap off data) = match s.charter.mode with
      | .watch => s.judgeInWatch off (fullWrite s.strap off data) (areaOf off)
      | .passive => s.judgeQuiet off (fullWrite s.strap off data) (areaOf off)
      | .loading => s.judgeQuiet off (fullWrite s.strap off data) (areaOf off) := by
  unfold Device.judgeWrite
  simp only [fullWrite, windowAddress s.strap off h h4, windowOffset_base s.strap off h]
  all_goals cases s.charter.mode <;> rfl

/-- With no access waiting the arbiter has nothing to choose (R157). -/
theorem State.arbitrate_none (s : State) (h : s.device.port.waiting = []) : s.arbitrate = s := by
  unfold State.arbitrate; rw [h]; rfl

/-- While the choice does not fall to the station, its accesses go on waiting (R152, R157). -/
theorem State.arbitrate_kept (s : State) (h : s.device.stationFirst = false) : s.arbitrate = s := by
  unfold State.arbitrate
  cases s.device.port.waiting with
  | nil => rfl
  | cons a rest => simp [State.serve, h]

/-- An access raised with the port free for it is granted at once (R157). -/
theorem State.access_free (s : State) (a : Access) (h : s.device.upstreamFree = true) :
    s.access a = .next (s.grantAccess a).settle := by
  obtain ⟨hf, hw⟩ : s.device.stationFirst = true ∧ s.device.port.waiting = [] := by
    simpa [Device.upstreamFree] using h
  have e : (s.withWaiting [a]).withWaiting [] = s := by
    unfold State.withWaiting; rw [← hw]
  unfold State.access State.arbitrate
  rw [hw, List.nil_append, show (s.withWaiting [a]).device.port.waiting = [a] from rfl]
  unfold State.serve
  rw [if_pos (show (s.withWaiting [a]).device.stationFirst = true from hf), e]
  rfl

/-- No judged write touches the port. -/
theorem Device.judgeWrite_port (s : Device) (a : Access) : (s.judgeWrite a).device.port = s.port := by
  have f : ∀ (d : Device) (j : Judgement) (off : Nat) (e : BitVec 4), d.port = s.port → j.device.port = s.port →
      (d.judgeFull off e j).device.port = s.port := by
    intro d j off e hd hj
    unfold Device.judgeFull; split
    · exact hj
    · simp [Judgement.suppressed, Device.badWrite, hd]
  have q : ∀ w d, (s.requestWrite w d).device.port = s.port := by
    intro w d; unfold Device.requestWrite; dsimp only; split <;> simp [Judgement.rewritten]
  have g : ∀ off ar, (s.judgeQuiet off a ar).device.port = s.port := by
    intro off ar
    unfold Device.judgeQuiet
    cases ar with
    | charter => dsimp only; split <;> rfl
    | request w => exact f _ _ _ _ rfl (q _ _)
    | _ => rfl
  have i : ∀ off ar, (s.judgeInWatch off a ar).device.port = s.port := by
    intro off ar
    unfold Device.judgeInWatch
    cases ar with
    | charter => dsimp only; split <;> rfl
    | plan l => dsimp only; split <;> rfl
    | request w => exact f _ _ _ _ rfl (q _ _)
    | rateDemand l =>
      refine f _ _ _ _ rfl ?_
      unfold Device.rateWrite; split <;> simp [Judgement.rewritten, Judgement.suppressed, Device.takeRateDemand]
    | valveDemand l r =>
      refine f _ _ _ _ rfl ?_
      unfold Device.valveWrite; split <;> simp [Judgement.passed, Judgement.suppressed, Device.acceptValve]
    | consumer =>
      refine f _ _ _ _ rfl ?_
      unfold Device.consumerWrite; split
      · simp [Judgement.passed]
      · simp [Judgement.suppressed, Device.badWrite]
    | kept => rfl
    | unused => rfl
  unfold Device.judgeWrite
  split
  · rfl
  · split <;> first | exact i _ _ | exact g _ _

/-- A grant leaves the other accesses that wait (R157). -/
theorem State.grantAccess_waiting (s : State) (a : Access) :
    (s.grantAccess a).settle.device.port.waiting = s.device.port.waiting := by
  have h : s.device.countGrant.port.waiting = s.device.port.waiting := by unfold Device.countGrant; split <;> rfl
  unfold State.settle State.grantAccess State.grantWrite State.grantRead
  split
  · simp [Device.reply, Device.judgeWrite_port, h]
  · simp [Device.reply, h]

/-- The first access that waits is granted in its own event, and the arbiter chooses again (R157, R158). -/
theorem State.arbitrate_next (s : State) (a : Access) (rest : List Access) (h : s.device.port.waiting = a :: rest)
    (hf : s.device.stationFirst = true) : s.arbitrate = ((s.withWaiting rest).grantAccess a).settle.arbitrate := by
  have e : ((s.withWaiting rest).grantAccess a).settle.device.port.waiting = rest := State.grantAccess_waiting _ a
  unfold State.arbitrate
  rw [h, e]
  exact if_pos hf

/-- A granted full write of a window word: the judgement's device with the reply, and memory by its treatment (R152). -/
theorem State.access_full (s : State) (off : Nat) (data : Word) (hf : s.device.upstreamFree = true) :
    s.access (fullWrite s.device.strap off data) = .next (State.settle
      { s with device := (s.device.countGrant.judgeWrite (fullWrite s.device.strap off data)).device.reply
                  (s.device.countGrant.judgeWrite (fullWrite s.device.strap off data)).treatment 0,
               mem := treatMemory s.mem (fullWrite s.device.strap off data)
                  (s.device.countGrant.judgeWrite (fullWrite s.device.strap off data)) }) := by
  rw [State.access_free s _ hf]; rfl

/-- A granted request write with nothing in hand: the request is queued and taken, and its word shows PENDING (R164,
R165). -/
theorem State.request_next (s : State) (w : RequestWord) (k : RequestKind) (a : Byte) (h : s.takesRequest) :
    s.request w k a = .next (State.settle
      { s with device := ((s.device.countGrant.withRequest ⟨w, kindCode k, a, s.device.time⟩).takeHead).reply .rewrite 0,
               mem := s.mem.writeWord (s.device.address (requestOffset w)) (requestWordOf (kindCode k) a .pending) }) := by
  obtain ⟨hm, hf, hq, hp⟩ := h
  obtain ⟨hr, h4⟩ := requestOffset_room w
  unfold State.request
  rw [State.access_full s _ _ hf]
  have hc := s.device.countGrant_port
  generalize hd : s.device.countGrant = d at hc ⊢
  obtain ⟨hc, -, -⟩ := hc
  have hs : s.device.strap = d.strap := by rw [hc]
  have hk : wordByte (requestWritten k a) 0 = kindCode k ∧ wordByte (requestWritten k a) 1 = a := by
    have ha := a.isLt
    have hb := (kindCode k).isLt
    refine ⟨BitVec.eq_of_toNat_eq ?_, BitVec.eq_of_toNat_eq ?_⟩ <;>
      simp only [wordByte, requestWritten, BitVec.toNat_ofNat, Nat.shiftRight_eq_div_pow] <;> omega
  have hj : d.judgeWrite (fullWrite s.device.strap (requestOffset w) (requestWritten k a)) =
      .rewritten (d.withRequest ⟨w, kindCode k, a, s.device.time⟩).takeHead (requestWordOf (kindCode k) a .pending) := by
    have hq' : d.requests.queue = [] := by rw [hc]; exact hq
    have ht : d.time = s.device.time := by rw [hc]
    rw [hs, Device.judgeWrite_full d _ _ (by omega) h4]
    cases d.charter.mode <;>
      simp [Device.judgeInWatch, Device.judgeQuiet, Device.judgeFull, fullWrite, Device.requestWrite, hk, hq', ht,
        Config.requestQueueSize, Device.withRequest]
  rw [hj]
  simp only [Judgement.rewritten, treatMemory, fullWrite, windowAddress _ _ (show requestOffset w < 16384 by omega) h4]
  rfl

/-- Every request kind's code reads back (R166). -/
@[simp] theorem kindOfCode_kindCode (k : RequestKind) : kindOfCode (kindCode k) = some k := by cases k <;> decide

/-- A request with nothing in hand is taken by the mode (R165, R166). -/
theorem Device.takeHead_withRequest (s : Device) (q : Request) (a : Asked) (hq : q.asked = some a)
    (hp : s.requests.phase = .untaken) :
    (s.withRequest q).takeHead = match s.charter.mode with
      | .loading => s.withRequest q
      | .passive => (s.withRequest q).takeInPassive a
      | .watch => (s.withRequest q).takeInWatch a := by
  unfold Device.takeHead
  simp only [Device.withRequest, hp, hq, ne_eq, not_true, if_false]
  all_goals cases s.charter.mode <;> rfl

end Sys2Proof.Machine
end

