-- ==== Sys2Proof/Laws/Stops.lean ====
section
/-! SUPPORT. Where a stop trigger, a hold trigger and a clearing event take a line, said once for each: the lemmas that
statements about a stopped or held line cite. -/

namespace Sys2Proof.Machine

open Sys2Proof

/-! ## CLOSING (R24) -/

/-- What CLOSING reads of a valve is its state and slots, and the nodes' settings. -/
theorem Device.closesValve_congr (s t : Device) (l : Line) (r : Role) (h : s.sameSettings t)
    (hn : ∀ n, s.valveOf l r = some n → (s.node n).sameSlots (t.node n)) : t.closesValve l r = s.closesValve l r := by
  unfold Device.closesValve Device.atRest Device.claimWouldDrop
  rw [s.valveOf_congr t h]
  cases hv : s.valveOf l r with
  | none => rfl
  | some n => dsimp only; rw [claimFate_congr _ _ _ (hn n hv), Node.idle_congr _ _ (hn n hv), (hn n hv).1]

theorem Device.closesValve_of_nodes (s t : Device) (l : Line) (r : Role) (h : t.nodes = s.nodes) :
    t.closesValve l r = s.closesValve l r :=
  s.closesValve_congr t l r (s.sameSettings_of_nodes t h) fun n _ => by
    rw [Device.node_congr t s n h]; exact ⟨rfl, rfl, rfl⟩

/-- A claim on one valve does not change what another valve's closing reads. -/
theorem Device.claimValve_closes (s : Device) (l : Line) (r q : Role) (t : Target) (o : Origin) (h : q ≠ r) :
    (s.claimValve l r t o).closesValve l q = s.closesValve l q := by
  refine s.closesValve_congr _ l q (s.sameSettings_of_stills _ (by simp)) fun n hn => ?_
  have same : (s.claimValve l r t o).node n = s.node n → (s.node n).sameSlots ((s.claimValve l r t o).node n) :=
    fun e => by rw [e]; exact ⟨rfl, rfl, rfl⟩
  refine same ?_
  unfold Device.claimValve
  cases hr : s.valveOf l r with
  | none => rfl
  | some m =>
    refine s.claim_node m n _ fun hm => h ?_
    have h1 := (s.valveOf_some l q n hn).2.2
    have h2 := (s.valveOf_some l r m hr).2.2
    rw [← h1, ← h2, hm]

theorem Device.closeValve_closes (s : Device) (l : Line) (r q : Role) (h : q ≠ r) :
    (s.closeValve l r).closesValve l q = s.closesValve l q := by
  unfold Device.closeValve
  split
  · rfl
  · exact ((s.claimValve l r .closed .sequence).closesValve_of_nodes _ l q (by simp)).trans
      (s.claimValve_closes l r q _ _ h)

/-- A valve that closes has its claim made (R24). -/
theorem Device.closeValve_claimed (s : Device) (l : Line) (r : Role) (h : s.closesValve l r = true) :
    s.moveClaimed (s.closeValve l r) l r .closed .sequence := by
  unfold Device.closesValve at h
  unfold Device.closeValve
  rw [if_neg (by simp at h; simp [h.1])]
  exact s.moveClaimed_at s _ _ l r _ _ (s.claimValve_claimed l r .closed .sequence) rfl (fun _ => ⟨rfl, rfl, rfl⟩)
    (fun _ _ => rfl) fun n _ => by simp

/-- A closing claim leaves the valves of the other roles. -/
theorem Device.closeValve_role (s d : Device) (l : Line) (r q : Role) (n : NodeNo) (hs : s.sameSettings d)
    (hn : s.valveOf l q = some n) (h : q ≠ r) : (d.closeValve l r).node n = d.node n := by
  have x := d.claimValve_role l r .closed .sequence n (.inr (by rw [(hs n).2.2, (s.valveOf_some l q n hn).2.2]; exact h))
  unfold Device.closeValve
  split
  · rfl
  · simpa using x

/-- A closing claim is awaited exactly when the valve closes (R24, R125). -/
theorem Device.closeValve_awaited (s : Device) (l : Line) (r q : Role) (h : (s.sequenceMemory l).awaited.get r = false) :
    ((s.closeValve l r).sequenceMemory l).awaited.get q =
      if q = r then s.closesValve l r else (s.sequenceMemory l).awaited.get q := by
  unfold Device.closeValve Device.closesValve
  split
  · next hr => by_cases hq : q = r <;> simp [hq, hr, h]
  · next hr => by_cases hq : q = r <;> simp [hq, hr]

theorem PerRole.allFalse (p : PerRole Bool) : p = .all false ↔ ∀ r, p.get r = false := by
  obtain ⟨a, b, c, d⟩ := p
  constructor
  · intro h r; rw [h]; simp
  · intro h
    have h1 := h .discharge
    have h2 := h .manifold
    have h3 := h .returnValve
    have h4 := h .strip
    simp only [PerRole.get] at h1 h2 h3 h4
    rw [h1, h2, h3, h4]; rfl

/-- A tank's entry after a release of a line's tanks (R66). -/
def Tank.releasedFrom (l : Line) (e : Tank) : Tank :=
  if e.assigned = some l then
    let e := { e with assigned := none, advice := .none, closeDeadline := none }
    { e with state := e.levelState none }
  else e

/-- A release acts on the tanks assigned to the line (R66). -/
theorem Device.release_tank (s : Device) (l : Line) (k : TankNo) :
    (s.release l).tank k = (s.tank k).map (Tank.releasedFrom l) := by
  have one : ∀ (d : Device) (j k : TankNo), (d.releaseTank l j).tank k =
      if k = j then (d.tank k).map (Tank.releasedFrom l) else d.tank k := by
    intro d j k
    unfold Device.releaseTank
    cases hj : d.tank j with
    | none => by_cases hk : k = j <;> simp [hk, hj]
    | some e =>
      dsimp only
      by_cases he : e.assigned = some l
      · rw [if_pos he]
        unfold Device.restate Device.reportTank
        by_cases hk : k = j
        · subst hk
          dsimp only; split <;> simp [hj, Tank.releasedFrom, he, Device.toppingVolumeOf]
        · dsimp only; split <;> simp [hk]
      · rw [if_neg he]
        by_cases hk : k = j
        · subst hk; simp [hj, Tank.releasedFrom, he]
        · simp [hk]
  have twice : ∀ e : Tank, (Tank.releasedFrom l (Tank.releasedFrom l e)) = Tank.releasedFrom l e := by
    intro e; unfold Tank.releasedFrom; by_cases he : e.assigned = some l <;> simp [he]
  have all : ∀ (ts : List TankNo) (d : Device), (ts.foldl (fun d j => d.releaseTank l j) d).tank k =
      if k ∈ ts then (d.tank k).map (Tank.releasedFrom l) else d.tank k := by
    intro ts
    induction ts with
    | nil => intro d; simp
    | cons j ts ih =>
      intro d
      rw [List.foldl_cons, ih, one]
      by_cases hk : k = j
      · subst hk
        by_cases hm : k ∈ ts
        · cases d.tank k <;> simp [hm, twice]
        · simp [hm]
      · simp [hk]
  have e : (s.release l).tank k = (allTanks.foldl (fun d j => d.releaseTank l j) s).tank k := by
    unfold Device.release; simp
  rw [e, all allTanks s, if_pos (mem_allTanks k)]

theorem Tank.releasedFrom_assigned (l m : Line) (e : Tank) :
    ((Tank.releasedFrom l e).assigned = some m ↔ e.assigned = some m ∧ m ≠ l) := by
  unfold Tank.releasedFrom
  by_cases he : e.assigned = some l
  · simp [he]; intro h; exact h ▸ rfl
  · simp [he]; intro h hm; exact he (hm ▸ h)

theorem Tank.releasedFrom_still (l : Line) (e : Tank) : (Tank.releasedFrom l e).still = e.still := by
  unfold Tank.releasedFrom Tank.still; split <;> rfl

theorem Device.enterFree_tank (s : Device) (l : Line) (k : TankNo) :
    (s.enterFree l).tank k = (s.tank k).map (Tank.releasedFrom l) := by
  have e : (s.enterFree l).tank k =
      (((s.enterState l .free .none .none).takeBusMode.lineSummary l).release l).tank k := by
    unfold Device.enterFree; simp
  rw [e, Device.release_tank]; simp [Device.lineSummary]

/-- FREE entered: the line's context cleared, its hose reset, its tanks released (R28). -/
theorem Device.enterFree_taken (s : Device) (l : Line) :
    ((s.enterFree l).line l).state = .free ∧ ((s.enterFree l).line l).step = .none ∧
    ((s.enterFree l).line l).stopCause = none ∧ (s.enterFree l).hose l = .reset ∧
    ∀ k, (s.enterFree l).tankHas k (fun e => decide (e.assigned = some l)) = false := by
  refine ⟨s.enterFree_state l, ?_, ?_, ?_, fun k => ?_⟩
  · unfold Device.enterFree; simp [LineContext.cleared]
  · unfold Device.enterFree; simp [LineContext.cleared]
  · unfold Device.enterFree Device.enterState
    dsimp only; split <;> simp [Device.lineSummary, Hose.entering]
  · unfold Device.tankHas
    rw [s.enterFree_tank l k]
    cases s.tank k with
    | none => rfl
    | some e => simp [Tank.releasedFrom_assigned]

/-- FREE entered makes no claim. -/
theorem Device.enterFree_node (s : Device) (l : Line) (n : NodeNo) : (s.enterFree l).node n = s.node n := by
  have e : (s.enterFree l).nodes = s.nodes := by
    unfold Device.enterFree; simp [(s.enterState_nodes l .free .none .none (by decide)).1]
  exact Device.node_congr _ _ n e

/-- Step VALVES_CLOSING makes and awaits the claims of the three valves, and with none awaited the line is FREE (R24, R28). -/
theorem Device.closeValves_taken (s : Device) (l : Line) :
    if s.closesValve l .discharge = true ∨ s.closesValve l .returnValve = true ∨ s.closesValve l .strip = true then
      ((s.closeValves l).line l).state = (s.line l).state ∧ ((s.closeValves l).line l).step = .valvesClosing ∧
      ((s.closeValves l).line l).stopCause = (s.line l).stopCause ∧
      ∀ r, r ≠ .manifold → s.closesValve l r = true → s.moveClaimed (s.closeValves l) l r .closed .sequence
    else (s.closeValves l).freed l := by
  generalize ha : (s.setStep l .valvesClosing).setSequenceMemory l .reset = a
  have na : ∀ q, a.closesValve l q = s.closesValve l q := fun q =>
    s.closesValve_of_nodes a l q (by rw [← ha]; simp)
  have wa : ∀ q, (a.sequenceMemory l).awaited.get q = false := by
    intro q; rw [← ha]; simp [SequenceMemory.reset]
  have la : a.line l = { s.line l with step := .valvesClosing } := by rw [← ha]; simp [Device.setStep]
  generalize hb : a.closeValve l .discharge = b
  generalize hc : b.closeValve l .returnValve = c
  generalize hd : c.closeValve l .strip = d
  have wb : ∀ q, (b.sequenceMemory l).awaited.get q = if q = .discharge then s.closesValve l .discharge else false := by
    intro q; rw [← hb, a.closeValve_awaited l .discharge q (wa _), na, wa]
  have nb : b.closesValve l .returnValve = s.closesValve l .returnValve := by
    rw [← hb, a.closeValve_closes l _ _ (by decide), na]
  have wc : ∀ q, (c.sequenceMemory l).awaited.get q = if q = .returnValve then s.closesValve l .returnValve
      else if q = .discharge then s.closesValve l .discharge else false := by
    intro q; rw [← hc, b.closeValve_awaited l .returnValve q (by rw [wb]; rfl), nb, wb]
  have nc : c.closesValve l .strip = s.closesValve l .strip := by
    rw [← hc, b.closeValve_closes l _ _ (by decide), ← hb, a.closeValve_closes l _ _ (by decide), na]
  have wd : ∀ q, (d.sequenceMemory l).awaited.get q = if q = .strip then s.closesValve l .strip
      else if q = .returnValve then s.closesValve l .returnValve
      else if q = .discharge then s.closesValve l .discharge else false := by
    intro q; rw [← hd, c.closeValve_awaited l .strip q (by rw [wc]; rfl), nc, wc]
  have ld : d.line l = { s.line l with step := .valvesClosing } := by rw [← hd, ← hc, ← hb]; simp [la]
  have e : s.closeValves l = if d.closingDone l then d.enterFree l else d := by
    unfold Device.closeValves; dsimp only; rw [ha, hb, hc, hd]
  have same : a.nodes = s.nodes := by rw [← ha]; simp
  have sa : s.sameSettings a := s.sameSettings_of_nodes a same
  have sb : s.sameSettings b := s.sameSettings_of_stills b (by rw [← hb, ← ha]; simp)
  have sc : s.sameSettings c := s.sameSettings_of_stills c (by rw [← hc, ← hb, ← ha]; simp)
  have back : ∀ x : Device, s.sameSettings x → x.sameSettings s := fun x k n =>
    ⟨(k n).1.symm, (k n).2.1.symm, (k n).2.2.symm⟩
  have ta : a.time = s.time := by rw [← ha]; simp
  have tb : b.time = s.time := by rw [← hb]; simp [ta]
  have tc : c.time = s.time := by rw [← hc]; simp [tb]
  have na' : ∀ n, a.node n = s.node n := fun n => Device.node_congr a s n same
  have claimed : ∀ r, r ≠ .manifold → s.closesValve l r = true → s.moveClaimed d l r .closed .sequence := by
    intro r hm hr
    cases r with
    | manifold => exact absurd rfl hm
    | discharge =>
      have x := a.closeValve_claimed l .discharge ((na _).trans hr)
      rw [hb] at x
      refine a.moveClaimed_at s b d l _ _ _ x ta.symm (back a sa) (fun n _ => (na' n).symm) fun n hn => ?_
      rw [s.valveOf_congr a sa] at hn
      rw [← hd, s.closeValve_role c l .strip .discharge n sc hn (by decide), ← hc,
        s.closeValve_role b l .returnValve .discharge n sb hn (by decide)]
    | returnValve =>
      have x := b.closeValve_claimed l .returnValve (nb.trans hr)
      rw [hc] at x
      refine b.moveClaimed_at s c d l _ _ _ x tb.symm (back b sb) (fun n hn => ?_) fun n hn => ?_
      all_goals rw [s.valveOf_congr b sb] at hn
      · rw [← hb, s.closeValve_role a l .discharge .returnValve n sa hn (by decide), na']
      · rw [← hd, s.closeValve_role c l .strip .returnValve n sc hn (by decide)]
    | strip =>
      have x := c.closeValve_claimed l .strip (nc.trans hr)
      rw [hd] at x
      refine c.moveClaimed_at s d d l _ _ _ x tc.symm (back c sc) (fun n hn => ?_) fun _ _ => rfl
      rw [s.valveOf_congr c sc] at hn
      rw [← hc, s.closeValve_role b l .returnValve .strip n sb hn (by decide), ← hb,
        s.closeValve_role a l .discharge .strip n sa hn (by decide), na']
  have done : d.closingDone l = true ↔ ¬(s.closesValve l .discharge = true ∨ s.closesValve l .returnValve = true ∨
      s.closesValve l .strip = true) := by
    unfold Device.closingDone
    rw [decide_eq_true_iff, PerRole.allFalse]
    constructor
    · intro h
      have h1 := h .discharge
      have h2 := h .returnValve
      have h3 := h .strip
      rw [wd] at h1 h2 h3
      simp at h1 h2 h3
      simp [h1, h2, h3]
    · intro h q
      rw [wd]
      simp only [not_or, Bool.not_eq_true] at h
      cases q <;> simp [h]
  rw [e]
  split
  · next h =>
    rw [if_neg (fun x => (done.mp x) h), ld]
    exact ⟨rfl, rfl, rfl, claimed⟩
  · next h =>
    rw [if_pos (done.mpr h)]
    exact d.enterFree_taken l

/-- What closing the valves in order leaves: closingTaken for a line in CLOSING (R24). -/
theorem Device.closeManifold_taken (s : Device) (l : Line) (h : (s.line l).state = .closing) :
    s.closingTaken (s.closeManifold l) l (s.line l).stopCause := by
  unfold Device.closingTaken Device.valvesClosingTaken
  generalize ha : s.setStep l .manifoldClosing = a
  have na : a.nodes = s.nodes := by rw [← ha]; simp
  have ca : ∀ q, a.closesValve l q = s.closesValve l q := fun q => s.closesValve_of_nodes a l q na
  have la : a.line l = { s.line l with step := .manifoldClosing } := by rw [← ha]; simp [Device.setStep]
  have sa : s.sameSettings a := s.sameSettings_of_nodes a na
  have back : ∀ n, a.node n = s.node n := fun n => Device.node_congr a s n na
  have ta : a.time = s.time := by rw [← ha]; simp
  have keep : ∀ b : Device, b.line l = a.line l → (∀ q, q ≠ .manifold → b.closesValve l q = s.closesValve l q) →
      b.time = s.time → s.sameSettings b →
      (∀ q n, q ≠ .manifold → s.valveOf l q = some n → b.node n = s.node n) →
      if s.closesValve l .discharge = true ∨ s.closesValve l .returnValve = true ∨ s.closesValve l .strip = true then
        ((b.closeValves l).line l).state = .closing ∧ ((b.closeValves l).line l).step = .valvesClosing ∧
        ((b.closeValves l).line l).stopCause = (s.line l).stopCause ∧
        ∀ r, r ≠ .manifold → s.closesValve l r = true → s.moveClaimed (b.closeValves l) l r .closed .sequence
      else (b.closeValves l).freed l := by
    intro b hl hc ht hs hn
    have x := b.closeValves_taken l
    rw [hc _ (by decide), hc _ (by decide), hc _ (by decide), hl, la] at x
    split
    · next q =>
      rw [if_pos q] at x
      refine ⟨x.1.trans h, x.2.1, x.2.2.1, fun r hr hv => ?_⟩
      refine b.moveClaimed_at s _ _ l _ _ _ (x.2.2.2 r hr ((hc r hr).trans hv)) ht.symm
        (fun n => ⟨(hs n).1.symm, (hs n).2.1.symm, (hs n).2.2.symm⟩) (fun n hv => (hn r n hr ?_).symm) fun _ _ => rfl
      rw [← s.valveOf_congr b hs]; exact hv
    · next q => rw [if_neg q] at x; exact x
  have e : s.closeManifold l = if a.atRest l .manifold .closed then a.closeValves l
      else if a.claimWouldDrop l .manifold .closed .sequence then
        (a.claimValve l .manifold .closed .sequence).closeValves l
      else a.claimValve l .manifold .closed .sequence := by
    unfold Device.closeManifold; dsimp only; rw [ha]
  have cm : s.closesValve l .manifold =
      (!a.atRest l .manifold .closed && !a.claimWouldDrop l .manifold .closed .sequence) := (ca .manifold).symm
  rw [e]
  by_cases hr : a.atRest l .manifold .closed = true
  · rw [if_pos hr, if_neg (by rw [cm]; simp [hr])]
    exact keep a rfl (fun q _ => ca q) ta sa fun _ n _ _ => back n
  · rw [if_neg hr]
    by_cases hd : a.claimWouldDrop l .manifold .closed .sequence = true
    · rw [if_pos hd, if_neg (by rw [cm]; simp [hd])]
      refine keep _ (by simp) (fun q hq => (a.claimValve_closes l .manifold q _ _ hq).trans (ca q)) (by simp [ta])
        (s.sameSettings_of_stills _ (by rw [← ha]; simp)) fun q n hq hn => ?_
      rw [a.claimValve_role l .manifold .closed .sequence n (.inr ?_), back]
      rw [back, (s.valveOf_some l q n hn).2.2]; exact hq
    · rw [if_neg hd, if_pos (by rw [cm]; simp [hr, hd])]
      refine ⟨by simp [la, h], by simp [la], by simp [la], ?_⟩
      exact a.moveClaimed_of s _ _ l _ _ _ (a.claimValve_claimed l .manifold .closed .sequence)
        (a.carries_nodes s _ _ l ta.symm na.symm rfl)

/-- What is said of CLOSING reads, of the device before, the time and the line's own nodes, and of the device after the
line's own items and its nodes: it stands through whatever else the event does. -/
theorem Device.closingTaken_of (s d t u : Device) (l : Line) (c : Option Cause) (h : s.closingTaken t l c)
    (hc : ∀ r, d.closesValve l r = s.closesValve l r) (hn : s.carries d t u l) (hl : u.line l = t.line l)
    (hh : u.hose l = t.hose l) (hk : ∀ k, t.tankHas k (fun e => decide (e.assigned = some l)) = false →
      u.tankHas k (fun e => decide (e.assigned = some l)) = false) : d.closingTaken u l c := by
  unfold Device.closingTaken Device.valvesClosingTaken Device.freed at *
  simp only [hc, hl, hh]
  by_cases h1 : s.closesValve l .manifold = true
  · rw [if_pos h1] at h ⊢
    exact ⟨h.1, h.2.1, h.2.2.1, s.moveClaimed_of d t u l _ _ _ h.2.2.2 hn⟩
  · rw [if_neg h1] at h ⊢
    by_cases h2 : s.closesValve l .discharge = true ∨ s.closesValve l .returnValve = true ∨
        s.closesValve l .strip = true
    · rw [if_pos h2] at h ⊢
      exact ⟨h.1, h.2.1, h.2.2.1, fun r hr hv => s.moveClaimed_of d t u l _ _ _ (h.2.2.2 r hr hv) hn⟩
    · rw [if_neg h2] at h ⊢
      exact ⟨h.1, h.2.1, h.2.2.1, h.2.2.2.1, fun k => hk k (h.2.2.2.2 k)⟩

/-- What is said of CLOSING from a device stands from one with the same nodes. -/
theorem Device.closingTaken_from (s d t : Device) (l : Line) (c : Option Cause) (h : s.closingTaken t l c)
    (hn : d.nodes = s.nodes) (ht : d.time = s.time) : d.closingTaken t l c :=
  s.closingTaken_of d t t l c h (fun r => s.closesValve_of_nodes d l r hn) (s.carries_nodes d t t l ht hn rfl) rfl rfl
    fun _ h => h

/-- CLOSING entered (R24). -/
theorem Device.enterClosing_taken (s : Device) (l : Line) :
    s.closingTaken (s.enterClosing l) l (s.line l).stopCause := by
  have n : (s.enterState l .closing .manifoldClosing .none).nodes = s.nodes :=
    (s.enterState_nodes l .closing .manifoldClosing .none (by decide)).1
  have h := (s.enterState l .closing .manifoldClosing .none).closeManifold_taken l (by simp)
  have x := Device.closingTaken_from _ s _ l _ h n.symm (by simp)
  simpa [Device.enterClosing] using x

/-- The closing of the valves leaves the allowed rate, and so does the return to FREE at rate 0 (R32). -/
theorem Device.closeManifold_allowed (s : Device) (l : Line) (h : (s.governor l).allowed = 0) :
    ((s.closeManifold l).governor l).allowed = 0 := by
  have f : ∀ d : Device, (d.enterFree l).governor l = ((d.enterState l .free .none .none).governor l) := by
    intro d; unfold Device.enterFree; simp
  have v : ∀ d : Device, (d.governor l).allowed = 0 → ((d.closeValves l).governor l).allowed = 0 := by
    intro d hd
    unfold Device.closeValves; dsimp only; split
    · rw [f]; simp [Governor.entering]
    · simp [Device.setStep, hd]
  unfold Device.closeManifold; dsimp only
  repeat' split
  all_goals first | exact v _ (by simp [Device.setStep, h]) | simp [Device.setStep, h]

theorem Device.enterClosing_allowed (s : Device) (l : Line) : ((s.enterClosing l).governor l).allowed = 0 :=
  Device.closeManifold_allowed _ l (by simp [Governor.entering])

/-! ## Stopping (R19 to R23) -/

/-- STRIPPING entered claims STRIP OPEN (R23). -/
theorem Device.enterStripping_claimed (s : Device) (l : Line) :
    s.moveClaimed (s.enterStripping l) l .strip .opened .sequence := by
  have n : (s.enterState l .stripping .strip .none).nodes = s.nodes :=
    (s.enterState_nodes l .stripping .strip .none (by decide)).1
  generalize ha : s.enterState l .stripping .strip .none = a at n
  have e : (s.enterStripping l).nodes = (a.claimValve l .strip .opened .sequence).nodes := by
    unfold Device.enterStripping Device.setDeadline; dsimp only; rw [ha]; simp
  exact a.moveClaimed_of s _ _ l _ _ _ (a.claimValve_claimed l .strip .opened .sequence)
    (a.carries_nodes s _ _ l (by rw [← ha]; simp) n.symm e)

/-- Where a stop trigger takes a line in PRIMING, DELIVERING, TOPPING or HELD. -/
theorem Device.stopTrigger_taken (s : Device) (l : Line) (c : Cause) (b : Bool) (h : (s.line l).state.running = true) :
    s.stopTaken (s.stopTrigger l c b) l c b := by
  have hs : s.stopTrigger l c b = s.enterStopping l c b := by
    unfold Device.stopTrigger; dsimp only
    rw [if_neg (fun x => by rw [x] at h; cases h), if_pos h]
  rw [hs]
  generalize ha : (s.setLine l ((s.line l).stopped c b)).enterState l .stopping .ramp (.line c) = a
  have na : a.nodes = s.nodes := by
    rw [← ha, (Device.enterState_nodes _ l .stopping .ramp _ (by decide)).1]; simp
  have ga : (a.governor l).allowed = (s.governor l).allowed := by rw [← ha]; simp [Governor.entering]
  have la : (a.line l).state = .stopping ∧ (a.line l).step = .ramp ∧ (a.line l).stopCause = some c ∧
      (a.line l).stripFlag = b ∧ (a.line l).hold = .empty ∧ (a.line l).entry = s.time ∧
      (a.line l).deadline = none := by
    rw [← ha]; simp [LineContext.stopped]
  have ta : a.time = s.time ∧ a.charter = s.charter ∧ a.stills = s.stills := by rw [← ha]; simp
  have e : s.enterStopping l c b = if (a.governor l).allowed = 0 then a.enterPumpStopping l else a := by
    unfold Device.enterStopping; dsimp only; rw [ha]
  unfold Device.stopTaken
  rw [e, ga]
  by_cases hz : (s.governor l).allowed = 0
  · rw [if_pos hz, if_neg (by omega)]
    generalize hb : (a.setStep l .pumpStopping).setDeadline l (a.secondsOn (a.limits l).pumpStop) = d
    have nd : d.nodes = s.nodes := by rw [← hb]; simp [Device.setStep, Device.setDeadline, na]
    have td : d.time = s.time ∧ d.charter = s.charter ∧ d.stills = s.stills := by
      rw [← hb]; simp [Device.setStep, Device.setDeadline, ta]
    have gd : (d.governor l).allowed = 0 := by rw [← hb]; simp [Device.setStep, Device.setDeadline, ga, hz]
    have ld : (d.line l).state = .stopping ∧ (d.line l).step = .pumpStopping ∧ (d.line l).stopCause = some c ∧
        (d.line l).stripFlag = b ∧ (d.line l).hold = .empty ∧ (d.line l).entry = s.time ∧
        (d.line l).deadline = some (s.secondsOn (s.limits l).pumpStop) := by
      rw [← hb]
      simp [Device.setStep, Device.setDeadline, la, ta, Device.secondsOn, Device.limits]
    have id : d.idleNode (d.deviceOf l .pump) = s.idleNode (s.deviceOf l .pump) := by
      rw [s.deviceOf_congr d (s.sameSettings_of_stills d td.2.2)]
      cases s.deviceOf l .pump with
      | none => rfl
      | some n => exact congrArg Node.idle (Device.node_congr d s n nd)
    have e2 : a.enterPumpStopping l = if s.idleNode (s.deviceOf l .pump) = true then d.leaveStopping l else d := by
      unfold Device.enterPumpStopping; dsimp only; rw [hb, id]
    rw [e2]
    by_cases hi : s.idleNode (s.deviceOf l .pump) = true
    · rw [if_pos hi, if_neg (by simp [hi])]
      unfold Device.leaveStopping
      rw [ld.2.2.2.1]
      cases b with
      | true =>
        have x := d.moveClaimed_of s _ _ l _ _ _ (d.enterStripping_claimed l)
          (d.carries_nodes s _ _ l td.1.symm nd.symm rfl)
        simp only [if_true]
        refine and_assoc.mp (and_assoc.mp (and_assoc.mp (and_assoc.mp (and_assoc.mp (and_assoc.mp ⟨?_, x⟩)))))
        unfold Device.enterStripping Device.setDeadline
        simp [ld, td, Device.secondsOn, Device.limits, Governor.entering, hz]
      | false =>
        refine ⟨by rw [hz]; exact d.enterClosing_allowed l, ?_⟩
        have x := d.enterClosing_taken l
        rw [ld.2.2.1] at x
        exact d.closingTaken_from s _ l _ x nd.symm td.1.symm
    · rw [if_neg hi, if_pos (by simpa using hi)]
      exact ⟨by rw [gd, hz], ld⟩
  · rw [if_neg hz, if_pos (by omega)]
    exact ⟨ga, la⟩

/-- A node without its queued SEQUENCE claim (R20). -/
def Node.withdrawn (nd : Node) : Node :=
  match nd.queued with
  | none => nd
  | some q => if q.origin = .sequence then { nd with queued := none } else nd

/-- The withdrawal of a line's queued claims, node by node (R20). -/
theorem Device.withdrawLine_node (s : Device) (l : Line) (n : NodeNo) :
    (s.withdrawLine l).node n = if (s.node n).line = some l then (s.node n).withdrawn else s.node n := by
  have one : ∀ (d : Device) (m : NodeNo),
      (if (d.node m).line = some l then d.withdrawSequence m else d).node n =
        if n = m ∧ (d.node n).line = some l then (d.node n).withdrawn else d.node n := by
    intro d m
    unfold Device.withdrawSequence Device.reportDropped Node.withdrawn
    by_cases hm : n = m
    · subst hm
      split
      · next hl =>
        cases hq : (d.node n).queued with
        | none => simp [hl]
        | some q => by_cases ho : q.origin = .sequence <;> simp [hl, ho]
      · next hl => simp [hl]
    · rw [if_neg (show ¬(n = m ∧ (d.node n).line = some l) from fun h => hm h.1)]
      split
      · repeat' split
        all_goals simp [hm]
      · rfl
  have twice : ∀ nd : Node, nd.withdrawn.withdrawn = nd.withdrawn ∧ nd.withdrawn.line = nd.line := by
    intro nd
    unfold Node.withdrawn
    cases hq : nd.queued with
    | none => simp [hq]
    | some q => by_cases ho : q.origin = .sequence <;> simp [hq, ho]
  have all : ∀ (ns : List NodeNo) (d : Device),
      (ns.foldl (fun s n => if (s.node n).line = some l then s.withdrawSequence n else s) d).node n =
        if n ∈ ns ∧ (d.node n).line = some l then (d.node n).withdrawn else d.node n := by
    intro ns
    induction ns with
    | nil => intro d; simp
    | cons m ns ih =>
      intro d
      rw [List.foldl_cons, ih, one]
      by_cases hl : (d.node n).line = some l
      · by_cases hm : n = m
        · by_cases hs : n ∈ ns <;> simp_all
        · simp [hm, hl]
      · simp [hl]
  have h := all allNodes s
  simp only [mem_allNodes, true_and] at h
  exact h

theorem Node.withdrawn_reads (nd : Node) :
    nd.withdrawn.inFlight = nd.inFlight ∧ nd.withdrawn.line = nd.line ∧ nd.withdrawn.kind = nd.kind ∧
    nd.withdrawn.role = nd.role ∧ nd.withdrawn.valve = nd.valve := by
  unfold Node.withdrawn
  cases nd.queued with
  | none => exact ⟨rfl, rfl, rfl, rfl, rfl⟩
  | some q => dsimp only; split <;> exact ⟨rfl, rfl, rfl, rfl, rfl⟩

theorem Device.withdrawLine_off (s : Device) (l : Line) (n : NodeNo) (h : (s.node n).line ≠ some l) :
    (s.withdrawLine l).node n = s.node n := by rw [s.withdrawLine_node, if_neg h]

/-! ## Devices that agree about a line -/

/-- Two devices have the same node settings, and the same valve states and slots of a line's valves and pump. -/
def Device.agree (s t : Device) (l : Line) : Prop :=
  s.sameSettings t ∧ ∀ n, (s.node n).line = some l → (s.node n).kind = .valve ∨ (s.node n).kind = .pump →
    (s.node n).sameSlots (t.node n)

theorem Device.agree_of_nodes (s t : Device) (l : Line) (h : t.nodes = s.nodes) : s.agree t l :=
  ⟨s.sameSettings_of_nodes t h, fun n _ _ => by rw [Device.node_congr t s n h]; exact ⟨rfl, rfl, rfl⟩⟩

theorem Device.agree_symm (s t : Device) (l : Line) (h : s.agree t l) : t.agree s l := by
  refine ⟨fun n => ⟨(h.1 n).1.symm, (h.1 n).2.1.symm, (h.1 n).2.2.symm⟩, fun n hl hk => ?_⟩
  rw [(h.1 n).2.1] at hl
  rw [(h.1 n).1] at hk
  have x := h.2 n hl hk
  exact ⟨x.1.symm, x.2.1.symm, x.2.2.symm⟩

/-- Devices that agree about a line before an event carry what is claimed in it. -/
theorem Device.agree_carries (s d t u : Device) (l : Line) (h : s.agree d l) (ht : d.time = s.time)
    (hn : ∀ n, (s.node n).line = some l → (t.node n).sameClaims (u.node n)) : s.carries d t u l :=
  ⟨ht, h.1, fun n hl hk => ⟨(h.2 n hl hk).2, hn n hl⟩⟩

theorem Device.agree_closes (s t : Device) (l : Line) (r : Role) (h : s.agree t l) :
    t.closesValve l r = s.closesValve l r :=
  s.closesValve_congr t l r h.1 fun n hn => h.2 n (s.valveOf_some l r n hn).2.1 (.inl (s.valveOf_some l r n hn).1)

theorem Device.agree_pump (s t : Device) (l : Line) (h : s.agree t l) :
    t.idleNode (t.deviceOf l .pump) = s.idleNode (s.deviceOf l .pump) := by
  rw [s.deviceOf_congr t h.1]
  cases hp : s.deviceOf l .pump with
  | none => rfl
  | some n =>
    have hl : (s.node n).kind = .pump ∧ (s.node n).line = some l := by simpa using List.find?_some hp
    exact Node.idle_congr _ _ (h.2 n hl.2 (.inr hl.1))

theorem Device.agree_flying (s t : Device) (l : Line) (h : s.agree t l) : t.valveInFlight l = s.valveInFlight l := by
  unfold Device.valveInFlight
  refine congrArg (List.any allNodes) (funext fun n => ?_)
  rw [(h.1 n).1, (h.1 n).2.1]
  by_cases hl : (s.node n).kind = .valve ∧ (s.node n).line = some l
  · rw [(h.2 n hl.2 (.inl hl.1)).2.1]
  · simp [hl]

theorem Device.agree_withdraw (s t : Device) (l : Line) (h : s.agree t l) :
    (s.withdrawLine l).agree (t.withdrawLine l) l := by
  have set : ∀ (d : Device) (n : NodeNo), ((d.withdrawLine l).node n).kind = (d.node n).kind ∧
      ((d.withdrawLine l).node n).line = (d.node n).line ∧ ((d.withdrawLine l).node n).role = (d.node n).role := by
    intro d n; rw [d.withdrawLine_node]; split
    · exact ⟨(Node.withdrawn_reads _).2.2.1, (Node.withdrawn_reads _).2.1, (Node.withdrawn_reads _).2.2.2.1⟩
    · exact ⟨rfl, rfl, rfl⟩
  refine ⟨fun n => ?_, fun n hl hk => ?_⟩
  · rw [(set s n).1, (set s n).2.1, (set s n).2.2, (set t n).1, (set t n).2.1, (set t n).2.2]; exact h.1 n
  · rw [(set s n).2.1] at hl
    rw [(set s n).1] at hk
    have x := h.2 n hl hk
    have y : (t.node n).line = some l := by rw [(h.1 n).2.1]; exact hl
    rw [s.withdrawLine_node, t.withdrawLine_node, if_pos hl, if_pos y]
    obtain ⟨x1, x2, x3⟩ := x
    unfold Node.withdrawn Node.sameSlots
    rw [x3]
    cases (s.node n).queued with
    | none => exact ⟨x1, x2, x3⟩
    | some q => dsimp only; split <;> first | exact ⟨x1, x2, rfl⟩ | exact ⟨x1, x2, x3⟩

/-- Where a stop trigger takes a line in LINEUP (R19, R20). -/
theorem Device.stopTrigger_lineup (s : Device) (l : Line) (c : Cause) (b : Bool) (h : (s.line l).state = .lineup) :
    s.lineupStopped (s.stopTrigger l c b) l c := by
  have hs : s.stopTrigger l c b = s.closeFromLineup l c := by
    unfold Device.stopTrigger; dsimp only; rw [if_pos h]
  rw [hs]
  generalize ha : ((s.setLine l ((s.line l).stopped c false)).setSequenceMemory l .reset).enterState l .closing .holdOff
    (.line c) = a
  have na : a.nodes = s.nodes := by
    rw [← ha, (Device.enterState_nodes _ l .closing .holdOff _ (by decide)).1]; simp
  have la : (a.line l).state = .closing ∧ (a.line l).step = .holdOff ∧ (a.line l).stopCause = some c ∧
      (a.line l).hold = .empty ∧ (a.line l).entry = s.time ∧ (a.line l).deadline = none := by
    rw [← ha]; simp [LineContext.stopped]
  have ta : a.time = s.time := by rw [← ha]; simp
  have lw : (a.withdrawLine l).line l = a.line l := by simp
  have ag := s.agree_of_nodes a l na
  have nw := s.agree_withdraw a l ag
  have fl : (a.withdrawLine l).valveInFlight l = s.valveInFlight l := by
    rw [← s.agree_flying a l ag]
    unfold Device.valveInFlight
    refine congrArg (List.any allNodes) (funext fun n => ?_)
    rw [a.withdrawLine_node]
    split <;> simp [Node.withdrawn_reads]
  have iw : ∀ n, (a.withdrawLine l).node n = (s.withdrawLine l).node n := by
    intro n; rw [a.withdrawLine_node, s.withdrawLine_node, Device.node_congr a s n na]
  have e : s.closeFromLineup l c = if s.valveInFlight l then a.withdrawLine l else (a.withdrawLine l).closeManifold l := by
    unfold Device.closeFromLineup; dsimp only; rw [ha, fl]
  generalize hd : a.withdrawLine l = d at lw nw e iw
  unfold Device.lineupStopped
  rw [e]
  by_cases hv : s.valveInFlight l = true
  · rw [if_pos hv, if_pos hv, lw]
    refine ⟨la.1, la.2.1, la.2.2.1, la.2.2.2.1, la.2.2.2.2.1, la.2.2.2.2.2, fun n _ => ?_⟩
    rw [iw n]
    refine ⟨?_, rfl⟩
    rw [s.withdrawLine_node]; split <;> simp [Node.withdrawn_reads]
  · rw [if_neg hv, if_neg hv]
    have tw : (s.withdrawLine l).time = d.time := by rw [← hd]; simp [ta]
    generalize s.withdrawLine l = w at nw tw ⊢
    have x := d.closeManifold_taken l ((congrArg LineContext.state lw).trans la.1)
    rw [lw, la.2.2.1] at x
    have y := Device.agree_symm _ _ l nw
    exact d.closingTaken_of w _ _ l _ x (fun r => d.agree_closes w l r y)
      (d.agree_carries w _ _ l y tw fun _ _ => ⟨rfl, rfl⟩) rfl rfl fun _ h => h

/-! ## Holding (R12 to R15) -/

/-- HELD entered claims SPEED 0 on the pump and leaves every other node (R13, R39). -/
theorem Device.enterState_held (s : Device) (l : Line) (p : Step) (c : ReportCause) :
    s.speedClaimed (s.enterState l .held p c) l 0 .sequence ∧
    ∀ n, (s.node n).kind ≠ .pump → (s.enterState l .held p c).node n = s.node n := by
  generalize ha : ((s.setLine l { s.line l with state := .held, step := p, entry := s.time, deadline := none }).submit
    .lineState (lineNumber l) 0 c (BitVec.ofNat 32 (lineStateCode .held))
    (BitVec.ofNat 32 (lineStateCode (s.line l).state))) = a
  generalize hb : a.setGovernor l ((a.governor l).entering a.periodOn .held) = b
  have nb : b.nodes = s.nodes := by rw [← hb, ← ha]; simp
  have tb : b.time = s.time := by rw [← hb, ← ha]; simp
  have e : (s.enterState l .held p c).nodes = (b.claimPump l 0 .sequence).nodes := by
    unfold Device.enterState Device.governorEnters Device.claimSpeed
    dsimp only
    rw [ha]
    simp [sendsStopping, hb]
  refine ⟨b.speedClaimed_of s _ _ l _ _ (b.claimPump_claimed l 0 .sequence) (b.carries_nodes s _ _ l tb.symm nb.symm e),
    fun n hn => ?_⟩
  rw [Device.node_congr _ _ n e, b.claimPump_kind l 0 .sequence n (by rw [Device.node_congr b s n nb]; exact hn),
    Device.node_congr b s n nb]

/-- HELD entered claims SPEED 0 and RETURN OPEN (R13). -/
theorem Device.enterHeld_claimed (s : Device) (l : Line) (c : HoldCause) :
    s.speedClaimed (s.enterHeld l c) l 0 .sequence ∧
    s.moveClaimed (s.enterHeld l c) l .returnValve .opened .sequence := by
  generalize ha : s.setLine l { s.line l with hold := (s.line l).hold.put c true, holdStart := some s.time } = a
  have na : a.nodes = s.nodes := by rw [← ha]; simp
  have x := a.enterState_held l .hold (.hold c)
  generalize hb : (a.enterState l .held .hold (.hold c)).setDeadline l
    ((a.enterState l .held .hold (.hold c)).secondsOn ((a.enterState l .held .hold (.hold c)).limits l).holdLimit) = b
  have nb : b.nodes = (a.enterState l .held .hold (.hold c)).nodes := by rw [← hb]; simp [Device.setDeadline]
  have tb : b.time = s.time := by rw [← hb, ← ha]; simp [Device.setDeadline]
  have sb : s.sameSettings b := s.sameSettings_of_stills b (by rw [← hb, ← ha]; simp [Device.setDeadline])
  have e : s.enterHeld l c = b.claimValve l .returnValve .opened .sequence := by
    unfold Device.enterHeld; dsimp only; rw [ha, hb]
  have back : ∀ n, a.node n = s.node n := fun n => Device.node_congr a s n na
  rw [e]
  constructor
  · refine a.speedClaimed_at s _ _ l _ _ x.1 (by rw [← ha]; simp)
      (fun n => by rw [back n]; exact ⟨rfl, rfl, rfl⟩) (fun n _ => (back n).symm) fun n hn => ?_
    rw [b.claimValve_role l _ _ _ n (.inl ?_), Device.node_congr _ _ n nb]
    have k := (a.deviceOf_some l .pump n hn).1
    rw [back] at k
    rw [(sb n).1, k]; decide
  · refine b.moveClaimed_at s _ _ l _ _ _ (b.claimValve_claimed l .returnValve .opened .sequence) tb.symm
      (fun n => ⟨(sb n).1.symm, (sb n).2.1.symm, (sb n).2.2.symm⟩) (fun n hn => ?_) fun _ _ => rfl
    have k := (b.valveOf_some l .returnValve n hn).1
    rw [(sb n).1] at k
    rw [Device.node_congr _ _ n nb, x.2 n (by rw [back, k]; decide), back]

/-- Where a hold trigger takes a line in PRIMING, DELIVERING, TOPPING or HELD. -/
theorem Device.holdTrigger_taken (s : Device) (l : Line) (c : HoldCause)
    (h : (s.line l).state.holdable = true ∨ (s.line l).state = .held) :
    s.holdTaken (s.holdTrigger l c) l c := by
  unfold Device.holdTaken Device.holdEntered Device.holdTrigger
  dsimp only
  by_cases hh : (s.line l).state.holdable = true
  · rw [if_pos hh]
    have x := s.enterHeld_line l c
    exact ⟨⟨x.1, x.2.2.1, fun _ => ⟨x.2.1, x.2.2.2.2.1, x.2.2.2.2.2.1, x.2.2.2.2.2.2.2.2.2.2⟩⟩,
      fun _ => s.enterHeld_claimed l c⟩
  · have hd := h.resolve_left hh
    rw [if_neg hh, if_pos hd]
    simp [hd, LineState.holdable]

/-- The prime speed claim (R8, R36). -/
theorem Device.primeClaim_claimed (s : Device) (l : Line) :
    s.speedClaimed (s.primeClaim l) l (speedFor (s.limits l).prime (s.limits l).peak) .sequence := by
  generalize ha : s.setGovernor l { s.governor l with allowed := (s.limits l).prime } = a
  have na : a.nodes = s.nodes := by rw [← ha]; simp
  have e : (s.primeClaim l).nodes =
      (a.claimPump l (speedFor (s.limits l).prime (s.limits l).peak) .sequence).nodes := by
    unfold Device.primeClaim Device.primeSpeed Device.claimSpeed; dsimp only; rw [ha]
    simp [Device.setStep, Device.setDeadline]
  exact a.speedClaimed_of s _ _ l _ _ (a.claimPump_claimed l _ .sequence)
    (a.carries_nodes s _ _ l (by rw [← ha]; simp) na.symm e)

/-- The prime speed claimed: step, deadline, allowed rate and priming (R8, R36, R80). -/
theorem Device.primeClaim_primed (s : Device) (l : Line) :
    s.primeClaimed (s.primeClaim l) l ∧ ((s.primeClaim l).line l).state = (s.line l).state ∧
    ((s.primeClaim l).line l).hold = (s.line l).hold ∧ ((s.primeClaim l).hose l).primingCount = 0 := by
  have c := s.primeClaim_claimed l
  unfold Device.primeClaimed
  refine ⟨⟨?_, ?_, ?_, ?_, c⟩, ?_, ?_, ?_⟩
  all_goals unfold Device.primeClaim Device.primeSpeed
  all_goals simp [Device.setStep, Device.setDeadline, Device.secondsOn, Device.limits]

/-- What is said of the prime speed reads, of the device before, the time, the charter and the line's nodes. -/
theorem Device.primeClaimed_of (s d t u : Device) (l : Line) (h : s.primeClaimed t l) (hc : d.charter = s.charter)
    (k : s.carries d t u l) (hl : u.line l = t.line l) (hg : u.governor l = t.governor l) (hh : u.hose l = t.hose l) :
    d.primeClaimed u l := by
  have q : d.limits l = s.limits l := by unfold Device.limits; rw [hc]
  unfold Device.primeClaimed Device.secondsOn at *
  rw [q, hl, hg, hh, k.1]
  exact ⟨h.1, h.2.1, h.2.2.1, h.2.2.2.1, s.speedClaimed_of d t u l _ _ h.2.2.2.2 k⟩

/-- PRIMING entered from HELD: the prime speed claim, or RETURN closed first (R15). -/
theorem Device.primeFromHeld_taken (s : Device) (l : Line) :
    ((s.primeFromHeld l).line l).hold = (s.line l).hold ∧ ((s.primeFromHeld l).line l).state = .priming ∧
    if s.atRest l .returnValve .closed = true then s.primeClaimed (s.primeFromHeld l) l
    else
      ((s.primeFromHeld l).line l).step = .returnClosing ∧
      s.moveClaimed (s.primeFromHeld l) l .returnValve .closed .sequence := by
  have n := (s.enterState_nodes l .priming .returnClosing .none (by decide)).1
  generalize ha : s.enterState l .priming .returnClosing .none = a at n
  have la : (a.line l).hold = (s.line l).hold ∧ (a.line l).state = .priming ∧ (a.line l).step = .returnClosing := by
    rw [← ha]; simp
  have ta : a.time = s.time ∧ a.charter = s.charter := by rw [← ha]; simp
  have r : a.atRest l .returnValve .closed = s.atRest l .returnValve .closed :=
    s.atRest_congr a l _ _ (s.sameSettings_of_nodes a n) fun m _ => Device.node_congr a s m n
  have e : s.primeFromHeld l = if s.atRest l .returnValve .closed then a.primeClaim l
      else a.claimValve l .returnValve .closed .sequence := by
    unfold Device.primeFromHeld; dsimp only; rw [ha, r]
  have k : ∀ t, a.carries s t t l := fun t => a.carries_nodes s t t l ta.1.symm n.symm rfl
  rw [e]
  by_cases h : s.atRest l .returnValve .closed = true
  · rw [if_pos h, if_pos h]
    have x := a.primeClaim_primed l
    exact ⟨x.2.2.1.trans la.1, x.2.1.trans la.2.1, a.primeClaimed_of s _ _ l x.1 ta.2.symm (k _) rfl rfl rfl⟩
  · rw [if_neg h, if_neg h]
    exact ⟨by simp [la], by simp [la], by simp [la],
      a.moveClaimed_of s _ _ l _ _ _ (a.claimValve_claimed l .returnValve .closed .sequence) (k _)⟩

/-- Where a clearing event takes a HELD line that the cause holds. -/
theorem Device.clearHold_cleared (s : Device) (l : Line) (c : HoldCause) (h : (s.line l).state = .held)
    (hc : (s.line l).hold.has c = true) : s.holdCleared (s.clearHold l c) l c := by
  unfold Device.holdCleared Device.clearHold
  dsimp only
  rw [if_pos ⟨h, hc⟩]
  by_cases he : ((s.line l).hold.put c false).isEmpty = true
  · rw [if_pos he, if_pos he]
    generalize ha : s.setLine l { s.line l with hold := (s.line l).hold.put c false } = a
    have na : a.nodes = s.nodes := by rw [← ha]; simp
    have ta : a.time = s.time ∧ a.charter = s.charter := by rw [← ha]; simp
    have x := a.primeFromHeld_taken l
    have k := a.carries_nodes s (a.primeFromHeld l) _ l ta.1.symm na.symm rfl
    rw [s.atRest_congr a l _ _ (s.sameSettings_of_nodes a na) fun n _ => Device.node_congr a s n na] at x
    refine ⟨x.1.trans (by rw [← ha]; simp), x.2.1, ?_⟩
    have x := x.2.2
    split at x
    · next r => rw [if_pos r]; exact a.primeClaimed_of s _ _ l x ta.2.symm k rfl rfl rfl
    · next r => rw [if_neg r]; exact ⟨x.1, a.moveClaimed_of s _ _ l _ _ _ x.2 k⟩
  · rw [if_neg he]; simp [he, h]

/-! ## What these read and leave

Each predicate reads, of the device before, the time, the charter and the line's own nodes, and of the device after the
line's own items: it stands through whatever else the event does. -/

theorem Device.stopTaken_of (s d t u : Device) (l : Line) (c : Cause) (b : Bool) (h : s.stopTaken t l c b)
    (hd : d.time = s.time ∧ d.charter = s.charter ∧ (d.governor l).allowed = (s.governor l).allowed)
    (ha : s.agree d l) (hl : u.line l = t.line l) (hg : (u.governor l).allowed = (t.governor l).allowed)
    (hh : u.hose l = t.hose l) (hk : ∀ k, t.tankHas k (fun e => decide (e.assigned = some l)) = false →
      u.tankHas k (fun e => decide (e.assigned = some l)) = false)
    (hn : ∀ n, (s.node n).line = some l → (t.node n).sameClaims (u.node n)) : d.stopTaken u l c b := by
  have cs := s.agree_carries d t u l ha hd.1 hn
  have x := fun h => s.closingTaken_of d t u l (some c) h (fun r => s.agree_closes d l r ha) cs hl hh hk
  have y := fun h => s.moveClaimed_of d t u l .strip .opened .sequence h cs
  unfold Device.stopTaken at *
  simp only [Device.secondsOn, Device.limits, hd, s.agree_pump d l ha, hl, hg] at h ⊢
  refine ⟨h.1, ?_⟩
  have h := h.2
  repeat' split at h
  all_goals simp_all

theorem Device.lineupStopped_of (s d t u : Device) (l : Line) (c : Cause) (h : s.lineupStopped t l c)
    (hd : d.time = s.time) (ha : s.agree d l) (hl : u.line l = t.line l) (hh : u.hose l = t.hose l)
    (hk : ∀ k, t.tankHas k (fun e => decide (e.assigned = some l)) = false →
      u.tankHas k (fun e => decide (e.assigned = some l)) = false)
    (hn : ∀ n, (s.node n).line = some l → (u.node n).inFlight = (t.node n).inFlight ∧
      (u.node n).queued = (t.node n).queued ∧ (d.node n).inFlight = (s.node n).inFlight ∧
      (d.node n).queued = (s.node n).queued) : d.lineupStopped u l c := by
  have w := s.agree_withdraw d l ha
  have wq : ∀ nd : Node, nd.withdrawn.queued = nd.queued.filter (fun q => decide (q.origin ≠ .sequence)) := by
    intro nd; unfold Node.withdrawn
    cases hq : nd.queued with
    | none => exact hq
    | some q => by_cases ho : q.origin = .sequence <;> simp [Option.filter, ho, hq]
  unfold Device.lineupStopped at *
  rw [s.agree_flying d l ha]
  by_cases hv : s.valveInFlight l = true
  · rw [if_pos hv] at h ⊢
    simp only [hl, hd]
    refine ⟨h.1, h.2.1, h.2.2.1, h.2.2.2.1, h.2.2.2.2.1, h.2.2.2.2.2.1, fun m hm => ?_⟩
    have hs : (s.node m).line = some l := by rw [← (ha.1 m).2.1]; exact hm
    obtain ⟨n1, n2, n3, n4⟩ := hn m hs
    have x := h.2.2.2.2.2.2 m hs
    rw [s.withdrawLine_node, if_pos hs, wq] at x
    rw [d.withdrawLine_node, if_pos hm, wq, n1, n2, n3, n4]
    exact x
  · rw [if_neg hv] at h ⊢
    have te : (d.withdrawLine l).time = (s.withdrawLine l).time := by simp [hd]
    have ln : ∀ n, ((s.withdrawLine l).node n).line = (s.node n).line := fun n => by
      rw [s.withdrawLine_node]; split <;> simp [Node.withdrawn_reads]
    generalize s.withdrawLine l = a at h w te ln
    generalize d.withdrawLine l = e at w te ⊢
    exact a.closingTaken_of e t u l (some c) h (fun r => a.agree_closes e l r w)
      (a.agree_carries e t u l w te fun n hm =>
        ⟨(hn n (ln n ▸ hm)).1, (hn n (ln n ▸ hm)).2.1⟩) hl hh hk

/-! ## The nodes of other lines -/

theorem Device.closeValve_off (s : Device) (l : Line) (r : Role) (n : NodeNo) (h : (s.node n).line ≠ some l) :
    (s.closeValve l r).node n = s.node n := by
  unfold Device.closeValve
  split
  · rfl
  · have x := s.claimValve_off l r .closed .sequence n h
    simpa using x

theorem Device.closeValves_off (s : Device) (l : Line) (n : NodeNo) (h : (s.node n).line ≠ some l) :
    (s.closeValves l).node n = s.node n := by
  generalize ha : (s.setStep l .valvesClosing).setSequenceMemory l .reset = a
  have na : a.node n = s.node n := Device.node_congr _ _ n (by rw [← ha]; simp)
  have n1 : (a.closeValve l .discharge).node n = s.node n := (a.closeValve_off l .discharge n (na ▸ h)).trans na
  have n2 := ((a.closeValve l .discharge).closeValve_off l .returnValve n (n1 ▸ h)).trans n1
  have n3 := (((a.closeValve l .discharge).closeValve l .returnValve).closeValve_off l .strip n (n2 ▸ h)).trans n2
  unfold Device.closeValves; dsimp only; rw [ha]
  split
  · rw [Device.enterFree_node, n3]
  · exact n3

theorem Device.closeManifold_off (s : Device) (l : Line) (n : NodeNo) (h : (s.node n).line ≠ some l) :
    (s.closeManifold l).node n = s.node n := by
  generalize ha : s.setStep l .manifoldClosing = a
  have na : a.node n = s.node n := Device.node_congr _ _ n (by rw [← ha]; simp)
  have nc := (a.claimValve_off l .manifold .closed .sequence n (na ▸ h)).trans na
  unfold Device.closeManifold; dsimp only; rw [ha]
  repeat' split
  · rw [Device.closeValves_off _ l n (na ▸ h), na]
  · rw [Device.closeValves_off _ l n (nc ▸ h), nc]
  · exact nc

/-- A stop trigger leaves the nodes of other lines. -/
theorem Device.stopTrigger_off (s : Device) (l : Line) (c : Cause) (b : Bool) (n : NodeNo)
    (h : (s.node n).line ≠ some l) : (s.stopTrigger l c b).node n = s.node n := by
  have enter : ∀ (d : Device) (st : LineState) (p : Step) (k : ReportCause), st ≠ .held →
      (d.enterState l st p k).node n = d.node n := fun d st p k hne =>
    Device.node_congr _ _ n (d.enterState_nodes l st p k hne).1
  have close : ∀ d : Device, d.node n = s.node n → (d.enterClosing l).node n = s.node n := by
    intro d hd
    have e := (enter d .closing .manifoldClosing .none (by decide)).trans hd
    exact (Device.closeManifold_off _ l n (e ▸ h)).trans e
  have strip : ∀ d : Device, d.node n = s.node n → (d.enterStripping l).node n = s.node n := by
    intro d hd
    have e := (enter d .stripping .strip .none (by decide)).trans hd
    have x := ((d.enterState l .stripping .strip .none).claimValve_off l .strip .opened .sequence n (e ▸ h)).trans e
    unfold Device.enterStripping Device.setDeadline; simpa using x
  unfold Device.stopTrigger; dsimp only
  split
  · unfold Device.closeFromLineup; dsimp only
    generalize ha : ((s.setLine l ((s.line l).stopped c false)).setSequenceMemory l .reset).enterState l .closing .holdOff
      (.line c) = a
    have na : a.node n = s.node n := by rw [← ha, enter _ _ _ _ (by decide)]; exact Device.node_congr _ _ n (by simp)
    have nw := (a.withdrawLine_off l n (na ▸ h)).trans na
    generalize a.withdrawLine l = d at nw ⊢
    split
    · exact nw
    · exact (d.closeManifold_off l n (nw ▸ h)).trans nw
  · split
    · unfold Device.enterStopping; dsimp only
      generalize ha : (s.setLine l ((s.line l).stopped c b)).enterState l .stopping .ramp (.line c) = a
      have na : a.node n = s.node n := by
        rw [← ha, enter _ _ _ _ (by decide)]; exact Device.node_congr _ _ n (by simp)
      split
      · unfold Device.enterPumpStopping; dsimp only
        generalize hd : (a.setStep l .pumpStopping).setDeadline l (a.secondsOn (a.limits l).pumpStop) = d
        have nd : d.node n = s.node n :=
          (Device.node_congr _ _ n (by rw [← hd]; simp [Device.setStep, Device.setDeadline])).trans na
        split
        · unfold Device.leaveStopping; split
          · exact strip d nd
          · exact close d nd
        · exact nd
      · exact na
    · rfl

/-! ## The tanks -/

theorem Device.closeValves_tank (s : Device) (l : Line) (k : TankNo) :
    (s.closeValves l).tank k = s.tank k ∨ (s.closeValves l).tank k = (s.tank k).map (Tank.releasedFrom l) := by
  unfold Device.closeValves; dsimp only; split
  · right; rw [Device.enterFree_tank]; simp [Device.setStep]
  · left; simp [Device.setStep]

theorem Device.closeManifold_tank (s : Device) (l : Line) (k : TankNo) :
    (s.closeManifold l).tank k = s.tank k ∨ (s.closeManifold l).tank k = (s.tank k).map (Tank.releasedFrom l) := by
  have h : ∀ d : Device, d.tank k = s.tank k →
      (d.closeValves l).tank k = s.tank k ∨ (d.closeValves l).tank k = (s.tank k).map (Tank.releasedFrom l) :=
    fun d hd => hd ▸ d.closeValves_tank l k
  unfold Device.closeManifold; dsimp only
  repeat' split
  · exact h _ (by simp [Device.setStep])
  · exact h _ (by simp [Device.setStep])
  · left; simp [Device.setStep]

/-- A stop trigger leaves every tank, or releases those of the line (R28, R66). -/
theorem Device.stopTrigger_tank (s : Device) (l : Line) (c : Cause) (b : Bool) (k : TankNo) :
    (s.stopTrigger l c b).tank k = s.tank k ∨
    (s.stopTrigger l c b).tank k = (s.tank k).map (Tank.releasedFrom l) := by
  have h : ∀ d : Device, d.tank k = s.tank k →
      (d.closeManifold l).tank k = s.tank k ∨ (d.closeManifold l).tank k = (s.tank k).map (Tank.releasedFrom l) :=
    fun d hd => hd ▸ d.closeManifold_tank l k
  have leave : ∀ d : Device, d.tank k = s.tank k → (d.leaveStopping l).tank k = s.tank k ∨
      (d.leaveStopping l).tank k = (s.tank k).map (Tank.releasedFrom l) := by
    intro d hd
    unfold Device.leaveStopping; split
    · left; unfold Device.enterStripping Device.setDeadline; simp [hd]
    · exact h _ (by simp [hd])
  unfold Device.stopTrigger; dsimp only
  split
  · unfold Device.closeFromLineup; dsimp only; split
    · left; simp
    · exact h _ (by simp)
  · split
    · unfold Device.enterStopping; dsimp only; split
      · unfold Device.enterPumpStopping; dsimp only; split
        · exact leave _ (by simp [Device.setStep, Device.setDeadline])
        · left; simp [Device.setStep, Device.setDeadline]
      · left; simp
    · left; rfl

/-- A stop trigger leaves what of a tank no release sets, and whether it is assigned to another line. -/
theorem Device.stopTrigger_stills (s : Device) (l : Line) (c : Cause) (b : Bool) :
    (s.stopTrigger l c b).tankStills = s.tankStills := by
  funext k
  unfold Device.tankStills
  rcases s.stopTrigger_tank l c b k with h | h <;> rw [h]
  cases s.tank k with
  | none => rfl
  | some e => simp [Tank.releasedFrom_still]

theorem Device.stopTrigger_assigned (s : Device) (l m : Line) (c : Cause) (b : Bool) (k : TankNo) (hm : m ≠ l) :
    (s.stopTrigger l c b).tankHas k (fun e => decide (e.assigned = some m)) =
      s.tankHas k (fun e => decide (e.assigned = some m)) := by
  unfold Device.tankHas
  rcases s.stopTrigger_tank l c b k with h | h <;> rw [h]
  cases s.tank k with
  | none => rfl
  | some e => simp [Tank.releasedFrom_assigned, hm]

/-! ## One line after another (R27, R145) -/

/-- Two devices have the same time and charter, and the same items of a line. -/
def Device.sameFor (s t : Device) (l : Line) : Prop :=
  t.time = s.time ∧ t.charter = s.charter ∧ s.sameSettings t ∧ (∀ n, (s.node n).line = some l → t.node n = s.node n) ∧
  t.line l = s.line l ∧ t.governor l = s.governor l ∧ t.hose l = s.hose l ∧ t.topOff l = s.topOff l ∧
  ∀ k, t.tankHas k (fun e => decide (e.assigned = some l)) = s.tankHas k (fun e => decide (e.assigned = some l))

theorem Device.sameFor_refl (s : Device) (l : Line) : s.sameFor s l :=
  ⟨rfl, rfl, fun _ => ⟨rfl, rfl, rfl⟩, fun _ _ => rfl, rfl, rfl, rfl, rfl, fun _ => rfl⟩

theorem Device.sameFor_trans (s t u : Device) (l : Line) (h : s.sameFor t l) (k : t.sameFor u l) : s.sameFor u l := by
  obtain ⟨h1, h2, h3, h4, h5, h6, h7, h8, h9⟩ := h
  obtain ⟨k1, k2, k3, k4, k5, k6, k7, k8, k9⟩ := k
  refine ⟨k1.trans h1, k2.trans h2, fun n => ?_, fun n hn => ?_, k5.trans h5, k6.trans h6, k7.trans h7, k8.trans h8,
    fun j => (k9 j).trans (h9 j)⟩
  · exact ⟨(k3 n).1.trans (h3 n).1, (k3 n).2.1.trans (h3 n).2.1, (k3 n).2.2.trans (h3 n).2.2⟩
  · exact (k4 n ((h3 n).2.1.trans hn)).trans (h4 n hn)

theorem Device.sameFor_agree (s t : Device) (l : Line) (h : s.sameFor t l) : s.agree t l :=
  ⟨h.2.2.1, fun n hl _ => by rw [h.2.2.2.1 n hl]; exact ⟨rfl, rfl, rfl⟩⟩

theorem Device.stopTrigger_sameFor (s : Device) (l m : Line) (c : Cause) (b : Bool) (h : m ≠ l) :
    s.sameFor (s.stopTrigger l c b) m := by
  have o := s.stopTrigger_other l c b m h
  refine ⟨by simp, by simp, s.sameSettings_of_stills _ (by simp), fun n hn => s.stopTrigger_off l c b n ?_, o.1, o.2.1,
    o.2.2.1, o.2.2.2.1, fun k => s.stopTrigger_assigned l m c b k h⟩
  rw [hn]; exact fun e => h (Option.some.inj e)

theorem Device.enterClosing_sameFor (s : Device) (l m : Line) (h : m ≠ l) : s.sameFor (s.enterClosing l) m := by
  have e := (s.enterState_nodes l .closing .manifoldClosing .none (by decide)).1
  generalize ha : s.enterState l .closing .manifoldClosing .none = a at e
  have hc : s.enterClosing l = a.closeManifold l := by unfold Device.enterClosing; rw [ha]
  have o := s.enterClosing_other l m h
  refine ⟨by simp, by simp, s.sameSettings_of_stills _ (by simp), fun n hn => ?_, o.1, o.2.1, o.2.2.1,
    o.2.2.2.1, fun k => ?_⟩
  · have b := Device.node_congr a s n e
    rw [hc, a.closeManifold_off l n (by rw [b, hn]; exact fun q => h (Option.some.inj q)), b]
  · have t : a.tank k = s.tank k := by rw [← ha]; simp
    unfold Device.tankHas
    rcases a.closeManifold_tank l k with q | q <;> rw [hc, q, t]
    cases s.tank k with
    | none => rfl
    | some e => simp [Tank.releasedFrom_assigned, h]

/-- An operation taken line by line that leaves every other line acts on each line as it found it. -/
theorem Device.forLines_at (s : Device) (f : Line → Device → Device)
    (hf : ∀ (l : Line) (d : Device) (m : Line), m ≠ l → d.sameFor (f l d) m) (m : Line) :
    ∃ d : Device, s.sameFor d m ∧ (f m d).sameFor (s.forLines f) m := by
  unfold Device.forLines
  cases m
  · exact ⟨s, s.sameFor_refl _, Device.sameFor_trans _ _ _ _ (hf .l2 _ _ (by decide)) (hf .l3 _ _ (by decide))⟩
  · exact ⟨f .l1 s, hf .l1 _ _ (by decide), hf .l3 _ _ (by decide)⟩
  · exact ⟨f .l2 (f .l1 s), Device.sameFor_trans _ _ _ _ (hf .l1 _ _ (by decide)) (hf .l2 _ _ (by decide)),
      Device.sameFor_refl _ _⟩

/-- Where TRIP_RESET takes each TRIPPED line (R26, R98). -/
theorem Device.closeTripped_taken (s : Device) (l : Line) (h : (s.line l).state = .tripped) :
    s.closingTaken s.closeTripped l (s.line l).stopCause := by
  obtain ⟨d, hd, hu⟩ := s.forLines_at (fun l s => if (s.line l).state = .tripped then s.enterClosing l else s)
    (fun l d m hm => by
      split
      · exact d.enterClosing_sameFor l m hm
      · exact d.sameFor_refl m) l
  change Device.sameFor _ s.closeTripped l at hu
  have hl := hd.2.2.2.2.1
  rw [hl, if_pos h] at hu
  have x := d.enterClosing_taken l
  rw [hl] at x
  have ag := s.sameFor_agree d l hd
  have ag' := Device.agree_symm _ _ l ag
  refine d.closingTaken_of s _ s.closeTripped l _ x (fun r => d.agree_closes s l r ag')
    (d.agree_carries s _ _ l ag' hd.1.symm fun n hn => ?_) hu.2.2.2.2.1 hu.2.2.2.2.2.2.1 fun k hk => ?_
  · rw [hu.2.2.2.1 n (by rw [((d.sameSettings_of_stills _ (by simp)) n).2.1]; exact hn)]; exact ⟨rfl, rfl⟩
  · rw [hu.2.2.2.2.2.2.2.2 k]; exact hk

/-- Where the stop of every active line takes each line (R27, R145). -/
theorem Device.stopActive_taken (s : Device) (c : Cause) (l : Line) :
    ((s.line l).state.running = true → s.stopTaken (s.stopActive c) l c false) ∧
    ((s.line l).state = .lineup → s.lineupStopped (s.stopActive c) l c) ∧
    ((s.line l).state.active = false → s.sameFor (s.stopActive c) l) := by
  obtain ⟨d, hd, hu⟩ := s.forLines_at (fun l s => if (s.line l).state.active then s.stopTrigger l c false else s)
    (fun l d m h => by
      split
      · exact d.stopTrigger_sameFor l m c false h
      · exact d.sameFor_refl m) l
  have hs : (d.line l).state = (s.line l).state := by rw [hd.2.2.2.2.1]
  have ag := d.sameFor_agree
  have back : d.sameFor s l := by
    obtain ⟨h1, h2, h3, h4, h5, h6, h7, h8, h9⟩ := hd
    refine ⟨h1.symm, h2.symm, fun n => ?_, fun n hn => ?_, h5.symm, h6.symm, h7.symm, h8.symm, fun k => (h9 k).symm⟩
    · exact ⟨(h3 n).1.symm, (h3 n).2.1.symm, (h3 n).2.2.symm⟩
    · exact (h4 n (by rw [← (h3 n).2.1]; exact hn)).symm
  change Device.sameFor _ (s.stopActive c) l at hu
  generalize s.stopActive c = u at hu ⊢
  have keep : ∀ t : Device, t.sameFor u l → ∀ k, t.tankHas k (fun e => decide (e.assigned = some l)) = false →
      u.tankHas k (fun e => decide (e.assigned = some l)) = false := fun t ht k hk => by
    rw [ht.2.2.2.2.2.2.2.2 k]; exact hk
  refine ⟨fun h => ?_, fun h => ?_, fun h => ?_⟩
  · have ha : (d.line l).state.active = true := by
      rw [hs]; revert h; cases (s.line l).state <;> simp [LineState.running, LineState.active]
    rw [if_pos ha] at hu
    exact Device.stopTaken_of d s _ u l c false (d.stopTrigger_taken l c false (by rw [hs]; exact h))
      ⟨back.1, back.2.1, by rw [back.2.2.2.2.2.1]⟩ (ag s l back) hu.2.2.2.2.1 (by rw [hu.2.2.2.2.2.1])
      hu.2.2.2.2.2.2.1 (keep _ hu) fun n hn => by
        rw [hu.2.2.2.1 n (by rw [((d.sameSettings_of_stills _ (by simp)) n).2.1]; exact hn)]; exact ⟨rfl, rfl⟩
  · have ha : (d.line l).state.active = true := by rw [hs, h]; rfl
    rw [if_pos ha] at hu
    refine Device.lineupStopped_of d s _ u l c (d.stopTrigger_lineup l c false (by rw [hs]; exact h)) back.1 (ag s l back)
      hu.2.2.2.2.1 hu.2.2.2.2.2.2.1 (keep _ hu) fun n hn => ?_
    have ht : ((d.stopTrigger l c false).node n).line = some l := by
      rw [((d.sameSettings_of_stills _ (by simp)) n).2.1]; exact hn
    rw [hu.2.2.2.1 n ht, back.2.2.2.1 n hn]
    exact ⟨rfl, rfl, rfl, rfl⟩
  · rw [if_neg (by rw [hs, h]; decide)] at hu
    exact Device.sameFor_trans _ _ _ _ hd hu

/-- What of the tanks the stop of every active line leaves (R66). -/
theorem Device.stopActive_tanks (s : Device) (c : Cause) :
    (s.stopActive c).tankStills = s.tankStills ∧
    ∀ k e, s.tank k = some e → (∀ l, e.assigned = some l → (s.line l).state.active = false) →
      (s.stopActive c).tank k = some e := by
  have one : ∀ (l : Line) (d : Device),
      (if (d.line l).state.active then d.stopTrigger l c false else d).tankStills = d.tankStills := by
    intro l d; split
    · exact d.stopTrigger_stills l c false
    · rfl
  refine ⟨by unfold Device.stopActive Device.forLines; rw [one, one, one], fun k e hk he => ?_⟩
  have each : ∀ (l : Line) (d : Device), d.tank k = some e → (d.line l).state = (s.line l).state →
      (if (d.line l).state.active then d.stopTrigger l c false else d).tank k = some e := by
    intro l d hd hl
    split
    · next ha =>
      rcases d.stopTrigger_tank l c false k with h | h
      · rw [h, hd]
      · rw [h, hd, Option.map_some, Tank.releasedFrom, if_neg]
        intro hs; have := he l hs; rw [← hl, ha] at this; cases this
    · exact hd
  have off : ∀ (l m : Line) (d : Device), m ≠ l →
      ((if (d.line l).state.active then d.stopTrigger l c false else d).line m).state = (d.line m).state := by
    intro l m d h; split
    · rw [(d.stopTrigger_other l c false m h).1]
    · rfl
  unfold Device.stopActive Device.forLines
  refine each .l3 _ (each .l2 _ (each .l1 _ hk rfl) ?_) ?_
  · exact off .l1 .l2 s (by decide)
  · rw [off .l2 .l3 _ (by decide)]; exact off .l1 .l3 s (by decide)

/-- What every event ends with changes nothing of a line's own items, its nodes, or which tanks it has. -/
theorem Device.finish_sameFor (s : Device) (l : Line) : s.sameFor s.finish l := by
  refine ⟨by simp, by simp, s.sameSettings_of_nodes _ (by simp), fun n _ => by simp, by simp, by simp, by simp, by simp,
    fun k => ?_⟩
  unfold Device.tankHas; simp

end Sys2Proof.Machine
end

