-- ==== Sys2Proof/Laws/Link.lean ====
section
/-! SUPPORT. What reaches the ship link from the lines and tanks (R3, R57, R146, R147): the link after a handing, and the
operations that hand it a LINE_STOPPING once, or nothing. -/

namespace Sys2Proof.Machine

open Sys2Proof

/-! ## A handing -/

/-- The link with a queue handed to it: a free transmitter in WATCH begins the oldest entry that may leave, and a due
BARGE_STATUS B when none may (R146). -/
def Link.handing (k : Link) (mode : Mode) (barge : List Byte) (q : List SendEntry) : Link :=
  if mode ≠ .watch ∨ k.sending.isSome = true then { k with queue := q }
  else match takeLeaving k.state q with
    | some (e, rest) => { k with queue := rest, sending := some e.frame }
    | none =>
      if k.statusDue then { k with queue := q, statusDue := false, sending := some barge } else { k with queue := q }

/-- The link after a LINE_STOPPING is handed (R147). -/
def Link.stopping (k : Link) (mode : Mode) (l : Line) (c : Cause) : Link :=
  k.handing mode [] (putStopping l c k.queue)

theorem putStopping_leaves (k : LinkState) (l : Line) (c : Cause) (q : List SendEntry) :
    ∃ e rest, takeLeaving k (putStopping l c q) = some (e, rest) := by
  induction q with
  | nil => exact ⟨_, _, rfl⟩
  | cons e q ih =>
    obtain ⟨x, rest, hx⟩ := ih
    cases e with
    | stopping m d =>
      unfold putStopping; split
      · exact ⟨_, _, rfl⟩
      · exact ⟨_, _, rfl⟩
    | advice t v =>
      by_cases h : (SendEntry.advice t v).mayLeave k = true
      · exact ⟨.advice t v, putStopping l c q, by simp [putStopping, takeLeaving, h]⟩
      · exact ⟨x, .advice t v :: rest, by simp [putStopping, takeLeaving, h, hx]⟩

/-- A handing to a link whose transmitter is busy only takes the queue. -/
theorem Link.handing_busy (k : Link) (m : Mode) (b : List Byte) (q : List SendEntry) (h : k.sending.isSome = true) :
    k.handing m b q = { k with queue := q } := by
  unfold Link.handing; rw [if_pos (Or.inr h)]

/-- What an item handed to the ship link leaves there (R146). -/
theorem Device.transmit_link (s : Device) (q : List SendEntry) :
    ((s.setLink { s.link with queue := q }).transmit).link = s.link.handing s.charter.mode s.bargeStatus q := by
  unfold Device.transmit Link.handing
  by_cases h : s.charter.mode ≠ .watch ∨ s.link.sending.isSome = true
  · rw [if_pos h, if_pos (by simpa using h)]; rfl
  · rw [if_neg h, if_neg (by simpa using h)]
    simp only [Device.setLink_link]
    cases takeLeaving s.link.state q with
    | none =>
      show Device.link (if s.link.statusDue = true then _ else _) = if s.link.statusDue = true then _ else _
      split <;> rfl
    | some x => rfl

/-- Advice handed for a tank (R57, R147). -/
theorem Device.sendAdvice_link (s : Device) (t : TankNo) (v : Advice) :
    (s.sendAdvice t v).link = s.link.handing s.charter.mode s.bargeStatus (putAdvice t v s.link.queue) :=
  s.transmit_link _

/-- A LINE_STOPPING handed for a line with a stop cause. -/
theorem Device.sendStopping_link (s : Device) (l : Line) (c : Cause) (h : (s.line l).stopCause = some c) :
    (s.sendStopping l).link = s.link.stopping s.charter.mode l c := by
  obtain ⟨e, rest, hx⟩ := putStopping_leaves s.link.state l c s.link.queue
  unfold Device.sendStopping; rw [h]
  refine (s.transmit_link _).trans ?_
  unfold Link.stopping Link.handing; rw [hx]

/-- A change of state that sends no LINE_STOPPING frame keeps the link (R3). -/
theorem Device.enterState_link (s : Device) (l : Line) (st : LineState) (p : Step) (c : ReportCause)
    (h : sendsStopping (s.line l).state st = false) : (s.enterState l st p c).link = s.link := by
  unfold Device.enterState; dsimp only; rw [if_neg (by simp [h])]; simp

/-- A change of state that sends one hands the line's stop cause (R3). -/
theorem Device.enterState_stopping (s : Device) (l : Line) (st : LineState) (p : Step) (c : ReportCause) (k : Cause)
    (h : sendsStopping (s.line l).state st = true) (hk : (s.line l).stopCause = some k) :
    (s.enterState l st p c).link = s.link.stopping s.charter.mode l k := by
  unfold Device.enterState; dsimp only; rw [if_pos h]
  simp only [Device.recompute_keeps, Device.setHose_keeps, Device.governorEnters_keeps]
  rw [Device.sendStopping_link _ l k (by simp [hk])]; simp

/-! ## Operations of a line that hand nothing -/

theorem Device.primeClaim_link (s : Device) (l : Line) : (s.primeClaim l).link = s.link := by
  unfold Device.primeClaim Device.primeSpeed; simp

theorem Device.primeFromLineup_link (s : Device) (l : Line) : (s.primeFromLineup l).link = s.link := by
  unfold Device.primeFromLineup
  rw [Device.primeClaim_link, Device.enterState_link _ _ _ _ _ (by rfl)]

theorem Device.primeFromHeld_link (s : Device) (l : Line) : (s.primeFromHeld l).link = s.link := by
  unfold Device.primeFromHeld; dsimp only
  split
  · rw [Device.primeClaim_link, Device.enterState_link _ _ _ _ _ (by rfl)]
  · simp only [Device.claimValve_keeps]; exact Device.enterState_link _ _ _ _ _ (by rfl)

theorem Device.holdTrigger_link (s : Device) (l : Line) (c : HoldCause) : (s.holdTrigger l c).link = s.link := by
  unfold Device.holdTrigger; dsimp only
  split
  · unfold Device.enterHeld; simp only [Device.claimValve_keeps, Device.setDeadline_keeps]
    rw [Device.enterState_link _ _ _ _ _ (by rfl)]; simp
  · split <;> simp

theorem Device.clearHold_link (s : Device) (l : Line) (c : HoldCause) : (s.clearHold l c).link = s.link := by
  unfold Device.clearHold; dsimp only
  split
  · split
    · rw [Device.primeFromHeld_link]; simp
    · simp
  · rfl

theorem Device.startTest_link (s : Device) (l : Line) : (s.startTest l).link = s.link := by
  unfold Device.startTest; split
  · exact s.primeFromLineup_link l
  · rfl

theorem Device.handTopping_link (s : Device) (l : Line) : (s.handTopping l).link = s.link := by
  unfold Device.handTopping; dsimp only
  split
  · split
    · simp
    · rw [Device.enterState_link _ _ _ _ _ (by rfl)]; simp
  · split
    · rw [Device.enterState_link _ _ _ _ _ (by rfl)]; simp
    · simp
  · simp

theorem Device.enterFree_link (s : Device) (l : Line) : (s.enterFree l).link = s.link := by
  unfold Device.enterFree; dsimp only
  simp only [Device.setSequenceMemory_keeps, Device.setLine_keeps, Device.release_keeps, Device.lineSummary_keeps,
    Device.takeBusMode_keeps]
  exact Device.enterState_link _ _ _ _ _ (by rfl)

theorem Device.closeValves_link (s : Device) (l : Line) : (s.closeValves l).link = s.link := by
  unfold Device.closeValves; dsimp only
  split
  · rw [Device.enterFree_link]; simp
  · simp

theorem Device.closeManifold_link (s : Device) (l : Line) : (s.closeManifold l).link = s.link := by
  unfold Device.closeManifold; dsimp only
  split
  · rw [Device.closeValves_link]; simp
  · split
    · rw [Device.closeValves_link]; simp
    · simp

theorem Device.enterClosing_link (s : Device) (l : Line) (h : (s.line l).state ≠ .lineup) :
    (s.enterClosing l).link = s.link := by
  unfold Device.enterClosing
  rw [Device.closeManifold_link, Device.enterState_link _ _ _ _ _ (by simp [sendsStopping, h])]

theorem Device.enterStripping_link (s : Device) (l : Line) : (s.enterStripping l).link = s.link := by
  unfold Device.enterStripping
  simp only [Device.setDeadline_keeps, Device.claimValve_keeps]
  exact Device.enterState_link _ _ _ _ _ (by rfl)

theorem Device.leaveStopping_link (s : Device) (l : Line) (h : (s.line l).state ≠ .lineup) :
    (s.leaveStopping l).link = s.link := by
  unfold Device.leaveStopping; split
  · exact s.enterStripping_link l
  · exact s.enterClosing_link l h

theorem Device.enterPumpStopping_link (s : Device) (l : Line) (h : (s.line l).state ≠ .lineup) :
    (s.enterPumpStopping l).link = s.link := by
  unfold Device.enterPumpStopping; dsimp only
  split
  · rw [Device.leaveStopping_link _ _ (by simpa [Device.setStep, Device.setDeadline] using h)]; simp
  · simp

/-! ## Stop triggers and the latch -/

/-- A stop trigger hands one LINE_STOPPING for a line that it stops, and nothing otherwise (R3, R19). -/
theorem Device.stopTrigger_link (s : Device) (l : Line) (c : Cause) (b : Bool) :
    (s.stopTrigger l c b).link =
      if (s.line l).state.active = true then s.link.stopping s.charter.mode l c else s.link := by
  unfold Device.stopTrigger; dsimp only
  split
  · next h =>
    rw [if_pos (by rw [h]; rfl)]
    have e : (((s.setLine l ((s.line l).stopped c false)).setSequenceMemory l .reset).enterState l .closing .holdOff
        (.line c)).link = s.link.stopping s.charter.mode l c := by
      rw [Device.enterState_stopping _ l _ _ _ c (by simp [LineContext.stopped, h, sendsStopping])
        (by simp [LineContext.stopped])]; simp
    unfold Device.closeFromLineup; dsimp only
    split
    · rw [← e]; simp
    · rw [Device.closeManifold_link, ← e]; simp
  · next h =>
    split
    · next hr =>
      rw [if_pos (by revert hr; cases (s.line l).state <;> simp [LineState.running, LineState.active])]
      have e : ((s.setLine l ((s.line l).stopped c b)).enterState l .stopping .ramp (.line c)).link =
          s.link.stopping s.charter.mode l c := by
        rw [Device.enterState_stopping _ l _ _ _ c (by rfl) (by simp [LineContext.stopped])]; simp
      unfold Device.enterStopping; dsimp only
      split
      · rw [Device.enterPumpStopping_link _ _ (by simp), e]
      · exact e
    · next hr =>
      rw [if_neg]
      revert h hr; cases (s.line l).state <;> simp [LineState.running, LineState.active]

theorem Device.tripLine_link (s : Device) (l : Line) (c : Cause) :
    (s.tripLine l c).link = s.link.stopping s.charter.mode l c := by
  unfold Device.tripLine; dsimp only
  rw [Device.enterState_stopping _ l _ _ _ c (by rfl) (by simp)]; simp

theorem Device.startSequences_link (s : Device) (ls : List Line) : (s.startSequences ls).link = s.link := by
  induction ls generalizing s with
  | nil => rfl
  | cons l ls ih => unfold Device.startSequences; rw [ih]; simp

/-- The setting of the latch hands one LINE_STOPPING for each line that trips, in ascending order (R3, R89). -/
theorem Device.tripLines_link (s : Device) (c : Cause) :
    (s.tripLines c).link = (allLines.filter (fun l => (s.line l).state.trips)).foldl
      (fun k l => k.stopping s.charter.mode l c) s.link := by
  have one : ∀ (l : Line) (d : Device), d.charter = s.charter → (d.line l).state = (s.line l).state →
      (if (d.line l).state.trips then d.tripLine l c else d).link =
        if (s.line l).state.trips = true then d.link.stopping s.charter.mode l c else d.link := by
    intro l d hc hl
    rw [hl]; split
    · rw [Device.tripLine_link, hc]
    · rfl
  have off : ∀ (l m : Line) (d : Device), m ≠ l →
      ((if (d.line l).state.trips then d.tripLine l c else d).line m).state = (d.line m).state ∧
      (if (d.line l).state.trips then d.tripLine l c else d).charter = d.charter := by
    intro l m d h; split
    · exact ⟨by rw [(d.tripLine_other l c m h).1], by simp⟩
    · exact ⟨rfl, rfl⟩
  unfold Device.tripLines Device.forLines
  rw [one .l3, one .l2, one .l1 _ rfl rfl]
  · unfold allLines
    simp only [List.filter_cons, List.filter_nil]
    cases (s.line .l1).state.trips <;> cases (s.line .l2).state.trips <;> cases (s.line .l3).state.trips <;> rfl
  · exact (off .l1 .l2 s (by decide)).2
  · exact (off .l1 .l2 s (by decide)).1
  · rw [(off .l2 .l3 _ (by decide)).2]; exact (off .l1 .l3 s (by decide)).2
  · rw [(off .l2 .l3 _ (by decide)).1]; exact (off .l1 .l3 s (by decide)).1

theorem Device.setLatch_link (s : Device) (c : Cause) (line subject value : Nat) :
    (s.setLatch c line subject value).link = (allLines.filter (fun l => (s.line l).state.trips)).foldl
      (fun k l => k.stopping s.charter.mode l c) s.link := by
  unfold Device.setLatch; dsimp only
  rw [Device.startSequences_link]
  simp only [Device.placeReports_keeps]
  rw [Device.tripLines_link]
  simp

end Sys2Proof.Machine
end

