-- ==== Sys2Proof/Tests/Slice0.lean ====
section
/-! SUPPORT. Tests: the well-formedness checks refuse ill-formed commands, check values of the codes and CRCs, single
steps on small states, and for every statement with hypotheses a state that meets them. -/

-- One theorem after another: elaborated at once, these ask for more threads than a memory limit has room for.
set_option Elab.async false

namespace Sys2Proof.Tests

open Sys2Proof Sys2Proof.Machine

/-! ## Small states -/

def limits : Limits :=
  { peak := 800, floor := 100, start := 200, topOff := 250, prime := 150, lowThreshold := 120, riseStep := 8,
    cutFraction := 2, fallLimit := 16, toppingVolume := 1500, toppingLead := 600, low := 40, stripDone := 60,
    primePressure := 300, reduce := 900, stop := 1200, trip := 1500, primeLimit := 120, lineupLimit := 300,
    pumpStop := 60, stripLimit := 600, holdLimit := 900 }

def general : General :=
  { fittedLines := 1, fittedTanks := 2, governorPeriod := 20, shipSilence := 5, shipLoss := 30, tankSilence := 30,
    tankLost := 120 }

/-- A FRESH node of line 1. -/
def nodeOf (k : NodeKind) (r : Role) : Node :=
  { Node.blank with kind := k, line := some .l1, role := r, travelLimit := 60 }

/-- Nodes 1 to 7: PUMP, PRESSURE, FLOW and the four valves of line 1. -/
def nodes : Vector Node 31 :=
  putAt (putAt (putAt (putAt (putAt (putAt (putAt (Vector.replicate 31 .blank) 0 (nodeOf .pump .discharge))
    1 (nodeOf .pressure .discharge)) 2 (nodeOf .flow .discharge)) 3 (nodeOf .valve .discharge))
    4 (nodeOf .valve .manifold)) 5 (nodeOf .valve .returnValve)) 6 (nodeOf .valve .strip)

/-- A present tank, unassigned, last reported FRESH with its valve OPEN; every expiry is due. -/
def tank : Tank :=
  { capacity := 15000, highMark := 950, overfillMark := 980, grade := 2, closeAllowance := 120, assigned := none,
    state := .filling, freshness := .fresh, volume := some 1000, valve := .opened, alarm := .none, reference := none,
    fillRate := none, timeToHigh := none, advice := .none, closeDeadline := some 0, lastReport := some 0,
    silenceExpiry := some 0, lostExpiry := some 0 }

/-- A device in WATCH with line 1 fitted and FREE, tank 1 present, and the link ACTIVE. -/
def watch : Device :=
  { Device.reset 0 with
    charter := { CharterUnit.reset with mode := .watch, inForce := some ⟨general, .all limits⟩, result := .ok },
    lines := { l1 := { LineContext.reset with fitted := true }, l2 := .reset, l3 := .reset },
    nodes := nodes, tanks := putAt (Vector.replicate 24 none) 0 (some tank),
    link := { Link.reset with state := .active, taking := true, silenceExpiry := some 0, lossExpiry := some 0,
                              statusExpiry := some 0 },
    shutdown := { Shutdown.reset with shipLoop := .healthy, bargeLoop := .healthy },
    reports := { (Device.reset 0).reports with usable := true },
    bus := { Bus.reset with mode := .rest, tail := .short, idleScan := some 0 } }

def at_ (d : Device) : State := { device := d, mem := [], pending := [] }

/-- Line 1 in a state at a step, its deadline and its governor step due, its allowed rate given. -/
def line1 (st : LineState) (step : Step) (allowed : Nat) (d : Device) : Device :=
  { d with
    lines := { d.lines with l1 := { d.lines.l1 with state := st, step := step, deadline := some 0 } },
    governors := { d.governors with l1 := { d.governors.l1 with
      requested := 800, allowed := allowed, expiry := some 0 } } }

def setMode (m : Mode) (d : Device) : Device := { d with charter := { d.charter with mode := m } }

def latched (d : Device) : Device := { d with shutdown := { d.shutdown with latch := true } }

def setBurst (b : Burst) (d : Device) : Device := { d with port := { d.port with burst := some b } }

def setLink (k : LinkState) (d : Device) : Device := { d with link := { d.link with state := k } }

/-- A transaction in flight. -/
def flying (a : Act) (p : Phase) : Transaction :=
  { act := a, origin := .sequence, phase := p, errors := 0, inFlightTime := 0, taken := none, travelExpiry := some 0 }

/-- A node with a transaction in flight. -/
def inFlightAt (n : NodeNo) (t : Transaction) (d : Device) : Device :=
  { d with nodes := putAt d.nodes n { d.node n with inFlight := some t } }

/-- A slot of node N in progress. -/
def inSlot (n : NodeNo) (m : Message) (d : Device) : Device :=
  { d with bus := { d.bus with slot := some ⟨n, m, false⟩ } }

/-- The bytes of a node's answer: address, code, both readings, and the flags. -/
def answerOf (address code : Byte) (a b : Nat) (flags : Byte) : List Byte :=
  let body := [address, code, BitVec.ofNat 8 a, BitVec.ofNat 8 (a / 256), BitVec.ofNat 8 b, BitVec.ofNat 8 (b / 256),
    0#8, 0#8, flags]
  body ++ [checkByte body]

/-- A valve of line 1 OPEN. -/
def openedAt (n : NodeNo) (d : Device) : Device := { d with nodes := putAt d.nodes n { d.node n with valve := .opened } }

/-- A node changed. -/
def onNode (n : NodeNo) (f : Node → Node) (d : Device) : Device := { d with nodes := putAt d.nodes n (f (d.node n)) }

/-- The context of line 1 changed. -/
def onLine1 (f : LineContext → LineContext) (d : Device) : Device :=
  { d with lines := { d.lines with l1 := f d.lines.l1 } }

/-- The hose of line 1 changed. -/
def onHose1 (f : Hose → Hose) (d : Device) : Device := { d with hoses := { d.hoses with l1 := f d.hoses.l1 } }

/-- Tank 1 with its entry changed. -/
def tank1 (f : Tank → Tank) (d : Device) : Device := { d with tanks := putAt d.tanks 0 (some (f tank)) }

/-! ## Well-formedness -/

def goodStatus : List Byte :=
  sealFrame [0x01#8, 1#8, 255#8, 255#8, 255#8, 255#8, 1#8, 255#8, 255#8, 255#8, 255#8, 1#8, 255#8, 255#8, 255#8, 255#8]

def goodReport : List Byte := sealFrame [0x02#8, 1#8, 0x10#8, 0#8, 1#8, 0#8]

theorem test_wf_access : (Instr.upstreamGrant ⟨2, false, 15, 0⟩).wellFormed = false := by decide
theorem test_wf_status_crc : (Instr.shipStatus (goodStatus.set 4 0#8)).wellFormed = false := by decide +kernel
theorem test_wf_status_kind : (Instr.shipStatus goodReport).wellFormed = false := by decide +kernel
theorem test_wf_status_lead : (Instr.shipStatus (goodStatus.set 0 0#8)).wellFormed = false := by decide +kernel
theorem test_wf_report_short : (Instr.tankReport (goodReport.take 8)).wellFormed = false := by decide +kernel
theorem test_wf_report_kind : (Instr.tankReport goodStatus).wellFormed = false := by decide +kernel
theorem test_wf_discarded_valid : (Instr.frameDiscarded goodReport).wellFormed = false := by decide +kernel
theorem test_wf_discarded_partial : (Instr.frameDiscarded (goodReport.take 3)).wellFormed = false := by decide +kernel
theorem test_wf_incomplete_whole : (Instr.frameIncomplete goodReport).wellFormed = false := by decide +kernel
theorem test_wf_incomplete_empty : (Instr.frameIncomplete []).wellFormed = false := by decide

theorem test_wf_accepts :
    (Instr.shipStatus goodStatus).wellFormed = true ∧ (Instr.tankReport goodReport).wellFormed = true ∧
    (Instr.frameDiscarded (goodReport.set 3 0#8)).wellFormed = true ∧
    (Instr.frameDiscarded [0x7E#8, 9#8]).wellFormed = true ∧
    (Instr.frameIncomplete (goodReport.take 8)).wellFormed = true := by decide +kernel

/-! ## Codes, CRCs and words written out from the layouts -/

theorem test_crc16 : crc16 [0x31#8, 0x32#8, 0x33#8, 0x34#8, 0x35#8, 0x36#8, 0x37#8, 0x38#8, 0x39#8] = 0x29B1#16 := by
  decide +kernel

theorem test_crc32 :
    ~~~(crc32Bytes 0xFFFFFFFF#32 [0x31#8, 0x32#8, 0x33#8, 0x34#8, 0x35#8, 0x36#8, 0x37#8, 0x38#8, 0x39#8])
      = 0xCBF43926#32 := by decide +kernel

theorem test_status_frame : decodeShipFrame goodStatus =
    some (.status (.all ⟨.go, .unlimited, none⟩)) := by decide +kernel

theorem test_tank_frame : decodeShipFrame goodReport = some (.tank ⟨0, 4096, .opened, .none⟩) := by decide +kernel

theorem test_check_byte : checkByte [3#8, 16#8, 1#8] = 236#8 := by decide

/-! ## Single steps -/

/-- The state a command answers. -/
def after (c : Instr) (s : State) : State :=
  match exec c s with
  | .next t => t
  | .fault _ => s
  | .refused _ => s

theorem test_hold : ((after (.hold .l1 0) (at_ (line1 .delivering .none 300 watch))).device.line .l1).state = .held := by
  decide +kernel

theorem test_hold_word :
    (after (.hold .l1 0) (at_ (line1 .delivering .none 300 watch))).mem.readWord 0x1100 = requestWordOf 2#8 0 .pending := by
  decide +kernel

theorem test_stop : ((after (.stop .l1 1) (at_ (line1 .delivering .none 300 watch))).device.line .l1).stripFlag = true := by
  decide +kernel

theorem test_trip : (after (.trip 0) (at_ (line1 .delivering .none 300 watch))).device.shutdown.sequence.l1 = .esdPumpStop := by
  decide +kernel

theorem test_trip_claims :
    ((after (.trip 0) (at_ (line1 .delivering .none 300 watch))).device.node 0).inFlight =
      some ⟨.speed 0, .esd, .send, 0, 0, none, none⟩ := by decide +kernel

theorem test_hold_claims :
    let t := (after (.hold .l1 0) (at_ (line1 .delivering .none 300 watch))).device
    (t.node 0).inFlight = some ⟨.speed 0, .sequence, .send, 0, 0, none, none⟩ ∧
    (t.node 5).inFlight = some ⟨.move .opened, .sequence, .send, 0, 0, none, none⟩ := by decide +kernel

theorem test_rate : ((after (.rateDemandWrite .l1 5000) (at_ watch)).device.governor .l1).requested = 800 := by
  decide +kernel

theorem test_rate_word : (after (.rateDemandWrite .l1 5000) (at_ watch)).mem.readWord 0x1110 = 800#32 := by
  decide +kernel

theorem test_valve : (after (.valveDemandWrite .l1 .manifold 100) (at_ watch)).device.targets.get 4 = ⟨.opened, false⟩ := by
  decide +kernel

theorem test_governor :
    ((after (.governorStep .l1) (at_ (line1 .delivering .none 300 watch))).device.governor .l1).allowed = 400 := by
  decide +kernel

theorem test_silent :
    ((after .shipSilent (at_ (line1 .delivering .none 300 watch))).device.line .l1).state = .topping := by
  decide +kernel

theorem test_tank :
    (after (.tankReport goodReport) (at_ watch)).device.tankHas 0 (fun e => decide (e.volume = some 4096)) = true := by
  decide +kernel

theorem test_frame : (after .busPull (at_ watch)).device.bus.slot = some ⟨0, .poll, false⟩ := by decide +kernel

theorem test_status : (after .statusExpiry (at_ watch)).device.link.statusExpiry = some 10#32 := by decide +kernel

theorem test_travel :
    ((after (.travelExpiry 4) (at_ (inFlightAt 4 (flying (.move .opened) .travel) watch))).device.node 4).valve = .failed := by
  decide +kernel

theorem test_lineup :
    (after (.lineupLimitExpiry .l1) (at_ (line1 .lineup .startWait 0 watch))).device.reports.usable = true := by
  decide +kernel

theorem test_tick : (after .stationReset (at_ watch)).device.time = 0 := by decide +kernel

/-! ## States that meet the hypotheses of the statements -/

theorem witness_StepRunsTheFrontCommand :
    ({ at_ watch with pending := [.stationReset] } : State).pending = .stationReset :: [] := by decide

theorem witness_StepOnAnEmptyQueueLetsTimePass :
    (at_ watch).pending = [] ∧ watch.half = false ∧ ({ watch with half := true } : Device).half = true := by decide

theorem witness_StationResetStopsActiveLines :
    ((line1 .delivering .none 300 watch).line .l1).state.running = true ∧
    ((line1 .held .hold 0 watch).line .l1).state.running = true ∧
    ((line1 .lineup .startWait 0 watch).line .l1).state = .lineup ∧
    ((line1 .delivering .none 300 watch).line .l2).state.active = false ∧ watch.tank 0 = some tank ∧
    tank.assigned = none := by decide +kernel

theorem witness_ShipLoopIsTaken : watch.charter.mode = .watch ∧ (setMode .passive watch).charter.mode ≠ .watch := by
  decide +kernel

theorem witness_ShipLoopBreakSetsTheLatch :
    (at_ (line1 .topping .none 300 watch)).device.charter.mode = .watch ∧
    (line1 .topping .none 300 watch).shutdown.shipLoop = .healthy ∧
    (line1 .topping .none 300 watch).shutdown.latch = false := by decide +kernel

/-- A line that trips with its pump and its RETURN idle, and RETURN not at rest OPEN. -/
theorem witness_ShipLoopBreakSetsTheLatch_claims :
    let d := line1 .topping .none 300 watch
    (d.line .l1).state.trips = true ∧ d.deviceOf .l1 .pump = some 0 ∧ (d.node 0).idle = true ∧
    d.valveOf .l1 .returnValve = some 5 ∧ (d.node 5).idle = true ∧ d.atRest .l1 .returnValve .opened = false ∧
    (d.line .l2).state.trips = false := by decide +kernel

theorem witness_takesRequest : (at_ watch).takesRequest ∧ watch.charter.mode = .watch := by
  unfold State.takesRequest; decide +kernel

theorem witness_OpenAsksThePlanRead : (at_ watch).takesRequest ∧ watch.charter.mode = .watch := witness_takesRequest

theorem witness_HoldHoldsTheLine :
    (at_ (line1 .priming .prime 150 watch)).takesRequest ∧ (line1 .priming .prime 150 watch).charter.mode = .watch ∧
    ((line1 .priming .prime 150 watch).line .l1).state.holdable = true := by
  unfold State.takesRequest; decide +kernel

theorem witness_HoldHoldsTheLine_held :
    (at_ (line1 .held .hold 0 watch)).takesRequest ∧ (line1 .held .hold 0 watch).charter.mode = .watch ∧
    ((line1 .held .hold 0 watch).line .l1).state = .held := by
  unfold State.takesRequest; decide +kernel

theorem witness_HoldHoldsTheLine_claims :
    let d := line1 .priming .prime 150 watch
    d.deviceOf .l1 .pump = some 0 ∧ (d.node 0).idle = true ∧ d.valveOf .l1 .returnValve = some 5 ∧
    (d.node 5).idle = true := by decide +kernel

/-- Line 1 HELD with STATION_HOLD, and with NO_PATH or not. -/
def heldBy (path : Bool) : Device :=
  let d := line1 .held .hold 0 watch
  { d with lines := { d.lines with l1 := { d.lines.l1 with hold := { HoldSet.empty with
      stationHold := true, noPath := path } } } }

theorem witness_ResumeRemovesStationHold :
    (at_ (heldBy false)).takesRequest ∧ (heldBy false).charter.mode = .watch ∧
    ((heldBy false).line .l1).state = .held ∧ ((heldBy false).line .l1).hold.stationHold = true ∧
    ({ ((heldBy false).line .l1).hold with stationHold := false } : HoldSet).isEmpty = true := by
  unfold State.takesRequest; decide +kernel

theorem witness_ResumeRemovesStationHold_stays :
    (at_ (heldBy true)).takesRequest ∧ (heldBy true).charter.mode = .watch ∧
    ((heldBy true).line .l1).state = .held ∧ ((heldBy true).line .l1).hold.stationHold = true ∧
    ({ ((heldBy true).line .l1).hold with stationHold := false } : HoldSet).isEmpty = false := by
  unfold State.takesRequest; decide +kernel

/-- RETURN at rest CLOSED with the pump idle, and RETURN idle but OPEN. -/
theorem witness_ResumeRemovesStationHold_claims :
    let o := openedAt 5 (heldBy false)
    (heldBy false).atRest .l1 .returnValve .closed = true ∧ (heldBy false).deviceOf .l1 .pump = some 0 ∧
    ((heldBy false).node 0).idle = true ∧ o.atRest .l1 .returnValve .closed = false ∧
    o.valveOf .l1 .returnValve = some 5 ∧ (o.node 5).idle = true := by decide +kernel

theorem witness_StopRampsTheLineDown :
    (at_ (line1 .delivering .none 1 watch)).takesRequest ∧ (line1 .delivering .none 1 watch).charter.mode = .watch ∧
    ((line1 .delivering .none 1 watch).line .l1).state.running = true ∧
    0 < ((line1 .delivering .none 1 watch).governor .l1).allowed := by
  unfold State.takesRequest; decide +kernel

/-- Line 1 HELD at rate 0 with its pump's SPEED 0 under way. -/
def pumpBusy : Device := inFlightAt 0 (flying (.speed 0) .send) (line1 .held .hold 0 watch)

theorem witness_StopRampsTheLineDown_rateZero :
    (at_ pumpBusy).takesRequest ∧ (pumpBusy.line .l1).state.running = true ∧ (pumpBusy.governor .l1).allowed = 0 ∧
    pumpBusy.idleNode (pumpBusy.deviceOf .l1 .pump) = false ∧
    (line1 .held .hold 0 watch).idleNode ((line1 .held .hold 0 watch).deviceOf .l1 .pump) = true := by
  unfold State.takesRequest; decide +kernel

/-- Line 1 in LINEUP with a valve's MOVE in flight. -/
def lineupFlying : Device := inFlightAt 4 (flying (.move .opened) .travel) (line1 .lineup .manifoldOpening 0 watch)

theorem witness_StopRampsTheLineDown_lineup :
    (at_ lineupFlying).takesRequest ∧ lineupFlying.charter.mode = .watch ∧ (lineupFlying.line .l1).state = .lineup ∧
    lineupFlying.valveInFlight .l1 = true ∧ (line1 .lineup .startWait 0 watch).valveInFlight .l1 = false := by
  unfold State.takesRequest; decide +kernel

theorem witness_LineRequestsInAWrongState :
    (at_ watch).takesRequest ∧ watch.charter.mode = .watch ∧ (watch.line .l1).state.holdable = false ∧
    (watch.line .l1).state ≠ .held ∧ (watch.line .l1).state.active = false ∧ (watch.line .l1).state ≠ .stopping := by
  unfold State.takesRequest; decide +kernel

theorem witness_LineRequestsInAWrongState_stopping :
    (at_ (line1 .stopping .ramp 300 watch)).takesRequest ∧ (line1 .stopping .ramp 300 watch).charter.mode = .watch ∧
    ((line1 .stopping .ramp 300 watch).line .l1).state = .stopping := by
  unfold State.takesRequest; decide +kernel

theorem witness_LoadCharterEntersLoading :
    (at_ watch).takesRequest ∧ watch.charter.mode = .watch ∧ watch.allFree = true ∧ watch.allNodesIdle = true ∧
    State.reset.takesRequest ∧ State.reset.device.charter.mode = .passive := by
  unfold State.takesRequest; decide +kernel

theorem witness_RequestsAreRefusedByMode :
    (at_ (line1 .held .hold 0 watch)).takesRequest ∧ (line1 .held .hold 0 watch).allFree = false ∧
    (at_ (inFlightAt 3 (flying (.move .opened) .send) watch)).takesRequest ∧
    (inFlightAt 3 (flying (.move .opened) .send) watch).allFree = true ∧
    (inFlightAt 3 (flying (.move .opened) .send) watch).allNodesIdle = false ∧
    State.reset.takesRequest ∧ State.reset.device.charter.mode = .passive := by
  unfold State.takesRequest; decide +kernel

theorem witness_LockLimitsSetsTheLock : (at_ watch).takesRequest ∧ watch.charter.mode = .watch := witness_takesRequest

theorem witness_TripSetsTheLatch :
    (at_ watch).takesRequest ∧ watch.charter.mode = .watch ∧ watch.shutdown.latch = false ∧
    (at_ (latched watch)).takesRequest ∧ (latched watch).charter.mode = .watch ∧
    (latched watch).shutdown.latch = true := by
  unfold State.takesRequest; decide +kernel

theorem witness_TripResetClearsTheLatch :
    (at_ (latched (line1 .tripped .none 0 watch))).takesRequest ∧
    (latched (line1 .tripped .none 0 watch)).charter.mode = .watch ∧
    (latched (line1 .tripped .none 0 watch)).shutdown.latch = true ∧
    (latched (line1 .tripped .none 0 watch)).shutdown.shipLoop = .healthy ∧
    ∀ l, ((latched (line1 .tripped .none 0 watch)).line l).state ≠ .tripping := by
  unfold State.takesRequest
  refine ⟨by decide +kernel, by decide +kernel, by decide +kernel, by decide +kernel, ?_⟩
  intro l; cases l <;> decide +kernel

/-- Valves idle and OPEN, of which CLOSING makes and awaits the claims: MANIFOLD, and DISCHARGE once MANIFOLD is at rest. -/
theorem witness_TripResetClearsTheLatch_claims :
    let d := latched (line1 .tripped .none 0 watch)
    (openedAt 4 d).closesValve .l1 .manifold = true ∧ (openedAt 4 d).valveOf .l1 .manifold = some 4 ∧
    ((openedAt 4 d).node 4).idle = true ∧ (openedAt 3 d).closesValve .l1 .manifold = false ∧
    (openedAt 3 d).closesValve .l1 .discharge = true ∧ (openedAt 3 d).valveOf .l1 .discharge = some 3 ∧
    ((openedAt 3 d).node 3).idle = true := by decide +kernel

/-- The ship loop BROKEN with the latch SET. -/
def loopBroken : Device :=
  let d := latched watch
  { d with shutdown := { d.shutdown with shipLoop := .broken } }

theorem witness_TripResetIsJudged :
    State.reset.takesRequest ∧ State.reset.device.charter.mode = .passive ∧
    (at_ watch).takesRequest ∧ watch.charter.mode = .watch ∧ watch.shutdown.latch = false ∧
    (at_ loopBroken).takesRequest ∧ loopBroken.shutdown.latch = true ∧ loopBroken.shutdown.shipLoop = .broken ∧
    (at_ (latched (line1 .tripping .none 0 watch))).takesRequest ∧
    ((latched (line1 .tripping .none 0 watch)).line .l1).state = .tripping ∧
    (at_ (latched watch)).takesRequest := by
  unfold State.takesRequest; decide +kernel

theorem witness_SilenceTurnsTheHornOff :
    (at_ watch).takesRequest ∧ watch.charter.mode = .watch ∧
    (at_ (setMode .passive watch)).takesRequest ∧ (setMode .passive watch).charter.mode = .passive ∧
    (at_ (setMode .loading watch)).takesRequest ∧ (setMode .loading watch).charter.mode = .loading := by
  unfold State.takesRequest; decide +kernel

theorem witness_RateDemandIsTaken :
    (at_ watch).mem.wf = true ∧ watch.upstreamFree = true ∧ watch.charter.mode = .watch ∧
    (watch.line .l1).fitted = true := by decide +kernel

theorem witness_RefusedDemandsAreSuppressed :
    watch.upstreamFree = true ∧ watch.charter.mode = .watch ∧ watch.reportsFlow ∧ (watch.line .l2).fitted = false ∧
    watch.valveRefusal .l2 0 = some .notFitted ∧ watch.valveRefusal .l1 101 = some .badValue ∧
    (latched watch).valveRefusal .l1 100 = some .esdLatched ∧
    (line1 .lineup .startWait 0 watch).valveRefusal .l1 0 = some .wrongState := by
  unfold Device.reportsFlow; decide +kernel

theorem witness_ValveDemandIsTaken :
    (at_ watch).mem.wf = true ∧ watch.upstreamFree = true ∧ watch.charter.mode = .watch ∧
    (watch.line .l1).fitted = true ∧ (watch.line .l1).state = .free ∧ watch.shutdown.latch = false ∧
    watch.valveOf .l1 .strip = some 6 ∧ (watch.node 6).idle = true := by decide +kernel

/-- A node of line 1 with a transaction in flight and a claim queued. -/
def busy (n : NodeNo) (x : Transaction) (q : Option Claim) (d : Device) : Device :=
  onNode n (fun e => { e with inFlight := some x, queued := q }) d

/-- A busy STRIP: the demand merges with the MOVE in flight, is queued, takes a claim's place, and is dropped behind
an ESD claim. -/
theorem witness_ValveDemandIsTaken_busy :
    let x := flying (.move .opened) .travel
    (∀ q ∈ [none, some ⟨.move .closed, .station⟩, some ⟨.move .closed, .esd⟩],
      ((busy 6 x q watch).node 6).inFlight = some x ∧ ((busy 6 x q watch).node 6).queued = q ∧
      (busy 6 x q watch).valveOf .l1 .strip = some 6 ∧ (busy 6 x q watch).reportsFlow) ∧
    slotsAfter ⟨.move .opened, .station⟩ 0 x none = (x, none) ∧
    slotsAfter ⟨.move .closed, .station⟩ 0 x none = (x, some ⟨.move .closed, .station⟩) ∧
    slotsAfter ⟨.move .opened, .station⟩ 0 x (some ⟨.move .closed, .station⟩) = (x, none) ∧
    slotsAfter ⟨.move .opened, .station⟩ 0 x (some ⟨.move .closed, .esd⟩) = (x, some ⟨.move .closed, .esd⟩) := by
  unfold Device.reportsFlow; decide +kernel

/-- Line 1 in TOPPING with a SPEED in flight at its pump and one queued, and RETURN moving. -/
def tripsBusy (g : Target) : Device :=
  busy 0 (flying (.speed 30) .send) (some ⟨.speed 20, .sequence⟩)
    (busy 5 (flying (.move g) .travel) (some ⟨.move .closed, .sequence⟩) (line1 .topping .none 300 watch))

/-- An ESD claim supersedes a SPEED, adopts a MOVE to its target and abandons one to the other; behind an ESD transaction it
is merged or queued (R123, R124). -/
theorem witness_ShipLoopBreakSetsTheLatch_busy :
    (tripsBusy .opened).reportsFlow ∧ (tripsBusy .closed).atRest .l1 .returnValve .opened = false ∧
    ((tripsBusy .closed).line .l1).state.trips = true ∧
    slotsAfter ⟨.speed 0, .esd⟩ 7 (flying (.speed 30) .send) (some ⟨.speed 20, .sequence⟩)
      = (⟨.speed 0, .esd, .send, 0, 7, none, none⟩, none) ∧
    slotsAfter ⟨.move .opened, .esd⟩ 7 (flying (.move .opened) .travel) none
      = ({ flying (.move .opened) .travel with origin := .esd }, none) ∧
    slotsAfter ⟨.move .opened, .esd⟩ 7 (flying (.move .closed) .travel) none
      = (⟨.move .opened, .esd, .send, 0, 7, none, none⟩, none) ∧
    slotsAfter ⟨.speed 0, .esd⟩ 7 { flying (.speed 0) .send with origin := .esd } none
      = ({ flying (.speed 0) .send with origin := .esd }, none) := by
  unfold Device.reportsFlow; decide +kernel

/-- A HOLD that meets a SPEED in SEND, one in TRAVEL, and a claim queued (R122, R125). -/
theorem witness_HoldHoldsTheLine_busy :
    (at_ (tripsBusy .opened)).takesRequest ∧ ((tripsBusy .opened).line .l1).state.holdable = true ∧
    slotsAfter ⟨.speed 0, .sequence⟩ 7 (flying (.speed 30) .send) none
      = (flying (.speed 30) .send, some ⟨.speed 0, .sequence⟩) ∧
    slotsAfter ⟨.speed 0, .sequence⟩ 7 (flying (.speed 30) .travel) none
      = (⟨.speed 0, .sequence, .send, 0, 7, none, none⟩, none) := by
  unfold State.takesRequest; decide +kernel

/-- The consumer index at 62 and the producer index at 1: the entries of slots 62, 63 and 0 are unconsumed. -/
def ring : Device := { watch with reports := { watch.reports with consumer := 62, producer := 1 } }

theorem witness_ConsumerIndexIsJudged :
    (at_ ring).mem.wf = true ∧ ring.upstreamFree = true ∧ ring.charter.mode = .watch ∧ ring.reportsFlow ∧
    (∀ v ∈ [62, 63, 0, 1], v < 64 ∧ (v + 64 - 62) % 64 ≤ (1 + 64 - 62) % 64) ∧
    (∀ v ∈ [61, 2, 64], ¬(v < 64 ∧ (v + 64 - 62) % 64 ≤ (1 + 64 - 62) % 64)) ∧
    (setMode .loading ring).upstreamFree = true ∧ (setMode .loading ring).charter.mode ≠ .watch := by
  unfold Device.reportsFlow; decide +kernel

/-- A report entry's burst in progress, write jobs open, with one read that waits. -/
def readWaits : Device :=
  { watch with port := { watch.port with
      burst := some (.entry false), writesOpen := true, waiting := [⟨0x4000, false, 15, 0⟩] } }

/-- A refresh waits at the arbiter after four upstream grants. -/
def bound : Device :=
  { watch with
    port := { watch.port with writesOpen := true, waitCount := 4 }, marks := { Marks.clear with status := true } }

theorem witness_UpstreamReadsArePassedOrWait :
    watch.upstreamFree = true ∧ readWaits.stationFirst = false ∧ readWaits.port.burst = some (.entry false) ∧
    readWaits.port.waitCount < 4 ∧ bound.stationFirst = false ∧ bound.nextJob ≠ none ∧
    ({ readWaits with port := { readWaits.port with burst := none } } : Device).stationFirst = true := by
  decide +kernel

/-- The area of the word that an access addresses. -/
def area (d : Device) (a : Access) : Option Area := (windowOffset d.strap (wordAddress a.addr)).map areaOf

theorem witness_PassedWritesStoreTheEnabledBytes :
    (at_ watch).mem.wf = true ∧ watch.upstreamFree = true ∧ watch.charter.lock = false ∧
    area watch ⟨0x4000, true, 1, 7⟩ = none ∧ area watch ⟨0x0FFC, true, 1, 7⟩ = some .charter ∧
    area watch ⟨0x1000, true, 15, 7⟩ = some (.plan .l1) ∧ (watch.line .l1).state = .free ∧
    watch.openHandled .l1 = false ∧ area watch ⟨0x3FFC, true, 15, 7⟩ = some .unused ∧
    area watch ⟨0x1110, true, 15, 7⟩ = some (.rateDemand .l1) ∧ (setMode .passive watch).charter.mode ≠ .watch ∧
    (setMode .passive watch).upstreamFree = true := by decide +kernel

/-- The limit lock SET. -/
def locked : Device := { watch with charter := { watch.charter with lock := true } }

theorem witness_SuppressedWritesStoreNothing :
    locked.upstreamFree = true ∧ locked.charter.lock = true ∧ windowOffset locked.strap 0x0FFC = some 0x0FFC ∧
    areaOf 0x0FFC = .charter ∧ (line1 .held .hold 0 watch).upstreamFree = true ∧ areaOf 0x103C = .plan .l1 ∧
    ((line1 .held .hold 0 watch).line .l1).state ≠ .free ∧ watch.charter.mode = .watch ∧ areaOf 0x1200 = .kept := by
  decide +kernel

theorem witness_PartialWritesAreRefused :
    watch.upstreamFree = true ∧ watch.reportsFlow ∧ watch.charter.mode = .watch ∧ (7#4 : BitVec 4) ≠ 15#4 ∧
    areaOf 0x110C = .request .general ∧ areaOf 0x1118 = .rateDemand .l3 ∧ areaOf 0x114C = .valveDemand .l3 .strip ∧
    areaOf 0x1240 = .consumer ∧ windowOffset watch.strap 0x1240 = some 0x1240 := by
  unfold Device.reportsFlow; decide +kernel

/-- Write jobs may be granted, and a unit is marked. -/
def marked (status : Bool) : Device :=
  { watch with
    port := { watch.port with writesOpen := true },
    marks := { Marks.clear with status := status, nodes := putAt Marks.clear.nodes 0 true } }

theorem witness_RefreshWritesTheUnit :
    (at_ (marked true)).mem.wf = true ∧ (marked true).grantable = some (.refresh .status) ∧
    (marked false).grantable = some (.refresh (.node 0)) := by decide +kernel

/-- The LOADED report, as an entry. -/
def entry : Report := ⟨.loaded, 0, 0, .none, 0, 7, 0, .none⟩

/-- A device with jobs, write jobs open. -/
def withJobs (j : Jobs) : Device := { watch with port := { watch.port with writesOpen := true }, jobs := j }

theorem witness_GrantsStartTheirBursts :
    (at_ watch).mem.wf = true ∧ watch.reports.producer < Config.ringSlots ∧
    (withJobs ⟨none, false, false, some entry, []⟩).grantable = some (.entry entry) ∧
    (withJobs ⟨none, false, false, none, [.plan .l1 false]⟩).grantable = some (.read (.plan .l1 false)) ∧
    (withJobs ⟨none, false, true, none, []⟩).grantable = some .consumer := by decide +kernel

/-- An access waits and the wait count stands at its bound: the internal job goes first. -/
theorem witness_GrantsStartTheirBursts_waiting :
    ({ bound with port := { bound.port with waiting := [⟨0x4000, false, 15, 0⟩] } } : Device).grantable =
      some (.refresh .status) := by decide +kernel

/-- A result write of SILENCE, with one more request queued. -/
def resultThen (q : Request) (d : Device) : Device :=
  { d with
    port := { d.port with writesOpen := true }, jobs := ⟨some .done, false, false, none, []⟩
    requests := ⟨[⟨.general, 0x14, 0, 0⟩, q], .resultWrite⟩ }

theorem witness_ResultWriteAnswersTheRequest :
    let open_ : Request := ⟨.line .l1, 1, 0, 0⟩
    let lock : Request := ⟨.general, 0x11, 0, 0⟩
    let bad : Request := ⟨.general, 0x33, 0, 0⟩
    (resultThen lock watch).grantable = some (.result .done) ∧ (resultThen lock watch).charter.mode = .watch ∧
    lock.asked = some .lockLimits ∧ open_.asked = some (.openLine .l1) ∧ bad.asked = none ∧
    (resultThen lock (setMode .passive watch)).grantable = some (.result .done) ∧
    (resultThen lock (setMode .loading watch)).charter.mode = .loading := by decide +kernel

/-- A next request of each kind in WATCH, with its result where it has one at once; and LOAD_CHARTER in PASSIVE. -/
theorem witness_ResultWriteAnswersTheRequest_next :
    let m := watch
    let d := line1 .delivering .none 300 watch
    let l := latched (line1 .tripped .none 0 watch)
    (∀ x ∈ ([(m, .line .l1, 1, none), (d, .line .l1, 2, some .done), (m, .line .l1, 2, some .wrongState),
        (heldBy false, .line .l1, 3, some .done), (d, .line .l1, 3, some .wrongState), (d, .line .l1, 4, some .done),
        (m, .line .l1, 4, some .wrongState), (line1 .stopping .ramp 300 watch, .line .l1, 4, some .done),
        (m, .general, 0x10, none), (d, .general, 0x10, some .linesActive),
        (inFlightAt 4 (flying (.move .opened) .travel) m, .general, 0x10, some .nodesBusy),
        (m, .general, 0x11, some .done), (d, .general, 0x12, some .done), (l, .general, 0x12, some .done),
        (l, .general, 0x13, some .done), (m, .general, 0x13, some .wrongState), (m, .general, 0x14, some .done)] :
          List (Device × RequestWord × Byte × Option Result)),
      (resultThen ⟨x.2.1, x.2.2.1, 0, 0⟩ x.1).grantable = some (.result .done) ∧
      (resultThen ⟨x.2.1, x.2.2.1, 0, 0⟩ x.1).charter.mode = .watch ∧
      (⟨x.2.1, x.2.2.1, 0, 0⟩ : Request).asked.map (resultThen ⟨x.2.1, x.2.2.1, 0, 0⟩ x.1).resultInWatch
        = some x.2.2.2) ∧
    (resultThen ⟨.general, 0x10, 0, 0⟩ (setMode .passive watch)).grantable = some (.result .done) ∧
    (⟨.general, 0x10, 0, 0⟩ : Request).asked = some .loadCharter := by decide +kernel

theorem witness_ResultWriteAnswersTheRequest_refused :
    let full : Device := { watch with requests := ⟨List.replicate 8 ⟨.general, 0x14, 0, 0⟩, .resultWrite⟩ }
    (at_ full).mem.wf = true ∧ full.upstreamFree = true ∧ 8 ≤ full.requests.queue.length ∧
    (at_ watch).takesRequest ∧ watch.charter.mode ≠ .loading ∧ (⟨.general, 0x33, 5, 0⟩ : Request).asked = none ∧
    wordByte 0x0533 0 = 0x33#8 ∧ wordByte 0x0533 1 = 5#8 := by
  unfold State.takesRequest; decide +kernel

theorem witness_ProducerIndexWriteShowsTheEntries :
    (withJobs ⟨none, true, false, none, []⟩).grantable = some .producer := by decide +kernel

theorem witness_ReportEntryDoneAdvancesTheProducer :
    (setBurst (.entry false) watch).port.burst = some (.entry false) ∧
    (setBurst (.entry true) watch).port.burst = some (.entry true) := by decide

/-- Memory with a plan of line 1: 5000 of grade 2 into tank 1. -/
def planMemory : Memory := Memory.writeWords [] 0x1000 [0x102, 5000, 1, 0]

theorem witness_AnAcceptedOpenStartsTheLineup :
    let s : State := { at_ (setBurst (.read (.plan .l1 false)) watch) with mem := planMemory }
    s.device.port.burst = some (.read (.plan .l1 false)) ∧ s.device.openRefusal .l1 (s.planRead .l1) = none ∧
    (∀ k, s.device.tankHas k (fun e => decide (e.assigned = some .l1)) = false) ∧
    (s.planRead .l1).tanks = [0] ∧ tank.levelState (some 1500) = .filling ∧
    s.device.valveIs .l1 .discharge .opened = false := by decide +kernel

theorem witness_AnAcceptedOpenStartsTheLineup_claims :
    let d := openedAt 5 (openedAt 6 (setBurst (.read (.plan .l1 false)) watch))
    d.valveOf .l1 .discharge = some 3 ∧ (d.node 3).idle = true ∧ d.valveIs .l1 .discharge .opened = false ∧
    d.valveOf .l1 .returnValve = some 5 ∧ (d.node 5).idle = true ∧ d.valveIs .l1 .returnValve .closed = false ∧
    d.valveOf .l1 .strip = some 6 ∧ (d.node 6).idle = true ∧ d.valveIs .l1 .strip .closed = false := by decide +kernel

theorem witness_ARefusedOrDroppedOpenChangesNothing :
    let s := at_ (setBurst (.read (.plan .l1 false)) watch)
    s.device.openRefusal .l1 (s.planRead .l1) = some .planInvalid ∧
    (setBurst (.read (.plan .l1 true)) watch).port.burst = some (.read (.plan .l1 true)) := by decide +kernel

theorem witness_ACharterReadFillsTheWorkingCopy :
    (setBurst (.read (.charter 30)) (setMode .loading watch)).port.burst = some (.read (.charter 30)) ∧ 30 + 1 < 32 := by
  decide

/-- The first 992 words of a charter with one line and one tank, and every other word 0. -/
def charterWords : List Word :=
  [1, 1, 20, 5, 30, 30, 120] ++ List.replicate 9 0
  ++ [0x00000102, 60, 0x00000103, 60, 0x00000104, 60, 0x00000101, 60, 0x00010101, 60, 0x00020101, 60, 0x00030101, 60]
  ++ List.replicate 98 0
  ++ [800, 100, 200, 250, 150, 120, 8, 2, 16, 1500, 600, 40, 60, 300, 900, 1200, 1500, 120, 300, 60, 600, 900]
  ++ List.replicate 106 0 ++ [15000, 950, 980, 0x00780002] ++ List.replicate 732 0

/-- The CRC over the last 31 covered words, all 0 here, from a running CRC of all ones. -/
theorem zeros31 : crc32Words 0xFFFFFFFF#32 (List.replicate 31 0) = 0xEA28F1F3#32 := by
  have a : crc32Words 0xFFFFFFFF#32 (List.replicate 8 0) = 0xE6F5AA52#32 := by decide +kernel
  have b : crc32Words 0xE6F5AA52#32 (List.replicate 8 0) = 0x8A729CC9#32 := by decide +kernel
  have c : crc32Words 0x8A729CC9#32 (List.replicate 8 0) = 0x450B9A51#32 := by decide +kernel
  have d : crc32Words 0x450B9A51#32 (List.replicate 7 0) = 0xEA28F1F3#32 := by decide +kernel
  have e : (List.replicate 31 0 : List Word) =
      ((List.replicate 8 0 ++ List.replicate 8 0) ++ List.replicate 8 0) ++ List.replicate 7 0 := by decide
  unfold crc32Words at *
  rw [e, List.foldl_append, List.foldl_append, List.foldl_append, a, b, c, d]

/-- A load whose last read job is in progress, with the LOAD_CHARTER in hand. -/
def lastRead (words : List Word) : Device :=
  { setBurst (.read (.charter 31)) (setMode .loading watch) with
    requests := ⟨[⟨.general, 0x10, 0, 0⟩], .load⟩,
    charter := { watch.charter with mode := .loading, runningCrc := 0xFFFFFFFF#32, working := words } }

/-- Memory with the CRC word. -/
def crcMemory : Memory := Memory.writeWords [] 0x0FFC [0x15D70E0C#32]

theorem witness_AGoodLoadEntersWatch :
    let s : State := { at_ (lastRead charterWords) with mem := crcMemory }
    s.device.port.burst = some (.read (.charter 31)) ∧ s.device.requests.phase = .load ∧
    judgeCharter (crc32Words s.device.charter.runningCrc ((s.charterWords 31).take 31))
      (s.device.charter.working ++ s.charterWords 31) = .good := by
  intro s
  have h : (s.charterWords 31).take 31 = List.replicate 31 0 := by decide +kernel
  have k : s.device.charter.runningCrc = 0xFFFFFFFF#32 := rfl
  rw [h, k, zeros31]
  decide +kernel

theorem witness_AFailedLoadEntersPassive :
    let s : State := { at_ (lastRead (List.replicate 992 0)) with mem := crcMemory }
    s.device.port.burst = some (.read (.charter 31)) ∧ s.device.requests.phase = .load ∧
    judgeCharter (crc32Words s.device.charter.runningCrc ((s.charterWords 31).take 31))
      (s.device.charter.working ++ s.charterWords 31) = .bad .fieldRange 0 := by
  intro s
  have h : (s.charterWords 31).take 31 = List.replicate 31 0 := by decide +kernel
  have k : s.device.charter.runningCrc = 0xFFFFFFFF#32 := rfl
  rw [h, k, zeros31]
  decide +kernel

/-- A load that runs on after a station reset has dropped its LOAD_CHARTER, with the requests that have arrived since. -/
def dropped (q : List Request) (words : List Word) : Device := { lastRead words with requests := ⟨q, .untaken⟩ }

theorem witness_AGoodLoadEntersWatch_dropped :
    let silence : Request := ⟨.general, 0x14, 0, 0⟩
    (dropped [] charterWords).requests.queue = [] ∧ (dropped [silence] charterWords).requests.queue = silence :: [] ∧
    (dropped [silence] charterWords).requests.phase = .untaken ∧ (dropped [silence] charterWords).allFree = true ∧
    (dropped [silence] charterWords).charter.working = (lastRead charterWords).charter.working ∧
    (dropped [silence] charterWords).port = (lastRead charterWords).port ∧ silence.asked = some .silence := by
  decide +kernel

/-- The end of a load whose LOAD_CHARTER was dropped opens the write jobs, and takes the request that waits (R165, R185). -/
theorem test_dropped_load_takes_the_next_request :
    let t := ((dropped [⟨.general, 0x11, 0, 0⟩] []).failedLoad .crcMismatch 0).endLoad .crcMismatch
    t.port.writesOpen = true ∧ t.jobs.result = some .notLoaded ∧ t.requests.phase = .resultWrite := by decide +kernel

/-- The bus in STEADY. -/
def steady : Device := { watch with bus := { watch.bus with mode := .steady, tail := .long } }

theorem witness_FramesStart :
    watch.charter.mode = .watch ∧ watch.bus.slot = none ∧ watch.spaced = true ∧ (watch.node 0).enrolled = true ∧
    (∀ m, m < (0 : NodeNo) → (watch.node m).enrolled = false) ∧ watch.bus.tail = .short ∧
    watch.due watch.bus.idleScan = true ∧ steady.bus.mode = .steady ∧ steady.bus.tail = .long ∧
    steady.spaced = true ∧ steady.bus.slot = none := by decide +kernel

/-- Two and a half steps, 250 ms, after a frame start: the first moment at which the next may start. -/
theorem witness_FramesStart_spacing :
    ({ watch with time := 2, half := true, bus := { watch.bus with lastStart := some ⟨0, false⟩ } } : Device).spaced
      = true ∧
    ({ watch with time := 2, half := false, bus := { watch.bus with lastStart := some ⟨0, false⟩ } } : Device).spaced
      = false := by decide

theorem witness_SlotResultsAreTaken :
    watch.charter.mode = .watch ∧ (inSlot 3 .poll watch).bus.slot = some ⟨3, .poll, false⟩ ∧
    slotOutcome 3 .valve .poll ⟨false, some (answerOf 4#8 16#8 0 0 0#8)⟩ = .answer ⟨.status, 0, 0, false, false, false⟩ ∧
    slotOutcome 3 .valve .poll ⟨false, none⟩ = .silent ∧ slotOutcome 3 .valve .poll ⟨true, none⟩ = .checkError ∧
    watch.nextEnrolled 3 = some 4 ∧ watch.nextEnrolled 6 = none := by decide +kernel

/-- The premises of the statement on a fresh pressure reading of line 1. -/
def readsPressure (d : Device) (p : Nat) : Prop :=
  let d := inSlot 1 .poll d
  d.charter.mode = .watch ∧ d.bus.slot = some ⟨1, .poll, false⟩ ∧ d.deviceOf .l1 .pressure = some 1 ∧
  (d.node 1).inFlight = none ∧ (d.node 1).stale = false ∧ (d.line .l1).state ≠ .free ∧ d.limits .l1 = limits ∧
  (slotOutcome 1 .pressure .poll ⟨false, some (answerOf 2#8 16#8 p 0 0#8)⟩).refreshing.map Answer.readingA = some p

theorem witness_SlotResultsAreTaken_bands :
    let d := line1 .delivering .none 300 watch
    readsPressure d 1500 ∧ bandOf limits 1500 = .trip ∧ (d.hose .l1).band ≠ some .trip ∧ d.shutdown.latch = false ∧
    readsPressure d 1200 ∧ bandOf limits 1200 = .stop ∧ (d.line .l1).state.holdable = true ∧
    readsPressure d 40 ∧ bandOf limits 40 ≠ .low ∧
    readsPressure d 39 ∧ bandOf limits 39 = .low ∧ (d.hose .l1).lowCount = 0 ∧
    readsPressure (onHose1 (fun h => { h with lowCount := 1 }) d) 39 := by
  unfold readsPressure; decide +kernel

/-- Line 1 in PRIMING, readings armed, with some of them counted. -/
def primed (count : Nat) : Device :=
  onHose1 (fun h => { h with armed := true, primingCount := count }) (line1 .priming .prime 150 watch)

theorem witness_SlotResultsAreTaken_priming :
    readsPressure (primed 0) 299 ∧ readsPressure (primed 0) 300 ∧ readsPressure (primed 1) 300 ∧
    bandOf limits 299 = .normal ∧ bandOf limits 300 = .normal ∧ ((primed 1).line .l1).state = .priming ∧
    ((primed 1).line .l1).step = .prime ∧ ((primed 1).hose .l1).armed = true := by
  unfold readsPressure; decide +kernel

theorem witness_SlotResultsAreTaken_strip :
    let d := onNode 6 (fun n => { n with valve := .opened }) (line1 .stripping .strip 0 watch)
    readsPressure d 60 ∧ bandOf limits 60 = .normal ∧ (d.line .l1).state = .stripping ∧ (d.line .l1).step = .strip ∧
    d.valveIs .l1 .strip .opened = true := by
  unfold readsPressure; decide +kernel

/-- Both sides of the nomination, for a running line and for one in LINEUP: 5 counted of 5 and of 6. -/
theorem witness_SlotResultsAreTaken_flow :
    let d := fun (q : Word) (st : LineState) =>
      inSlot 2 .poll (onLine1 (fun c => { c with nominated := q }) (line1 st .none 300 watch))
    let a := (slotOutcome 2 .flow .poll ⟨false, some (answerOf 3#8 16#8 0 5 0#8)⟩).refreshing
    (d 5 .delivering).charter.mode = .watch ∧ (d 5 .delivering).deviceOf .l1 .flow = some 2 ∧
    ((d 5 .delivering).node 2).inFlight = none ∧ ((d 5 .delivering).node 2).stale = false ∧
    a.map Answer.readingB = some 5 ∧ ((d 5 .delivering).line .l1).base = 0 ∧
    ((d 5 .delivering).governor .l1).delivered = 0 ∧ ((d 5 .delivering).line .l1).nominated.toNat ≤ 5 ∧
    ((d 5 .delivering).line .l1).state.running = true ∧ ((d 5 .lineup).line .l1).state = .lineup ∧
    5 < ((d 6 .delivering).line .l1).nominated.toNat := by decide +kernel

/-- Line 1 in LINEUP with its start condition met but for its PRESSURE node, which is STALE; or HELD with STALE_READING. -/
def staleLine (st : LineState) (step : Step) : Device :=
  let d := onLine1 (fun c => { c with hold := if st = .held then { HoldSet.empty with staleReading := true } else .empty })
    (line1 st step 0 watch)
  onNode 1 (fun n => { n with stale := true })
    { d with
      link := { d.link with status := some (.all ⟨.go, .unlimited, none⟩) },
      topOffs := { d.topOffs with l1 := { d.topOffs.l1 with openCount := 1 } } }

/-- The first fresh reading of a STALE PRESSURE node: it moves its line, or, with another node STALE, it does not. -/
theorem witness_SlotResultsAreTaken_fresh :
    let o := (slotOutcome 1 .pressure .poll ⟨false, some (answerOf 2#8 16#8 50 0 0#8)⟩).refreshing
    let h := staleLine .held .hold
    o.map Answer.readingA = some 50 ∧ bandOf limits 50 = .normal ∧ (h.node 1).stale = true ∧
    (h.node 1).idle = true ∧ h.deviceOf .l1 .pressure = some 1 ∧ h.freshMoves 1 .l1 = true ∧
    (staleLine .lineup .startWait).freshMoves 1 .l1 = true ∧ h.reportsFlow ∧
    (onNode 2 (fun n => { n with stale := true }) h).freshMoves 1 .l1 = false := by
  unfold Device.reportsFlow; decide +kernel

/-- The first fresh reading of a STALE PUMP and of a STALE FLOW node, below the nomination. -/
theorem witness_SlotResultsAreTaken_freshOthers :
    let d := onLine1 (fun c => { c with nominated := 6 }) (line1 .delivering .none 300 watch)
    (slotOutcome 0 .pump .poll ⟨false, some (answerOf 1#8 16#8 30 0 0#8)⟩).refreshing.isSome = true ∧
    (slotOutcome 2 .flow .poll ⟨false, some (answerOf 3#8 16#8 0 5 0#8)⟩).refreshing.map Answer.readingB = some 5 ∧
    (d.governor .l1).delivered.toNat < (d.line .l1).nominated.toNat ∧ (5 - (d.line .l1).base).toNat < 6 ∧
    d.deviceOf .l1 .pump = some 0 ∧ d.deviceOf .l1 .flow = some 2 ∧
    (onNode 0 (fun n => { n with stale := true }) d).freshMoves 0 .l1 = false := by decide +kernel

/-- A first fresh reading that moves the line and also trips or stops it, with and without a second hold cause, meets the
nomination, or comes from a PUMP with a SPEED in flight. -/
theorem witness_SlotResultsAreTaken_freshStops :
    let h := staleLine .held .hold
    let two := onLine1 (fun c => { c with hold := { HoldSet.empty with staleReading := true, noPath := true } }) h
    let other := fun n => onNode n (fun e => { e with stale := true }) (onNode 1 (fun e => { e with stale := false }) h)
    bandOf limits 1500 = .trip ∧ (h.hose .l1).band ≠ some .trip ∧ h.shutdown.latch = false ∧ bandOf limits 1200 = .stop ∧
    ((h.freshMoved 1 .l1).line .l1).state = .priming ∧ ((two.freshMoved 1 .l1).line .l1).state = .held ∧
    two.freshMoves 1 .l1 = true ∧ (other 2).freshMoves 2 .l1 = true ∧ ((other 2).node 2).inFlight = none ∧
    ((other 2).line .l1).nominated.toNat ≤ (5 - ((other 2).line .l1).base).toNat ∧
    (inFlightAt 0 (flying (.speed 0) .travel) (other 0)).freshMoves 0 .l1 = true := by decide +kernel

/-- A node of line 1 that has missed two slots. -/
def missed (n : NodeNo) (d : Device) : Device := onNode n (fun e => { e with misses := 2 }) d

/-- The third miss of a PRESSURE node and of a PUMP with a SPEED in flight, and a faulty PUMP: nothing is refreshed. -/
theorem witness_SlotResultsAreTaken_stale :
    let d := line1 .delivering .none 300 watch
    (slotOutcome 1 .pressure .poll ⟨false, none⟩).refreshing = none ∧
    (slotOutcome 0 .pump (.speed 30) ⟨true, none⟩).refreshing = none ∧
    slotOutcome 0 .pump .poll ⟨false, some (answerOf 1#8 16#8 30 0 4#8)⟩ = .answer ⟨.status, 30, 0, false, false, true⟩ ∧
    (SlotOutcome.answer ⟨.status, 30, 0, false, false, true⟩).refreshing = none ∧
    ((missed 1 d).node 1).misses = 2 ∧ ((missed 1 d).node 1).stale = false ∧ (d.line .l1).state.holdable = true ∧
    (missed 0 (tripsBusy .opened)).deviceOf .l1 .pump = some 0 ∧
    ((missed 0 (tripsBusy .opened)).node 0).inFlight = some (flying (.speed 30) .send) ∧
    ((line1 .stopping .ramp 300 watch).line .l1).state.holdable = false ∧ d.reportsFlow := by
  unfold Device.reportsFlow; decide +kernel

/-- A faulty PUMP of a line above rate 0, at rate 0, in LINEUP and not active, and one with its SPEED in flight. -/
theorem witness_SlotResultsAreTaken_pumpFault :
    let x := flying (.speed 30) .send
    slotOutcome 0 .pump (.speed 30) ⟨false, some (answerOf 1#8 17#8 50 0 4#8)⟩
      = .answer ⟨.taken, 50, 0, false, false, true⟩ ∧
    messageOf (some x) = .speed 30 ∧ x.act = .speed (actNumber x.act) ∧ (watch.node 0).misses = 0 ∧
    0 < ((line1 .delivering .none 300 watch).governor .l1).allowed ∧
    ((line1 .held .hold 0 watch).line .l1).state.running = true ∧
    ((line1 .lineup .startWait 0 watch).line .l1).state = .lineup ∧
    ((line1 .closing .holdOff 0 watch).line .l1).state.active = false := by decide +kernel

theorem witness_SlotResultsAreTaken_latch :
    (line1 .delivering .none 300 watch).latchHolds ∧ (tripsBusy .opened).latchHolds ∧
    (staleLine .held .hold).latchHolds := by
  refine ⟨?_, ?_, ?_⟩ <;> intro l <;> cases l <;> decide +kernel

theorem witness_AValveThatTakesItsMoveTravels :
    let d := inSlot 3 (.move .opened) (inFlightAt 3 (flying (.move .opened) .send) watch)
    d.charter.mode = .watch ∧ d.bus.slot = some ⟨3, .move .opened, false⟩ ∧ (d.node 3).kind = .valve ∧
    (d.node 3).inFlight = some (flying (.move .opened) .send) ∧ (d.node 3).inLocal = false ∧
    slotOutcome 3 .valve (.move .opened) ⟨false, some (answerOf 4#8 17#8 97 0 0#8)⟩ =
      .answer ⟨.taken, 97, 0, false, false, false⟩ ∧
    ¬(97 ≤ targetNumber .opened + 2 ∧ targetNumber .opened ≤ 97 + 2) := by decide +kernel

/-- The premises of the statement on a transaction that ends in a slot: a MOVE of node 4 in a phase, on line 1. -/
def moves (x : Transaction) (d : Device) : Prop :=
  let d := inSlot 3 (messageOf (some x)) (inFlightAt 3 x d)
  d.charter.mode = .watch ∧ d.latchHolds ∧ d.bus.slot = some ⟨3, messageOf (some x), false⟩ ∧
  (d.node 3).kind = .valve ∧ (d.node 3).line = some .l1 ∧ (d.node 3).inFlight = some x ∧ (d.node 3).queued = none

theorem witness_AValveThatTakesItsMoveTravels_moves :
    moves (flying (.move .opened) .send) watch ∧ moves (flying (.move .opened) .travel) watch ∧
    moves { flying (.move .opened) .send with errors := 2 } (line1 .lineup .dischargeOpening 0 watch) ∧
    moves (flying (.move .opened) .send) (line1 .held .hold 0 watch) := by
  unfold moves
  refine ⟨⟨?_, ?_, ?_⟩, ⟨?_, ?_, ?_⟩, ⟨?_, ?_, ?_⟩, ⟨?_, ?_, ?_⟩⟩
  all_goals first
    | decide +kernel
    | intro l; cases l <;> decide +kernel

/-- DONE at a position within 2, REFUSED, FAILED by the fault flag and by silence, and the answers that leave LOCAL. -/
theorem witness_AValveThatTakesItsMoveTravels_outcomes :
    let o := fun (m : Message) (code : Byte) (a : Nat) (flags : Byte) =>
      slotOutcome 3 .valve m ⟨false, some (answerOf 4#8 code a 0 flags)⟩
    o (.move .opened) 17#8 98 0#8 = .answer ⟨.taken, 98, 0, false, false, false⟩ ∧
    98 ≤ targetNumber .opened + 2 ∧ targetNumber .opened ≤ 98 + 2 ∧
    o .poll 16#8 98 0#8 = .answer ⟨.status, 98, 0, false, false, false⟩ ∧
    o (.move .opened) 20#8 0 1#8 = .answer ⟨.refused, 0, 0, true, false, false⟩ ∧
    o (.move .opened) 17#8 0 4#8 = .answer ⟨.taken, 0, 0, false, false, true⟩ ∧
    slotOutcome 3 .valve (.move .opened) ⟨false, none⟩ = .silent ∧
    o (.move .opened) 17#8 50 0#8 = .answer ⟨.taken, 50, 0, false, false, false⟩ ∧
    o (.move .opened) 18#8 50 0#8 = .answer ⟨.busy, 50, 0, false, false, false⟩ := by decide +kernel

/-- Line 1 HELD with LOCAL_VALVE by node 4, whose flag has been REMOTE since; its MOVE is in SEND. -/
def refusedRemote : Device :=
  let d := onLine1 (fun c => { c with hold := { HoldSet.empty with localValve := true } }) (line1 .held .hold 0 watch)
  inSlot 3 (.move .opened) (inFlightAt 3 (flying (.move .opened) .send)
    (onNode 3 (fun n => { n with valve := .localControl }) d))

theorem witness_AValveThatTakesItsMoveTravels_local :
    (refusedRemote.node 3).valve = .localControl ∧ (refusedRemote.node 3).inLocal = false ∧
    refusedRemote.allRemote .l1 = true ∧ (refusedRemote.line .l1).state = .held ∧
    (refusedRemote.line .l1).hold.localValve = true ∧
    refusedRemote.time - (flying (.move .opened) .send).inFlightTime = 0 ∧
    (refusedRemote.node 3).inFlight = some (flying (.move .opened) .send) := by decide +kernel

/-- The ESD sequence of line 1 at step ESD_PUMP_STOP with its deadline due, MANIFOLD open or closed. -/
def tripping (manifold discharge : ValveState) : Device :=
  let d := latched (line1 .tripping .esdPumpStop 0 watch)
  { d with
    shutdown := { d.shutdown with sequence := ⟨.esdPumpStop, .none, .none⟩, pumpDeadline := ⟨some 0, none, none⟩ },
    nodes := putAt (putAt d.nodes 4 { d.node 4 with valve := manifold }) 3 { d.node 3 with valve := discharge } }

/-- The premises of the part on the pump: a SPEED of node 1 in a phase, on line 1. -/
def speeds (x : Transaction) (d : Device) : Prop :=
  let d := inSlot 0 (messageOf (some x)) (inFlightAt 0 x d)
  d.charter.mode = .watch ∧ d.latchHolds ∧ d.bus.slot = some ⟨0, messageOf (some x), false⟩ ∧
  (d.node 0).kind = .pump ∧ (d.node 0).line = some .l1 ∧ (d.node 0).inFlight = some x ∧ (d.node 0).queued = none

/-- Line 1 in step PUMP_STOPPING, with its strip flag. -/
def pumpStopping (strip : Bool) : Device :=
  onLine1 (fun c => { c with stripFlag := strip }) (line1 .stopping .pumpStopping 0 watch)

/-- Line 1 in DELIVERING with the speed 38 claimed. -/
def claimed : Device :=
  let d := line1 .delivering .none 300 watch
  { d with governors := { d.governors with l1 := { d.governors.l1 with lastSpeed := 38 } } }

theorem witness_AValveThatTakesItsMoveTravels_speeds :
    speeds (flying (.speed 0) .send) (pumpStopping true) ∧ speeds (flying (.speed 0) .travel) (pumpStopping false) ∧
    speeds { flying (.speed 38) .send with errors := 2 } claimed ∧
    speeds { flying (.speed 0) .send with origin := .esd } (tripping .opened .opened) ∧
    speeds (flying (.speed 0) .travel) watch := by
  unfold speeds
  refine ⟨⟨?_, ?_, ?_⟩, ⟨?_, ?_, ?_⟩, ⟨?_, ?_, ?_⟩, ⟨?_, ?_, ?_⟩, ⟨?_, ?_, ?_⟩⟩
  all_goals first
    | decide +kernel
    | intro l; cases l <;> decide +kernel

/-- TAKEN at another speed, the ends DONE at both phases and REFUSED, and the failed slots before and at the third. -/
theorem witness_AValveThatTakesItsMoveTravels_speedEnds :
    let o := fun (m : Message) (code : Byte) (a : Nat) =>
      slotOutcome 0 .pump m ⟨false, some (answerOf 1#8 code a 0 0#8)⟩
    let x := flying (.speed 0) .send
    o (.speed 0) 17#8 3 = .answer ⟨.taken, 3, 0, false, false, false⟩ ∧ speedEnd x 0 (o (.speed 0) 17#8 3) = none ∧
    speedEnd x 0 (o (.speed 0) 17#8 2) = some .done ∧
    speedEnd (flying (.speed 0) .travel) 0 (o .poll 16#8 2) = some .done ∧
    speedEnd x 0 (o (.speed 0) 20#8 50) = some .refused ∧
    speedEnd x 0 (slotOutcome 0 .pump (.speed 0) ⟨false, none⟩) = none ∧
    speedEnd { x with errors := 2 } 0 (slotOutcome 0 .pump (.speed 0) ⟨false, none⟩) = some .failed := by
  decide +kernel

/-- What the ends of a SPEED find: the pump stop, the speed last claimed, and step ESD_PUMP_STOP. -/
theorem witness_AValveThatTakesItsMoveTravels_speedEnded :
    ((pumpStopping true).line .l1).stripFlag = true ∧ ((pumpStopping false).line .l1).stripFlag = false ∧
    ((pumpStopping true).line .l1).step = .pumpStopping ∧ (claimed.line .l1).state.reclaims = true ∧
    (claimed.governor .l1).lastSpeed = 38 ∧ (tripping .opened .opened).shutdown.sequence.get .l1 = .esdPumpStop ∧
    (tripping .opened .opened).atRest .l1 .manifold .closed = false := by decide +kernel

/-- The device as the end of a MOVE in flight at a node finds it, its slot emptied and a queued claim gone in flight. -/
def endsOn (n : NodeNo) (g : Target) (o : TxOutcome) (d : Device) : Device :=
  ((inFlightAt n (flying (.move g) .travel) d).emptyInFlight n (.move g) o).promote n

/-- What the ends of MOVEs find in LINEUP and in PRIMING: MANIFOLD not OPEN yet, then the start condition failed and met. -/
theorem witness_AValveThatTakesItsMoveTravels_ends :
    (endsOn 3 .opened .done (line1 .lineup .dischargeOpening 0 watch)).valveIs .l1 .manifold .opened = false ∧
    (endsOn 3 .opened .done (openedAt 4 (line1 .lineup .dischargeOpening 0 watch))).valveIs .l1 .manifold .opened
      = true ∧
    (endsOn 4 .opened .done (line1 .lineup .manifoldOpening 0 watch)).startCondition .l1 = false ∧
    (endsOn 4 .opened .done (onNode 1 (fun n => { n with stale := false })
      (staleLine .lineup .manifoldOpening))).startCondition .l1 = true ∧
    ((line1 .priming .returnClosing 0 watch).line .l1).step = .returnClosing ∧ (watch.node 5).role = .returnValve := by
  decide +kernel

/-- Line 1 in CLOSING at VALVES_CLOSING, awaiting DISCHARGE alone or STRIP too. -/
def awaiting (strip : Bool) : Device :=
  let d := line1 .closing .valvesClosing 0 watch
  { d with memory := { d.memory with l1 := { d.memory.l1 with
      awaited := ((PerRole.all false).set .discharge true).set .strip strip } } }

/-- What they find in CLOSING: the last valve in flight and another, MANIFOLD idle, the last awaited valve and another. -/
theorem witness_AValveThatTakesItsMoveTravels_closing :
    let h := line1 .closing .holdOff 0 watch
    (endsOn 4 .opened .done h).valveInFlight .l1 = false ∧
    (endsOn 4 .opened .done (inFlightAt 3 (flying (.move .opened) .travel) h)).valveInFlight .l1 = true ∧
    ((endsOn 4 .closed .refused (line1 .closing .manifoldClosing 0 watch)).node 4).idle = true ∧
    ((awaiting false).sequenceMemory .l1).awaited.get .discharge = true ∧
    ((awaiting false).sequenceMemory .l1).awaited.set .discharge false = .all false ∧
    ((awaiting true).sequenceMemory .l1).awaited.set .discharge false ≠ .all false ∧
    ((endsOn 3 .closed .done (awaiting true)).node 3).idle = true := by decide +kernel

/-- Line 1 in TRIPPING at a step of its ESD sequence. -/
def esdAt (step : Step) : Device :=
  let d := latched (line1 .tripping step 0 watch)
  { d with shutdown := { d.shutdown with sequence := ⟨step, .none, .none⟩ } }

/-- What they find in TRIPPING: DISCHARGE not at rest CLOSED and at rest CLOSED, and in the last step the end. -/
theorem witness_AValveThatTakesItsMoveTravels_tripping :
    (endsOn 4 .closed .done (openedAt 3 (esdAt .esdManifold))).atRest .l1 .discharge .closed = false ∧
    (endsOn 4 .closed .done (esdAt .esdManifold)).atRest .l1 .discharge .closed = true ∧
    (esdAt .esdDischarge).shutdown.sequence.get .l1 = .esdDischarge ∧ (esdAt .esdDischarge).reportsFlow ∧
    (watch.node 3).role = .discharge ∧ (watch.node 4).role = .manifold := by
  unfold Device.reportsFlow; decide +kernel

theorem witness_AValveThatTakesItsMoveTravels_trippingLatch :
    (esdAt .esdManifold).latchHolds ∧ (esdAt .esdDischarge).latchHolds := by
  constructor <;> intro l <;> cases l <;> decide +kernel

theorem witness_ATravelExpiryFailsTheValve_speed :
    let x := flying (.speed 0) .travel
    let d := inFlightAt 0 x (pumpStopping true)
    d.latchHolds ∧ (d.node 0).kind = .pump ∧ (d.node 0).line = some .l1 ∧ (d.node 0).inFlight = some x ∧
    d.due x.travelExpiry = true := by
  refine ⟨?_, by decide +kernel⟩
  intro l; cases l <;> decide +kernel

theorem witness_ATravelExpiryFailsTheValve :
    let d := inFlightAt 4 (flying (.move .opened) .travel) (line1 .lineup .manifoldOpening 0 watch)
    d.latchHolds ∧ (d.node 4).kind = .valve ∧ (d.node 4).line = some .l1 ∧
    (d.node 4).inFlight = some (flying (.move .opened) .travel) ∧
    d.due (flying (.move .opened) .travel).travelExpiry = true ∧ (d.line .l1).state ≠ .free ∧
    d.shutdown.latch = false := by
  refine ⟨?_, by decide +kernel⟩
  intro l; cases l <;> decide +kernel

theorem witness_ShipStatusIsTaken :
    (Instr.shipStatus goodStatus).wellFormed = true ∧
    decodeShipFrame goodStatus = some (.status (.all ⟨.go, .unlimited, none⟩)) ∧ watch.link.taking = true ∧
    watch.link.partialFrame = none ∧ (watch.line .l1).state = .free := by decide +kernel

/-- A SHIP_STATUS with STOP for line 1 and NOT_READY for line 2. -/
def stopStatus : List Byte :=
  sealFrame [0x01#8, 3#8, 255#8, 255#8, 255#8, 255#8, 4#8, 255#8, 255#8, 255#8, 255#8, 1#8, 255#8, 255#8, 255#8, 255#8]

theorem witness_ShipStatusIsTaken_permits :
    (Instr.shipStatus stopStatus).wellFormed = true ∧
    decodeShipFrame stopStatus = some (.status ⟨⟨.stop, .unlimited, none⟩, ⟨.notReady, .unlimited, none⟩,
      ⟨.go, .unlimited, none⟩⟩) ∧
    ((line1 .topping .none 1 watch).line .l1).state.running = true ∧
    0 < ((line1 .topping .none 1 watch).governor .l1).allowed ∧
    ((line1 .topping .none 1 watch).line .l1).state.holdable = true := by decide +kernel

/-- GO on a HELD line with SHIP_NOT_READY and without, STOP at rate 0, and a start test that holds and one that does not. -/
theorem witness_ShipStatusIsTaken_effects :
    let h := onLine1 (fun c => { c with hold := { HoldSet.empty with shipNotReady := true } }) (line1 .held .hold 0 watch)
    let w := onNode 1 (fun n => { n with stale := false }) (staleLine .lineup .startWait)
    (h.line .l1).state = .held ∧ (h.line .l1).hold.shipNotReady = true ∧
    ((heldBy true).line .l1).hold.shipNotReady = false ∧ (pumpBusy.governor .l1).allowed = 0 ∧
    (pumpBusy.line .l1).state.running = true ∧ w.link.state = .active ∧ (w.line .l1).step = .startWait ∧
    w.startCondition .l1 = true ∧ (staleLine .lineup .startWait).startCondition .l1 = false := by decide +kernel

theorem witness_TankReportIsStored :
    (Instr.tankReport goodReport).wellFormed = true ∧
    decodeShipFrame goodReport = some (.tank ⟨0, 4096, .opened, .none⟩) ∧ watch.link.taking = true ∧
    watch.link.partialFrame = none ∧ watch.tank 0 = some tank ∧ tank.assigned = none ∧
    (watch.reportedTank { tank with capacity := 4096 } ⟨0, 4096, .opened, .none⟩).state ≠ tank.state ∧
    (watch.reportedTank { tank with capacity := 4096 } ⟨0, 4096, .opened, .none⟩).state.alarms = true := by
  decide +kernel

/-- Tank 1 of line 1 with a capacity and a state before: 4096 reported is OVERFILL in 4096, HIGH in
4200, NEAR in 5000, and FILLING or IDLE in 15000. -/
def assignedTank (capacity : Nat) (st : TankState) : Tank :=
  { tank with capacity := capacity, state := st, assigned := some .l1 }

/-- The state that the report gives it. -/
def reported (capacity : Nat) (st : TankState) (v : ShipValve) : Tank :=
  (line1 .delivering .none 300 watch).reportedTank (assignedTank capacity st) ⟨0, 4096, v, .none⟩

/-- A report of tank 1 with the valve CLOSED. -/
def closedReport : List Byte := sealFrame [0x02#8, 1#8, 0x10#8, 0#8, 2#8, 0#8]

theorem witness_TankReportIsStored_states :
    (Instr.tankReport closedReport).wellFormed = true ∧
    decodeShipFrame closedReport = some (.tank ⟨0, 4096, .closed, .none⟩) ∧
    (reported 4096 .filling .opened).state = .overfill ∧ (reported 4200 .near .opened).state = .high ∧
    (reported 4200 .high .closed).state = .high ∧ (reported 5000 .filling .opened).state = .near ∧
    (reported 15000 .high .closed).state = .idle ∧ (reported 15000 .high .opened).state = .filling ∧
    (reported 5000 .high .opened).state = .near ∧
    (reported 4200 .near .opened).openValve = true ∧ (reported 15000 .filling .closed).openValve = false ∧
    (assignedTank 5000 .filling).advice = .none := by decide +kernel

/-- Line 1 in a state, with tank 1 its only tank and a count of open tanks. -/
def withTank (e : Tank) (count : Nat) (d : Device) : Device :=
  let d := { d with tanks := putAt d.tanks 0 (some e) }
  { d with topOffs := { d.topOffs with l1 := { d.topOffs.l1 with openCount := count } } }

theorem witness_TankReportIsStored_line :
    let d := withTank (assignedTank 4200 .near) 1 (line1 .delivering .none 300 watch)
    let u := withTank (assignedTank 4200 .near) 1 (line1 .lineup .startWait 0 watch)
    let h := withTank (assignedTank 15000 .filling) 0
      (onLine1 (fun c => { c with hold := { HoldSet.empty with noPath := true } }) (line1 .held .hold 0 watch))
    d.link.taking = true ∧ d.link.partialFrame = none ∧ d.shutdown.latch = false ∧
    d.tank 0 = some (assignedTank 4200 .near) ∧ d.tank 1 = none ∧ (d.line .l1).state.running = true ∧
    (d.topOff .l1).openCount = 1 ∧ (u.line .l1).state = .lineup ∧ (h.topOff .l1).openCount = 0 ∧
    (h.line .l1).state = .held ∧ (h.line .l1).hold.noPath = true := by decide +kernel

theorem witness_TankReportIsStored_latch :
    (withTank (assignedTank 4200 .near) 1 (line1 .delivering .none 300 watch)).latchHolds := by
  intro l; cases l <;> decide +kernel

/-- A frame on the line, with advice for the tank and a line stopping queued. -/
def sending (d : Device) : Device :=
  { d with link := { d.link with sending := some [0x7E#8], queue := [.advice 0 .approaching, .stopping .l1 .shipStop] } }

/-- The send queue's clauses: OVERFILL, NEAR and HIGH entered, HIGH in the only open tank and with another open tank, the
transmitter busy or free with nothing queued. -/
theorem witness_TankReportIsStored_handed :
    let d := fun (e : Tank) => withTank e 1 (line1 .delivering .none 300 watch)
    let two : Device := { d (assignedTank 4200 .near) with
      tanks := putAt (d (assignedTank 4200 .near)).tanks 1 (some (assignedTank 15000 .filling)) }
    (sending (d (assignedTank 4096 .filling))).link.sending.isSome = true ∧ watch.link.sending = none ∧
    watch.link.queue = [] ∧ watch.link.state = .active ∧ watch.charter.mode = .watch ∧
    (sending (d (assignedTank 4096 .filling))).shutdown.latch = false ∧ (reported 4096 .filling .opened).state = .overfill ∧
    (reported 5000 .filling .opened).state = .near ∧ (reported 4200 .near .opened).state = .high ∧
    two.tank 1 = some (assignedTank 15000 .filling) ∧ (assignedTank 15000 .filling).openValve = true ∧
    ((line1 .closing .none 0 watch).line .l1).state.active = false ∧
    ((d (assignedTank 4200 .near)).line .l1).state.active = true := by decide +kernel

theorem witness_DiscardedFramesChangeNothing :
    watch.link.partialFrame = none ∧ (Instr.frameDiscarded [0x7E#8, 9#8]).wellFormed = true ∧
    (Instr.frameIncomplete [0x7E#8]).wellFormed = true := by decide

theorem witness_SilenceAndLossOfTheShipAreTaken :
    (line1 .delivering .none 1 watch).link.state = .active ∧
    (line1 .delivering .none 1 watch).due (line1 .delivering .none 1 watch).link.silenceExpiry = true ∧
    (setLink .silent (line1 .delivering .none 1 watch)).link.state = .silent ∧
    (setLink .silent (line1 .delivering .none 1 watch)).due
      (setLink .silent (line1 .delivering .none 1 watch)).link.lossExpiry = true ∧
    ((line1 .delivering .none 1 watch).line .l1).state.running = true := by decide +kernel

theorem witness_FramesAreSent :
    watch.charter.mode = .watch ∧ watch.link.statusExpiry = some 0 ∧ watch.reached 0 = true ∧
    ({ watch with link := { watch.link with sending := some [0x7E#8] } } : Device).link.sending.isSome = true := by
  decide

theorem witness_TankExpiriesAreTaken :
    let d := tank1 (fun e => { e with assigned := some .l1 }) (line1 .delivering .none 1 watch)
    d.tank 0 = some { tank with assigned := some .l1 } ∧ tank.freshness = .fresh ∧ tank.freshness ≠ .lost ∧
    d.due tank.silenceExpiry = true ∧ d.due tank.lostExpiry = true ∧ tank.openValve = true ∧
    (d.line .l1).state = .delivering ∧ 0 < (d.governor .l1).allowed := by decide +kernel

theorem witness_CloseDeadlineStopsTheLine :
    let d := tank1 (fun e => { e with assigned := some .l1 }) (line1 .delivering .none 1 watch)
    d.tank 0 = some { tank with assigned := some .l1 } ∧ d.due tank.closeDeadline = true ∧ tank.valve ≠ .closed ∧
    (d.line .l1).state.running = true ∧ 0 < (d.governor .l1).allowed ∧
    ({ tank with assigned := some .l1, valve := .closed } : Tank).valve = .closed := by decide +kernel

theorem witness_GovernorStepsMoveTheRate :
    let d := line1 .delivering .none 300 watch
    (d.governor .l1).expiry = some 0 ∧ d.reached 0 = true ∧ (d.line .l1).state = .delivering ∧
    d.ceilingOf .l1 = 800 ∧ (d.limits .l1).floor = 100 ∧ d.reduceIndication .l1 = false ∧
    ((line1 .topping .none 300 watch).line .l1).state = .topping ∧
    ((line1 .stopping .ramp 101 watch).line .l1).state = .stopping ∧
    100 < ((line1 .stopping .ramp 101 watch).governor .l1).allowed := by decide +kernel

/-- Line 1 in STOPPING at step RAMP with a floor rate of 0 and an allowed rate, its pump at speed 12. -/
def floorZero (allowed : Nat) : Device :=
  let d := line1 .stopping .ramp allowed watch
  { d with
    charter := { d.charter with inForce := some ⟨general, .all { limits with floor := 0 }⟩ },
    governors := { d.governors with l1 := { d.governors.l1 with lastSpeed := 12 } } }

/-- Line 1's speed last claimed is 0. -/
def onSpeed0 (d : Device) : Device :=
  { d with governors := { d.governors with l1 := { d.governors.l1 with lastSpeed := 0 } } }

/-- With a floor rate of 0 the step that lands on 0 claims SPEED 0: no next step, and step PUMP_STOPPING (R21, R31). -/
theorem test_ramp_lands_on_zero :
    let t := (after (.governorStep .l1) (at_ (floorZero 100))).device
    (t.governor .l1).expiry = none ∧ (t.governor .l1).allowed = 0 ∧ (t.governor .l1).lastSpeed = 0 ∧
    (t.line .l1).step = .pumpStopping ∧ (t.node 0).inFlight.map Transaction.act = some (.speed 0) := by decide +kernel

/-- Both clauses on a ramp with a floor rate of 0: at the fall amount and one above it, and at 0 with no claim to make. -/
theorem witness_GovernorStepsMoveTheRate_floorZero :
    let d := line1 .stopping .ramp 200 (floorZero 0)
    ((floorZero 200).limits .l1).floor = 0 ∧ ((floorZero 200).limits .l1).peak = 800 ∧
    ((floorZero 200).limits .l1).fallLimit = 16 ∧ max 1 (800 * 16 / 64) = 200 ∧ max 0 (200 - 200) = 0 ∧
    max 0 (201 - 200) = 1 ∧ ((floorZero 200).governor .l1).lastSpeed ≠ 0 ∧
    (floorZero 200).deviceOf .l1 .pump = some 0 ∧ ((floorZero 200).governor .l1).expiry = some 0 ∧
    (floorZero 200).reached 0 = true ∧ ((floorZero 201).governor .l1).allowed = 201 ∧
    ((onSpeed0 d).governor .l1).lastSpeed = 0 ∧ ((onSpeed0 d).governor .l1).reclaim = false := by decide +kernel

/-- Line 1 in PRIMING, the prime speed to be claimed again or not. -/
def reclaims (b : Bool) : Device :=
  let d := line1 .priming .prime 150 watch
  { d with governors := { d.governors with l1 := { d.governors.l1 with reclaim := b } } }

theorem witness_GovernorStepsMoveTheRate_end :
    let d := line1 .stopping .ramp 100 watch
    (d.governor .l1).expiry = some 0 ∧ d.reached 0 = true ∧ d.deviceOf .l1 .pump = some 0 ∧ (d.node 0).idle = true ∧
    (d.line .l1).state = .stopping ∧ (d.governor .l1).allowed ≤ (d.limits .l1).floor ∧
    ((reclaims true).line .l1).state = .priming ∧ ((reclaims true).governor .l1).reclaim = true ∧
    ((reclaims true).node 0).idle = true ∧ ((reclaims false).governor .l1).reclaim = false ∧
    (reclaims true).deviceOf .l1 .pump = some 0 := by decide +kernel

/-- A valve FAILED. -/
def failedValve (d : Device) : Device := { d with nodes := putAt d.nodes 4 { d.node 4 with valve := .failed } }

theorem witness_LineupLimitEndsTheLineup :
    let d := line1 .lineup .startWait 0 watch
    (d.line .l1).state = .lineup ∧ d.due (d.line .l1).deadline = true ∧ d.lowestFailedValve .l1 = none ∧
    (failedValve d).lowestFailedValve .l1 = some 4 ∧ (failedValve d).shutdown.latch = false := by decide +kernel

theorem witness_PrimeAndHoldLimitsStopTheLine :
    let d := line1 .priming .prime 1 watch
    let h := pumpBusy
    d.due (d.line .l1).deadline = true ∧ (d.line .l1).state = .priming ∧ (d.line .l1).step = .prime ∧
    0 < (d.governor .l1).allowed ∧ h.due (h.line .l1).deadline = true ∧ (h.line .l1).state = .held ∧
    (h.line .l1).step = .hold ∧ (h.governor .l1).allowed = 0 ∧ h.idleNode (h.deviceOf .l1 .pump) = false ∧
    (line1 .held .hold 0 watch).due ((line1 .held .hold 0 watch).line .l1).deadline = true ∧
    (line1 .held .hold 0 watch).idleNode ((line1 .held .hold 0 watch).deviceOf .l1 .pump) = true := by
  decide +kernel

theorem witness_PumpStopAndStripLimitsCloseTheLine :
    let d := line1 .stopping .pumpStopping 0 watch
    let h := line1 .stripping .strip 0 watch
    d.due (d.line .l1).deadline = true ∧ (d.line .l1).state = .stopping ∧ (d.line .l1).step = .pumpStopping ∧
    h.due (h.line .l1).deadline = true ∧ (h.line .l1).state = .stripping ∧ (h.line .l1).step = .strip := by
  decide +kernel

theorem witness_PumpStopAndStripLimitsCloseTheLine_claims :
    (pumpStopping true).due ((pumpStopping true).line .l1).deadline = true ∧
    ((pumpStopping true).line .l1).stripFlag = true ∧ (pumpStopping true).valveOf .l1 .strip = some 6 ∧
    ((pumpStopping true).node 6).idle = true ∧ ((pumpStopping false).line .l1).stripFlag = false := by decide +kernel

theorem witness_EsdPumpDeadlineClosesTheManifold :
    let d := tripping .opened .opened
    let c := tripping .closed .opened
    d.shutdown.sequence.get .l1 = .esdPumpStop ∧ d.due (d.shutdown.pumpDeadline.get .l1) = true ∧
    d.atRest .l1 .manifold .closed = false ∧ c.due (c.shutdown.pumpDeadline.get .l1) = true ∧
    c.atRest .l1 .manifold .closed = true ∧ c.atRest .l1 .discharge .closed = false := by decide +kernel

theorem witness_EsdPumpDeadlineClosesTheManifold_rest :
    let d := tripping .closed .closed
    d.shutdown.sequence.get .l1 = .esdPumpStop ∧ d.due (d.shutdown.pumpDeadline.get .l1) = true ∧
    d.atRest .l1 .manifold .closed = true ∧ d.atRest .l1 .discharge .closed = true ∧ d.reportsFlow := by
  unfold Device.reportsFlow; decide +kernel

/-- The valves that the expiry claims are idle, and not at rest CLOSED. -/
theorem witness_EsdPumpDeadlineClosesTheManifold_claims :
    let d := openedAt 6 (tripping .opened .opened)
    d.atRest .l1 .strip .closed = false ∧ d.valveOf .l1 .strip = some 6 ∧ (d.node 6).idle = true ∧
    d.valveOf .l1 .manifold = some 4 ∧ (d.node 4).idle = true ∧ d.valveOf .l1 .discharge = some 3 ∧
    (d.node 3).idle = true := by decide +kernel

/-- Each band at the lowest reading of its row, and LOW below the low limit (R75). -/
theorem witness_PressureBandsFollowTheTable :
    bandOf limits 1500 = .trip ∧ bandOf limits 1499 = .stop ∧ bandOf limits 1200 = .stop ∧
    bandOf limits 1199 = .reduce ∧ bandOf limits 900 = .reduce ∧ bandOf limits 899 = .normal ∧
    bandOf limits 40 = .normal ∧ bandOf limits 39 = .low ∧ limits.trip ≤ 2500 ∧ 2500 < 2501 := by decide

theorem witness_StepKeepsTheInvariants :
    (at_ watch).mem.wf = true ∧ watch.reports.producer < 64 ∧ watch.bargeLoopHolds ∧ watch.hornHolds ∧
    watch.latchHolds ∧ step (at_ watch) = .next { at_ watch with device := watch.tick } := by
  refine ⟨by decide, by decide, by unfold Device.bargeLoopHolds; decide, by unfold Device.hornHolds; decide, ?_, rfl⟩
  intro l; cases l <;> decide +kernel

theorem witness_StepKeepsTheLimitLock :
    locked.charter.lock = true ∧ (at_ locked).pending = [] ∧
    step (at_ locked) = .next { at_ locked with device := locked.tick } := ⟨rfl, rfl, rfl⟩

/-! ## Single steps across blocks -/

/-- The valve leaves LOCAL at TAKEN with its flag REMOTE already: the line primes again (R12, R134). -/
theorem test_local_valve_clears_at_taken :
    ((after (.slotResult ⟨false, some (answerOf 4#8 17#8 50 0 0#8)⟩) (at_ refusedRemote)).device.line .l1).state
      = .priming := by decide +kernel

/-- An OPEN whose only open tank is HIGH goes from FREE back to FREE, and its LINEUP starts a frame (R114). -/
theorem test_short_lineup_starts_a_frame :
    let d := setBurst (.read (.plan .l1 false)) (withTank { tank with capacity := 4200, volume := some 4096 } 0 watch)
    let t := after .planReadDone { at_ d with mem := planMemory }
    (t.device.line .l1).state = .free ∧ t.device.bus.mode = .rest ∧ t.device.bus.slot = some ⟨0, .poll, false⟩ := by
  decide +kernel

/-- RESUME displaces the queued RETURN claim: CLAIM_DROPPED goes ahead of LINE_STATE (R125). -/
theorem test_claim_dropped_first :
    let d := onNode 5 (fun n => { n with
      inFlight := some (flying (.move .closed) .travel), queued := some ⟨.move .opened, .sequence⟩ }) (heldBy false)
    let t := after (.resume .l1 0) (at_ d)
    t.device.jobs.entry.map Report.kind = some .claimDropped ∧
    t.device.reports.queue.map Report.kind = [.lineState] := by decide +kernel

/-- The pump deadline claims MANIFOLD CLOSED and STRIP CLOSED in one event (R92). -/
theorem test_esd_claims :
    let t := (after (.esdPumpDeadlineExpiry .l1) (at_ (openedAt 6 (tripping .opened .opened)))).device
    (t.node 4).inFlight = some ⟨.move .closed, .esd, .send, 0, 0, none, none⟩ ∧
    (t.node 6).inFlight = some ⟨.move .closed, .esd, .send, 0, 0, none, none⟩ ∧
    t.shutdown.sequence.l1 = .esdManifold := by decide +kernel

/-- TRIP while a SPEED is in flight and one queued at the pump: the ESD SPEED 0 supersedes both (R124). -/
theorem test_trip_supersedes :
    ((after (.trip 0) (at_ (tripsBusy .opened))).device.node 0).inFlight
      = some ⟨.speed 0, .esd, .send, 0, 0, none, none⟩ ∧
    ((after (.trip 0) (at_ (tripsBusy .opened))).device.node 0).queued = none := by decide +kernel

/-- The ESD end of MANIFOLD's MOVE brings step ESD_DISCHARGE (R93). -/
theorem test_esd_manifold_end :
    let x := { flying (.move .closed) .travel with origin := .esd }
    let d := inSlot 4 .poll (inFlightAt 4 x (openedAt 3 (esdAt .esdManifold)))
    (after (.slotResult ⟨false, some (answerOf 5#8 16#8 0 0 0#8)⟩) (at_ d)).device.shutdown.sequence.l1
      = .esdDischarge := by decide +kernel

/-- GO clears SHIP_NOT_READY: the line primes again (R14, R141). -/
theorem test_go_clears_ship_not_ready :
    let h := onLine1 (fun c => { c with hold := { HoldSet.empty with shipNotReady := true } }) (line1 .held .hold 0 watch)
    ((after (.shipStatus goodStatus) (at_ h)).device.line .l1).state = .priming := by decide +kernel

/-- A write of the present consumer index while memory still shows an older producer index raises the line (log 18). -/
theorem test_stale_producer_raises_the_line :
    let d := { watch with reports := { watch.reports with producerInMemory := 1 } }
    (after (.consumerIndexWrite 0) (at_ d)).device.reports.interrupt = true := by decide +kernel

/-- The SPEED 0 arrives in step PUMP_STOPPING: the line goes on to STRIPPING (R21). -/
theorem test_pump_stop :
    let d := inSlot 0 .poll (inFlightAt 0 (flying (.speed 0) .travel) (pumpStopping true))
    ((after (.slotResult ⟨false, some (answerOf 1#8 16#8 0 0 0#8)⟩) (at_ d)).device.line .l1).state = .stripping := by
  decide +kernel

/-- HIGH in the only open tank: CLOSE_NOW takes the place of APPROACHING, and the line stopping that of an older one
(R57, R62, R147). -/
theorem test_queue_entries_are_replaced :
    (after (.tankReport goodReport) (at_ (sending (withTank (assignedTank 4200 .near) 1
      (line1 .delivering .none 300 watch))))).device.link.queue
      = [.advice 0 .closeNow, .stopping .l1 .lastTankHigh] := by decide +kernel

/-- The read that waits is granted at the end of the burst (R157, R158). -/
theorem test_waiting_read_is_granted :
    (after .reportEntryDone (at_ readWaits)).device.port.waiting = [] ∧
    (after .reportEntryDone (at_ readWaits)).device.port.reply = some ⟨.pass, 0⟩ := by decide +kernel

/-- A station reset drops a LOAD_CHARTER whose load has ended: write jobs may be granted (R185). -/
theorem test_reset_opens_the_writes :
    (after .stationReset (at_ { watch with requests := ⟨[⟨.general, 0x10, 0, 0⟩], .resultWrite⟩ })).device.port.writesOpen
      = true := by decide +kernel

end Sys2Proof.Tests
end

/-! SUPPORT. The rows of R75's table, each with the rows above it failing, and the band of a reading as the row that
holds. -/

namespace Sys2Proof.Machine

open Sys2Proof

/-- The band's row is the first of R75's table whose condition holds of the reading: its own condition holds, and the
condition of every row above it fails. -/
def Band.IsFirstRow (lim : Limits) (p : Nat) : Band → Prop
  | .trip => lim.trip ≤ p
  | .stop => p < lim.trip ∧ lim.stop ≤ p
  | .reduce => p < lim.trip ∧ p < lim.stop ∧ lim.reduce ≤ p
  | .normal => p < lim.trip ∧ p < lim.stop ∧ p < lim.reduce ∧ lim.low ≤ p
  | .low => p < lim.trip ∧ p < lim.stop ∧ p < lim.reduce ∧ p < lim.low

/-- Going down the table, the classification stops at a row whose condition holds, past rows that failed. -/
theorem bandOf_isFirstRow (lim : Limits) (p : Nat) : (bandOf lim p).IsFirstRow lim p := by
  unfold bandOf
  split
  case isTrue trip => exact trip
  case isFalse noTrip =>
    have belowTrip := Nat.lt_of_not_le noTrip
    split
    case isTrue stop => exact ⟨belowTrip, stop⟩
    case isFalse noStop =>
      have belowStop := Nat.lt_of_not_le noStop
      split
      case isTrue reduce => exact ⟨belowTrip, belowStop, reduce⟩
      case isFalse noReduce =>
        have belowReduce := Nat.lt_of_not_le noReduce
        split
        case isTrue low => exact ⟨belowTrip, belowStop, belowReduce, low⟩
        case isFalse noLow => exact ⟨belowTrip, belowStop, belowReduce, Nat.lt_of_not_le noLow⟩

/-- A first row that holds is where the classification stops: the tests of the rows above it fail. -/
theorem bandOf_of_isFirstRow {lim : Limits} {p : Nat} {b : Band} (row : b.IsFirstRow lim p) : bandOf lim p = b := by
  cases b with
  | trip => exact if_pos row
  | stop =>
    obtain ⟨belowTrip, stop⟩ := row
    rw [bandOf, if_neg (Nat.not_le_of_lt belowTrip), if_pos stop]
  | reduce =>
    obtain ⟨belowTrip, belowStop, reduce⟩ := row
    rw [bandOf, if_neg (Nat.not_le_of_lt belowTrip), if_neg (Nat.not_le_of_lt belowStop), if_pos reduce]
  | normal =>
    obtain ⟨belowTrip, belowStop, belowReduce, low⟩ := row
    rw [bandOf, if_neg (Nat.not_le_of_lt belowTrip), if_neg (Nat.not_le_of_lt belowStop),
      if_neg (Nat.not_le_of_lt belowReduce), if_pos low]
  | low =>
    obtain ⟨belowTrip, belowStop, belowReduce, belowLow⟩ := row
    rw [bandOf, if_neg (Nat.not_le_of_lt belowTrip), if_neg (Nat.not_le_of_lt belowStop),
      if_neg (Nat.not_le_of_lt belowReduce), if_neg (Nat.not_le_of_lt belowLow)]

/-- R75: a reading's band is the first row of the table whose condition holds. -/
theorem bandOf_eq_iff {lim : Limits} {p : Nat} {b : Band} : bandOf lim p = b ↔ b.IsFirstRow lim p := by
  constructor
  · rintro rfl
    exact bandOf_isFirstRow lim p
  · exact bandOf_of_isFirstRow

/-- Settles O55: each clause is the row of its band, and a reading above 2500 kPa meets the first row. -/
theorem pressureBandsFollowTheTable : Obligations.PressureBandsFollowTheTable := by
  unfold Obligations.PressureBandsFollowTheTable
  intro lim p
  have aboveEveryLimit (hlim : lim.trip ≤ 2500) (hp : 2500 < p) : bandOf lim p = .trip :=
    bandOf_eq_iff.mpr (Nat.le_trans hlim (Nat.le_of_lt hp))
  exact ⟨bandOf_eq_iff, bandOf_eq_iff, bandOf_eq_iff, bandOf_eq_iff, bandOf_eq_iff, aboveEveryLimit⟩

end Sys2Proof.Machine

/-! SUPPORT. A request written with nothing in hand: the device it comes to, and what a request that is only given a
result leaves. With these, how TRIP_RESET is judged (R97) and what SILENCE does in each mode (R101). -/

namespace Sys2Proof.Machine

open Sys2Proof

/-! ## A request that arrives -/

/-- The device with a granted request alone in its queue, as the request unit finds it (R164). -/
def State.requestArrived (s : State) (w : RequestWord) (k : RequestKind) (a : Byte) : Device :=
  s.device.countGrant.withRequest ⟨w, kindCode k, a, s.device.time⟩

/-- The device at the end of the event of a request write: the request taken, the access answered (R152, R165). -/
def State.requestEvent (s : State) (w : RequestWord) (k : RequestKind) (a : Byte) : Device :=
  ((s.requestArrived w k a).takeHead.reply .rewrite 0).finish

@[simp] theorem State.requestArrived_mode (s : State) (w : RequestWord) (k : RequestKind) (a : Byte) :
    (s.requestArrived w k a).charter.mode = s.device.charter.mode := by
  simp [State.requestArrived]

/-- A request write with nothing in hand stores its word with PENDING and brings its event's device about (R164). -/
theorem State.request_event {s : State} (w : RequestWord) (k : RequestKind) (a : Byte) (h : s.takesRequest) :
    ∃ t, s.request w k a = .next t ∧ t.device = s.requestEvent w k a ∧
      storesOnly s.mem t.mem (s.device.address (requestOffset w)) [requestWordOf (kindCode k) a .pending] :=
  ⟨_, s.request_next w k a h, rfl,
    storesOnly_writeWord _ _ _ (s.device.address_room _ _ (requestOffset_room w).1) h.1⟩

/-- The word and the reply of a request write stand in its event; the queue is what taking the request leaves (R164). -/
theorem State.requestStored_of_event {s t : State} {w : RequestWord} {k : RequestKind} {a : Byte}
    (device : t.device = s.requestEvent w k a)
    (store : storesOnly s.mem t.mem (s.device.address (requestOffset w)) [requestWordOf (kindCode k) a .pending])
    (queue : (s.requestArrived w k a).takeHead.requests.queue = (s.requestArrived w k a).requests.queue) :
    s.requestStored t w k a := by
  refine ⟨store, ?_, ?_⟩
  · simp [device, State.requestEvent, Device.reply]
  · simp only [device, State.requestEvent, Device.finish_keeps, Device.reply_keeps, queue]
    rfl

/-- A request that arrives with nothing in hand is taken by the mode (R165, R166). -/
theorem State.requestArrived_taken {s : State} {w : RequestWord} {k : RequestKind} {a : Byte} {asked : Asked}
    (h : s.takesRequest) (kind : Request.asked ⟨w, kindCode k, a, s.device.time⟩ = some asked) :
    (s.requestArrived w k a).takeHead = match s.device.charter.mode with
      | .loading => s.requestArrived w k a
      | .passive => (s.requestArrived w k a).takeInPassive asked
      | .watch => (s.requestArrived w k a).takeInWatch asked := by
  obtain ⟨-, -, -, untaken⟩ := h
  have taken := s.device.countGrant.takeHead_withRequest _ asked kind (by simpa using untaken)
  rw [show s.device.countGrant.charter = s.device.charter by simp] at taken
  exact taken

/-! ## The frame of a request's event -/

/-- A request's result asked last in its event is its answer (R165). -/
theorem Device.askResult_answered (d : Device) (r : Result) (t : Treatment) (w : Word) :
    ((d.askResult r).reply t w).finish.answered r := by
  simp [Device.answered, Device.askResult]

@[simp] theorem Device.askResult_queue (d : Device) (r : Result) :
    (d.askResult r).requests.queue = d.requests.queue := rfl

/-- No request's event moves the clock. -/
theorem State.requestEvent_sameClock (s : State) (w : RequestWord) (k : RequestKind) (a : Byte) :
    s.device.SameClock (s.requestEvent w k a) := by
  simp [Device.SameClock, State.requestEvent, State.requestArrived]

/-- A request that is only given a result leaves the plant and the charter unit. -/
theorem State.askResult_samePlant (s : State) (w : RequestWord) (k : RequestKind) (a : Byte) (r : Result) :
    s.device.SamePlant (((s.requestArrived w k a).askResult r).reply .rewrite 0).finish ∧
      (((s.requestArrived w k a).askResult r).reply .rewrite 0).finish.charter = s.device.charter := by
  simp [Device.SamePlant, Device.SameLines, State.requestArrived]

/-- A request in PASSIVE other than LOAD_CHARTER is refused with NOT_LOADED (R166). -/
theorem Device.takeInPassive_refuses (d : Device) {asked : Asked} (h : asked ≠ .loadCharter) :
    d.takeInPassive asked = d.askResult .notLoaded := by
  cases asked with
  | loadCharter => exact absurd rfl h
  | _ => rfl

/-! ## TRIP_RESET (R97) -/

/-- The result of R97's table: the first condition that fails gives the refusal. -/
def Device.tripResetResult (s : Device) : Result :=
  if s.charter.mode ≠ .watch then .notLoaded
  else if s.shutdown.latch = false then .wrongState
  else if s.shutdown.shipLoop = .broken then .loopBroken
  else if (s.line .l1).state = .tripping ∨ (s.line .l2).state = .tripping ∨ (s.line .l3).state = .tripping then
    .linesActive
  else .done

/-- A condition on some line, named line by line. -/
theorem any_allLines_eq_true (p : Line → Prop) [DecidablePred p] :
    allLines.any (fun l => decide (p l)) = true ↔ p .l1 ∨ p .l2 ∨ p .l3 := by
  simp [allLines]

/-- In WATCH, TRIP_RESET is given the result of R97's table, and clears the latch when that is DONE. -/
theorem Device.takeTripReset_eq (s : Device) (watch : s.charter.mode = .watch) :
    s.takeTripReset = (if s.tripResetResult = .done then s.clearLatch else s).askResult s.tripResetResult := by
  unfold Device.takeTripReset Device.tripResetResult
  simp only [watch, ne_eq, not_true_eq_false, if_false, any_allLines_eq_true]
  by_cases clear : s.shutdown.latch = false
  case pos => simp [clear]
  by_cases broken : s.shutdown.shipLoop = .broken
  case pos => simp [clear, broken]
  by_cases tripping :
    (s.line .l1).state = .tripping ∨ (s.line .l2).state = .tripping ∨ (s.line .l3).state = .tripping
  case pos => simp [clear, broken, tripping]
  simp [clear, broken, tripping]

/-- The request unit judges TRIP_RESET on the state in which the request arrives. -/
theorem State.requestArrived_tripResetResult (s : State) (w : RequestWord) (k : RequestKind) (a : Byte) :
    (s.requestArrived w k a).tripResetResult = s.device.tripResetResult := by
  simp [Device.tripResetResult, State.requestArrived]

/-- TRIP_RESET handled outside LOADING is given the result of R97's table, and clears the latch when that is DONE. -/
theorem State.tripReset_taken {s : State} (a : Byte) (h : s.takesRequest)
    (handled : s.device.charter.mode ≠ .loading) :
    (s.requestArrived .general .tripReset a).takeHead =
      (if s.device.tripResetResult = .done then (s.requestArrived .general .tripReset a).clearLatch
        else s.requestArrived .general .tripReset a).askResult s.device.tripResetResult := by
  rw [State.requestArrived_taken h (asked := .tripReset) (by simp [Request.asked])]
  cases mode : s.device.charter.mode with
  | loading => exact absurd mode handled
  | passive =>
    have notLoaded : s.device.tripResetResult = .notLoaded := by simp [Device.tripResetResult, mode]
    simp [notLoaded, Device.takeInPassive_refuses]
  | watch =>
    rw [← s.requestArrived_tripResetResult .general .tripReset a]
    exact Device.takeTripReset_eq _ (by simpa using mode)

/-- Settles O19: the result is that of R97's table, and only the taken request reaches the plant. -/
theorem tripResetIsJudged : Obligations.TripResetIsJudged := by
  unfold Obligations.TripResetIsJudged
  intro a r s h handled judged
  replace judged : r = s.device.tripResetResult := judged
  subst judged
  obtain ⟨t, next, device, -⟩ := State.request_event .general .tripReset a h
  refine ⟨t, next, ?_, fun refused => ?_, device ▸ s.requestEvent_sameClock _ _ _⟩
  · rw [device, State.requestEvent, State.tripReset_taken a h handled]
    exact Device.askResult_answered _ _ _ _
  · rw [device, State.requestEvent, State.tripReset_taken a h handled, if_neg refused]
    exact s.askResult_samePlant _ _ _ _

/-! ## SILENCE (R101) -/

/-- SILENCE in WATCH is taken by the shutdown unit. -/
theorem State.silence_watch {s : State} (a : Byte) (h : s.takesRequest) (watch : s.device.charter.mode = .watch) :
    (s.requestArrived .general .silence a).takeHead = (s.requestArrived .general .silence a).takeSilence := by
  rw [State.requestArrived_taken h (asked := .silence) (by simp [Request.asked]), watch]
  rfl

/-- SILENCE in PASSIVE is refused. -/
theorem State.silence_passive {s : State} (a : Byte) (h : s.takesRequest) (passive : s.device.charter.mode = .passive) :
    (s.requestArrived .general .silence a).takeHead = (s.requestArrived .general .silence a).askResult .notLoaded := by
  rw [State.requestArrived_taken h (asked := .silence) (by simp [Request.asked]), passive]
  exact Device.takeInPassive_refuses _ (by simp)

/-- SILENCE in LOADING is not taken. -/
theorem State.silence_loading {s : State} (a : Byte) (h : s.takesRequest) (loading : s.device.charter.mode = .loading) :
    (s.requestArrived .general .silence a).takeHead = s.requestArrived .general .silence a := by
  rw [State.requestArrived_taken h (asked := .silence) (by simp [Request.asked]), loading]

/-- SILENCE sets only the horn, OFF, whatever it was. -/
theorem Device.takeSilence_shutdown (s : Device) :
    s.takeSilence.shutdown = { s.shutdown with hornSounding := false } := rfl

/-- Settles O20, by the mode in which the request arrives: taken, refused, or left in the queue. -/
theorem silenceTurnsTheHornOff : Obligations.SilenceTurnsTheHornOff := by
  unfold Obligations.SilenceTurnsTheHornOff
  intro a s h
  obtain ⟨t, next, device, store⟩ := State.request_event .general .silence a h
  refine ⟨fun watch => ⟨t, next, ?inWatch⟩, fun passive => ⟨t, next, ?inPassive⟩,
    fun loading => ⟨t, next, ?inLoading⟩⟩
  case inWatch =>
    have taken := State.silence_watch a h watch
    have stored := State.requestStored_of_event device store (by simp [taken, Device.takeSilence])
    rw [State.requestEvent, taken] at device
    refine ⟨stored, ?_, ?_⟩
    · rw [device]
      exact Device.askResult_answered _ _ _ _
    · simp [device, Device.takeSilence_shutdown, Device.SameLines, Device.SameClock, Device.SameRing,
        State.requestArrived]
  case inPassive =>
    rw [device, State.requestEvent, State.silence_passive a h passive]
    exact ⟨Device.askResult_answered _ _ _ _, s.askResult_samePlant _ _ _ _⟩
  case inLoading =>
    have waits := State.silence_loading a h loading
    have stored := State.requestStored_of_event device store (by rw [waits])
    obtain ⟨-, -, -, untaken⟩ := h
    rw [State.requestEvent, waits] at device
    refine ⟨stored, ?_⟩
    simp [device, Device.SamePlant, Device.SameLines, State.requestArrived, Device.withRequest, untaken]

end Sys2Proof.Machine

/-! SUPPORT. What every step keeps (O57 to O60). An ordinary operation leaves the latch, the ESD sequences, the shutdown
outputs and the device mode, and takes a line only among the states that trip, or from one of them to FREE; every operation
of the device is a chain of ordinary ones and of the few that the shutdown unit makes. -/

namespace Sys2Proof.Machine

open Sys2Proof

/-! ## Ordinary operations -/

/-- A line state left or kept by an ordinary operation: the states that trip lead to one another and to FREE, and the others
stand. -/
def LineState.Moves (a b : LineState) : Prop := b = a ∨ a.trips = true ∧ (b.trips = true ∨ b = .free)

theorem LineState.Moves.refl (a : LineState) : a.Moves a := .inl rfl

theorem LineState.Moves.of_eq {a b : LineState} (h : b = a) : a.Moves b := .inl h

theorem LineState.Moves.trans {a b c : LineState} (h : a.Moves b) (k : b.Moves c) : a.Moves c := by
  obtain rfl | ⟨ha, hb⟩ := h
  · exact k
  · obtain rfl | ⟨-, hc⟩ := k
    · exact .inr ⟨ha, hb⟩
    · exact .inr ⟨ha, hc⟩

/-- What an ordinary operation leaves of the shutdown unit, the charter unit and the report ring, and where it takes the
lines. -/
structure Device.Ordinary (s t : Device) : Prop where
  latch : t.shutdown.latch = s.shutdown.latch
  sequence : t.shutdown.sequence = s.shutdown.sequence
  bargeLoop : t.shutdown.bargeLoop = s.shutdown.bargeLoop
  horn : t.shutdown.hornSounding = s.shutdown.hornSounding
  alarm : t.shutdown.alarmPending = s.shutdown.alarmPending
  charter : t.charter.mode = s.charter.mode ∧ t.charter.lock = s.charter.lock
  producer : t.reports.producer = s.reports.producer
  lines : ∀ l, (s.line l).state.Moves (t.line l).state

theorem Device.Ordinary.refl (s : Device) : s.Ordinary s :=
  ⟨rfl, rfl, rfl, rfl, rfl, ⟨rfl, rfl⟩, rfl, fun _ => .refl _⟩

theorem Device.Ordinary.trans {s t u : Device} (h : s.Ordinary t) (k : t.Ordinary u) : s.Ordinary u :=
  ⟨k.latch.trans h.latch, k.sequence.trans h.sequence, k.bargeLoop.trans h.bargeLoop, k.horn.trans h.horn,
    k.alarm.trans h.alarm, ⟨k.charter.1.trans h.charter.1, k.charter.2.trans h.charter.2⟩, k.producer.trans h.producer,
    fun l => (h.lines l).trans (k.lines l)⟩

/-- An operation that touches none of the five blocks' items at all. -/
theorem Device.Ordinary.of_same {s t : Device} (lines : t.lines = s.lines) (shutdown : t.shutdown = s.shutdown)
    (charter : t.charter = s.charter) (producer : t.reports.producer = s.reports.producer) : s.Ordinary t := by
  refine ⟨?_, ?_, ?_, ?_, ?_, ⟨?_, ?_⟩, producer, fun l => .of_eq (by rw [Device.line_congr _ _ l lines])⟩ <;>
    simp [shutdown, charter]

/-- An operation on one line. -/
theorem Device.Ordinary.of_line {s t : Device} (l : Line) (state : (s.line l).state.Moves (t.line l).state)
    (others : ∀ m, m ≠ l → t.line m = s.line m) (shutdown : t.shutdown = s.shutdown) (charter : t.charter = s.charter)
    (producer : t.reports.producer = s.reports.producer) : s.Ordinary t := by
  refine ⟨?_, ?_, ?_, ?_, ?_, ⟨?_, ?_⟩, producer, fun m => ?_⟩
  case refine_8 =>
    by_cases h : m = l
    · exact h ▸ state
    · exact .of_eq (by rw [others m h])
  all_goals simp [shutdown, charter]

/-- A choice between two ordinary operations. -/
theorem Device.Ordinary.ite {s t u : Device} {p : Prop} [Decidable p] (h : p → s.Ordinary t) (k : ¬p → s.Ordinary u) :
    s.Ordinary (if p then t else u) := by
  split
  · exact h ‹_›
  · exact k ‹_›

/-- An operation made line by line is ordinary when it is on each line. -/
theorem Device.Ordinary.forLines {s : Device} {f : Line → Device → Device} (h : ∀ l (d : Device), d.Ordinary (f l d)) :
    s.Ordinary (s.forLines f) :=
  ((h .l1 s).trans (h .l2 _)).trans (h .l3 _)

end Sys2Proof.Machine

namespace Sys2Proof.Machine

open Sys2Proof

/-! ## Ordinary operations: link, bus, transactions -/

theorem Device.transmit_ordinary (s : Device) : s.Ordinary s.transmit :=
  .of_same (by simp) (by simp) (by simp) (by simp)

theorem Device.claimValve_ordinary (s : Device) (l : Line) (r : Role) (g : Target) (o : Origin) :
    s.Ordinary (s.claimValve l r g o) :=
  .of_same (by simp) (by simp) (by simp) (by simp)

theorem Device.setSequenceMemory_ordinary (s : Device) (l : Line) (m : SequenceMemory) :
    s.Ordinary (s.setSequenceMemory l m) :=
  .of_same (by simp) (by simp) (by simp) (by simp)

theorem Device.setHose_ordinary (s : Device) (l : Line) (h : Hose) : s.Ordinary (s.setHose l h) :=
  .of_same (by simp) (by simp) (by simp) (by simp)

theorem Device.setTank_ordinary (s : Device) (t : TankNo) (e : Tank) : s.Ordinary (s.setTank t e) :=
  .of_same (by simp) (by simp) (by simp) (by simp)

theorem Device.setNode_ordinary (s : Device) (n : NodeNo) (e : Node) : s.Ordinary (s.setNode n e) :=
  .of_same (by simp) (by simp) (by simp) (by simp)

theorem Device.setLink_ordinary (s : Device) (k : Link) : s.Ordinary (s.setLink k) :=
  .of_same (by simp) (by simp) (by simp) (by simp)

theorem Device.submit_ordinary (s : Device) (k : ReportKind) (l n : Nat) (c : ReportCause) (a b : Word) :
    s.Ordinary (s.submit k l n c a b) :=
  .of_same (by simp) (by simp) (by simp) (by simp)

theorem Device.placeReports_ordinary (s : Device) : s.Ordinary s.placeReports :=
  .of_same (by simp) (by simp) (by simp) (by simp)

theorem Device.reportTank_ordinary (s : Device) (t : TankNo) (e : Tank) (c : ReportCause) :
    s.Ordinary (s.reportTank t e c) :=
  .of_same (by simp) (by simp) (by simp) (by simp)

theorem Device.takeBusMode_ordinary (s : Device) : s.Ordinary s.takeBusMode :=
  .of_same (by simp) (by simp) (by simp) (by simp)

/-- A line context stored with the state unchanged. -/
theorem Device.setLine_ordinary (s : Device) (l : Line) (c : LineContext) (h : c.state = (s.line l).state) :
    s.Ordinary (s.setLine l c) :=
  .of_line l (.of_eq (by simp [h])) (fun m hm => by simp [hm]) (by simp) (by simp) (by simp)

theorem Device.setStep_ordinary (s : Device) (l : Line) (p : Step) : s.Ordinary (s.setStep l p) :=
  s.setLine_ordinary l _ rfl

theorem Device.setDeadline_ordinary (s : Device) (l : Line) (d : Time) : s.Ordinary (s.setDeadline l d) :=
  s.setLine_ordinary l _ rfl

/-- A change of line state among those an ordinary operation makes. -/
theorem Device.enterState_ordinary (s : Device) (l : Line) (st : LineState) (p : Step) (c : ReportCause)
    (h : (s.line l).state.Moves st) : s.Ordinary (s.enterState l st p c) :=
  .of_line l (by simpa using h) (fun m hm => by simp [hm]) (by simp) (by simp) (by simp)

theorem Device.handTopping_ordinary (s : Device) (l : Line) : s.Ordinary (s.handTopping l) := by
  have recomputed : s.Ordinary (s.recompute l) :=
    .of_line l (.of_eq (by simp)) (fun m hm => by simp [hm]) (by simp) (by simp) (by simp)
  unfold Device.handTopping
  refine recomputed.trans ?_
  dsimp only
  split
  case h_1 state => exact .ite (fun _ => .refl _) fun _ => enterState_ordinary _ _ _ _ _ (.inr (by simp [state, LineState.trips]))
  case h_2 state => exact .ite (fun _ => enterState_ordinary _ _ _ _ _ (.inr (by simp [state, LineState.trips]))) fun _ => .refl _
  case h_3 => exact .refl _

theorem Device.handToppingAll_ordinary (s : Device) : s.Ordinary s.handToppingAll :=
  .forLines fun l d => .ite (fun _ => .refl _) fun _ => d.handTopping_ordinary l

theorem Device.handToppingOf_ordinary (s : Device) (e : Tank) : s.Ordinary (s.handToppingOf e) := by
  unfold Device.handToppingOf
  split
  · exact .refl _
  · exact s.handTopping_ordinary _

/-! ## Ordinary operations of the line controller -/

theorem Device.primeClaim_ordinary (s : Device) (l : Line) : s.Ordinary (s.primeClaim l) := by
  obtain ⟨-, state, -⟩ := s.primeClaim_primed l
  exact .of_line l (.of_eq state) (fun m hm => by simp [hm]) (by simp) (by simp) (by simp)

theorem Device.startTest_ordinary (s : Device) (l : Line) : s.Ordinary (s.startTest l) := by
  refine .ite (fun h => ?_) fun _ => .refl _
  obtain ⟨lineup, -⟩ := h
  exact (s.enterState_ordinary l _ _ _ (.inr (by simp [lineup, LineState.trips]))).trans (primeClaim_ordinary _ l)

theorem Device.clearHold_ordinary (s : Device) (l : Line) (c : HoldCause) : s.Ordinary (s.clearHold l c) := by
  refine .of_line l ?_ (fun m hm => by simp [hm]) (by simp) (by simp) (by simp)
  by_cases h : (s.line l).state = .held ∧ (s.line l).hold.has c = true
  · obtain ⟨held, has⟩ := h
    obtain ⟨-, taken⟩ := s.clearHold_cleared l c held has
    split at taken
    · obtain ⟨priming, -⟩ := taken
      exact .inr (by simp [held, priming, LineState.trips])
    · exact .inr (by simp [held, taken, LineState.trips])
  · exact .of_eq (by simp only [Device.clearHold, if_neg h])

theorem LineState.trips_of_holdable {a : LineState} (h : a.holdable = true) : a.trips = true := by
  revert h
  cases a <;> decide

theorem LineState.trips_of_running {a : LineState} (h : a.running = true) : a.trips = true := by
  revert h
  cases a <;> decide

theorem Device.holdTrigger_ordinary (s : Device) (l : Line) (c : HoldCause) : s.Ordinary (s.holdTrigger l c) := by
  refine .ite (fun holdable => ?_) fun _ => .ite (fun _ => s.setLine_ordinary l _ rfl) fun _ => .refl _
  obtain ⟨held, -⟩ := s.enterHeld_line l c
  exact .of_line l (.inr ⟨LineState.trips_of_holdable holdable, .inl (by simp [held, LineState.trips])⟩)
    (fun m hm => by simp [hm]) (by simp) (by simp) (by simp)

theorem Device.primingComplete_ordinary (s : Device) (l : Line) : s.Ordinary (s.primingComplete l) := by
  refine .ite (fun h => ?_) fun _ => .refl _
  obtain ⟨priming, -⟩ := h
  have delivering := s.enterState_ordinary l .delivering .none .none (.inr (by simp [priming, LineState.trips]))
  have topping (d : Device) (h : (d.line l).state = .delivering) :
      d.Ordinary (if (d.line l).topping.isEmpty then d else d.enterState l .topping .none .none) :=
    .ite (fun _ => .refl _) fun _ => d.enterState_ordinary l _ _ _ (.inr (by simp [h, LineState.trips]))
  have started (d : Device) : d.Ordinary (d.startRate l) := .of_same (by simp) (by simp) (by simp) (by simp)
  exact (delivering.trans (topping _ (by simp))).trans (started _)

/-- A line in a state that trips goes to FREE. -/
theorem Device.enterFree_ordinary (s : Device) (l : Line) (h : (s.line l).state.trips = true) :
    s.Ordinary (s.enterFree l) :=
  .of_line l (.inr ⟨h, .inr (s.enterFree_state l)⟩) (fun m hm => by simp [hm]) (by simp) (by simp) (by simp)

theorem Device.closeValves_ordinary (s : Device) (l : Line) (h : (s.line l).state.trips = true) :
    s.Ordinary (s.closeValves l) :=
  .of_line l ((s.closeValves_state l).imp_right fun free => ⟨h, .inr free⟩) (fun m hm => by simp [hm]) (by simp) (by simp)
    (by simp)

theorem Device.closeManifold_ordinary (s : Device) (l : Line) (h : (s.line l).state.trips = true) :
    s.Ordinary (s.closeManifold l) :=
  .of_line l ((s.closeManifold_state l).imp_right fun free => ⟨h, .inr free⟩) (fun m hm => by simp [hm]) (by simp) (by simp)
    (by simp)

theorem Device.enterClosing_ordinary (s : Device) (l : Line) (h : (s.line l).state.trips = true) :
    s.Ordinary (s.enterClosing l) := by
  refine .of_line l (.inr ⟨h, ?_⟩) (fun m hm => by simp [hm]) (by simp) (by simp) (by simp)
  obtain closing | free := s.enterClosing_state l
  · exact .inl (by simp [closing, LineState.trips])
  · exact .inr free

/-- A line in a state that trips leaves STOPPING. -/
theorem Device.leaveStopping_ordinary (s : Device) (l : Line) (h : (s.line l).state.trips = true) :
    s.Ordinary (s.leaveStopping l) := by
  refine .of_line l (.inr ⟨h, ?_⟩) (fun m hm => by simp [hm]) (by simp) (by simp) (by simp)
  obtain stripping | closing | free := s.leaveStopping_state l
  · exact .inl (by simp [stripping, LineState.trips])
  · exact .inl (by simp [closing, LineState.trips])
  · exact .inr free

theorem Device.enterPumpStopping_ordinary (s : Device) (l : Line) (h : (s.line l).state.trips = true) :
    s.Ordinary (s.enterPumpStopping l) := by
  refine .of_line l ?_ (fun m hm => by simp [hm]) (by simp) (by simp) (by simp)
  obtain same | stripping | closing | free := s.enterPumpStopping_state l
  · exact .of_eq same
  · exact .inr ⟨h, .inl (by simp [stripping, LineState.trips])⟩
  · exact .inr ⟨h, .inl (by simp [closing, LineState.trips])⟩
  · exact .inr ⟨h, .inr free⟩

theorem Device.stopTrigger_ordinary (s : Device) (l : Line) (c : Cause) (b : Bool) : s.Ordinary (s.stopTrigger l c b) := by
  refine .of_line l ?_ (fun m hm => by simp [hm]) (by simp) (by simp) (by simp)
  unfold Device.stopTrigger
  dsimp only
  split
  case isTrue lineup =>
    refine .inr ⟨by simp [lineup, LineState.trips], ?_⟩
    obtain closing | free := s.closeFromLineup_state l c
    · exact .inl (by simp [closing, LineState.trips])
    · exact .inr free
  case isFalse =>
    split
    case isTrue running =>
      refine .inr ⟨LineState.trips_of_running running, ?_⟩
      obtain stopping | stripping | closing | free := s.enterStopping_state l c b
      · exact .inl (by simp [stopping, LineState.trips])
      · exact .inl (by simp [stripping, LineState.trips])
      · exact .inl (by simp [closing, LineState.trips])
      · exact .inr free
    case isFalse => exact .refl _

theorem Device.stopActive_ordinary (s : Device) (c : Cause) : s.Ordinary (s.stopActive c) :=
  .forLines fun l d => .ite (fun _ => d.stopTrigger_ordinary l c false) fun _ => .refl _

theorem Device.governorStep_ordinary (s : Device) (l : Line) (due : Time) : s.Ordinary (s.governorStep l due) := by
  unfold Device.governorStep
  split
  case h_4 stopping =>
    refine .ite (fun _ => ?_) fun _ => .of_same (by simp) (by simp) (by simp) (by simp)
    have ended : s.Ordinary (s.rampEnd l) := .of_same (by simp) (by simp) (by simp) (by simp)
    exact ended.trans (enterPumpStopping_ordinary _ l (by simp [stopping, LineState.trips]))
  case h_5 => exact .refl _
  all_goals exact .of_same (by simp) (by simp) (by simp) (by simp)

theorem Device.stripComplete_ordinary (s : Device) (l : Line) : s.Ordinary (s.stripComplete l) := by
  refine .ite (fun h => ?_) fun _ => .refl _
  obtain ⟨stripping, -⟩ := h
  exact (s.setLine_ordinary l { s.line l with stripResult := .complete } rfl).trans
    (enterClosing_ordinary _ l (by simp [stripping, LineState.trips]))

theorem Device.stripExpired_ordinary (s : Device) (l : Line) (h : (s.line l).state.trips = true) :
    s.Ordinary (s.stripExpired l) :=
  (s.setLine_ordinary l { s.line l with stripResult := .incomplete } rfl).trans
    (enterClosing_ordinary _ l (by simpa using h))

theorem Device.enterStartWait_ordinary (s : Device) (l : Line) : s.Ordinary (s.enterStartWait l) :=
  (s.setStep_ordinary l _).trans (startTest_ordinary _ l)

theorem Device.enterManifoldOpening_ordinary (s : Device) (l : Line) : s.Ordinary (s.enterManifoldOpening l) :=
  (s.setStep_ordinary l _).trans <|
    .ite (fun _ => enterStartWait_ordinary _ l) fun _ => claimValve_ordinary _ _ _ _ _

theorem Device.lineupClaims_ordinary (s : Device) (l : Line) : s.Ordinary (s.lineupClaims l) := by
  have unlessClosed (d : Device) (r : Role) :
      d.Ordinary (if d.valveIs l r .closed then d else d.claimValve l r .closed .sequence) :=
    .ite (fun _ => .refl _) fun _ => claimValve_ordinary _ _ _ _ _
  exact (unlessClosed s .returnValve).trans <| (unlessClosed _ .strip).trans <|
    .ite (fun _ => enterManifoldOpening_ordinary _ l) fun _ => claimValve_ordinary _ _ _ _ _

theorem Device.valveRemote_ordinary (s : Device) (l : Line) (r : Role) : s.Ordinary (s.valveRemote l r) :=
  .ite (fun _ => ((s.setSequenceMemory_ordinary l _).trans (claimValve_ordinary _ _ _ _ _)).trans (startTest_ordinary _ l))
    fun _ => s.startTest_ordinary l

theorem Device.lineupEnd_ordinary (s : Device) (l : Line) (r : Role) (o : TxOutcome) : s.Ordinary (s.lineupEnd l r o) :=
  .ite (fun _ => (s.setSequenceMemory_ordinary l _).trans (startTest_ordinary _ l)) fun _ =>
    .ite (fun _ => s.enterManifoldOpening_ordinary l) fun _ =>
      .ite (fun _ => s.enterStartWait_ordinary l) fun _ => s.startTest_ordinary l

theorem Device.closingEnd_ordinary (s : Device) (l : Line) (n : NodeNo) (r : Role) (h : (s.line l).state = .closing) :
    s.Ordinary (s.closingEnd l n r) := by
  have trips : (s.line l).state.trips = true := by simp [h, LineState.trips]
  unfold Device.closingEnd
  split
  · exact .ite (fun _ => .refl _) fun _ => s.closeManifold_ordinary l trips
  · exact .ite (fun _ => s.closeValves_ordinary l trips) fun _ => .refl _
  · have freed (d : Device) (h : (d.line l).state.trips = true) :
        d.Ordinary (if d.closingDone l then d.enterFree l else d) :=
      .ite (fun _ => d.enterFree_ordinary l h) fun _ => .refl _
    exact .ite (fun _ => (s.setSequenceMemory_ordinary l _).trans (freed _ (by simpa using trips))) fun _ => .refl _
  · exact .refl _

theorem Device.valveEnd_ordinary (s : Device) (l : Line) (n : NodeNo) (a : Act) (o : TxOutcome) :
    s.Ordinary (s.valveEnd l n a o) := by
  unfold Device.valveEnd
  dsimp only
  split
  · exact s.lineupEnd_ordinary l _ o
  · exact .ite (fun _ => s.primeClaim_ordinary l) fun _ => .refl _
  case h_3 closing => exact s.closingEnd_ordinary l n _ closing
  · exact .refl _

theorem Device.pumpEnd_ordinary (s : Device) (l : Line) (n : NodeNo) : s.Ordinary (s.pumpEnd l n) := by
  refine .ite (fun h => ?_) fun _ => s.startTest_ordinary l
  obtain ⟨stopping, -⟩ := h
  exact s.leaveStopping_ordinary l (by simp [stopping, LineState.trips])

/-! ## Ordinary operations of the tank watch and the hose watch -/

theorem Device.checkLastTank_ordinary (s : Device) (l : Line) : s.Ordinary (s.checkLastTank l) :=
  .ite (fun _ => s.stopTrigger_ordinary l _ _) fun _ => .refl _

theorem Device.pathEffect_ordinary (s : Device) (l : Line) (a b : Nat) : s.Ordinary (s.pathEffect l a b) :=
  .ite (fun _ => s.holdTrigger_ordinary l _) fun _ => .ite (fun _ => s.clearHold_ordinary l _) fun _ => .refl _

theorem Device.tankSilent_ordinary (s : Device) (t : TankNo) (e : Tank) : s.Ordinary (s.tankSilent t e) :=
  .ite (fun _ => ((s.setTank_ordinary t _).trans (reportTank_ordinary _ _ _ _)).trans (handToppingOf_ordinary _ _))
    fun _ => .refl _

theorem Device.tankLost_ordinary (s : Device) (t : TankNo) (e : Tank) : s.Ordinary (s.tankLost t e) := by
  refine .ite (fun _ => .refl _) fun _ => ?_
  have lost := (s.setTank_ordinary t { e with freshness := .lost, lostExpiry := none }).trans
    (reportTank_ordinary _ t { e with freshness := .lost, lostExpiry := none } (.freshness .lost)) |>.trans
    (handToppingOf_ordinary _ { e with freshness := .lost, lostExpiry := none })
  dsimp only
  split
  · exact lost
  · exact lost.trans (.ite (fun _ => stopTrigger_ordinary _ _ _ _) fun _ => .refl _)

theorem Device.closeOverdue_ordinary (s : Device) (t : TankNo) (e : Tank) : s.Ordinary (s.closeOverdue t e) := by
  have cleared := s.setTank_ordinary t { e with closeDeadline := none }
  unfold Device.closeOverdue
  dsimp only
  split
  · exact cleared
  · exact cleared.trans (.ite (fun _ => .refl _) fun _ => stopTrigger_ordinary _ _ _ _)

theorem Device.adviseTank_ordinary (s : Device) (t : TankNo) (o : TankState) : s.Ordinary (s.adviseTank t o) :=
  .of_same (by simp) (by simp) (by simp) (by simp)

theorem Device.assignTanks_ordinary (s : Device) (l : Line) (ts : List TankNo) : s.Ordinary (s.assignTanks l ts) := by
  refine .of_line l (.of_eq ?_) (fun m hm => by simp [hm]) (by simp) (by simp) (by simp)
  simp [Device.assignTanks]

theorem Device.primingReading_ordinary (s : Device) (l : Line) (p : Nat) : s.Ordinary (s.primingReading l p) :=
  .ite (fun _ => .refl _) fun _ => .ite (fun _ => s.setHose_ordinary l _) fun _ =>
    .ite (fun _ => s.setHose_ordinary l _) fun _ => (s.setHose_ordinary l _).trans (primingComplete_ordinary _ l)

theorem Device.stripReading_ordinary (s : Device) (l : Line) (p : Nat) : s.Ordinary (s.stripReading l p) :=
  .ite (fun _ => s.stripComplete_ordinary l) fun _ => .refl _

theorem Device.flowReading_ordinary (s : Device) (l : Line) (w : Word) : s.Ordinary (s.flowReading l w) := by
  refine .ite (fun _ => .refl _) fun _ => ?_
  have counted : s.Ordinary (s.countDelivered l w) := by
    refine .ite (fun _ => Ordinary.trans ?_ (handTopping_ordinary _ l)) fun _ => .refl _
    exact .of_same (by simp) (by simp) (by simp) (by simp)
  exact counted.trans (.ite (fun _ => stopTrigger_ordinary _ _ _ _) fun _ => .refl _)

/-! ## Ordinary operations of the deck bus and the ship link -/

theorem Device.clearLocal_ordinary (s : Device) (l : Line) : s.Ordinary (s.clearLocal l) :=
  .ite (fun _ => s.clearHold_ordinary l _) fun _ => .refl _

theorem Device.positionTaken_ordinary (s : Device) (b : Node) : s.Ordinary (s.positionTaken b) := by
  unfold Device.positionTaken
  split
  · exact .refl _
  · exact .ite (fun _ => (s.valveRemote_ordinary _ _).trans (.ite (fun _ => .refl _) fun _ => clearLocal_ordinary _ _))
      fun _ => s.startTest_ordinary _

theorem Device.takeRecord_ordinary (s : Device) (n : NodeNo) (b : Node) (o : SlotOutcome) :
    s.Ordinary (s.takeRecord n b o) := by
  have target (d : Device) (v : ValveState) : d.Ordinary (d.firstTarget n v) :=
    .of_same (by simp) (by simp) (by simp) (by simp)
  have position (d : Device) (a : Answer) : d.Ordinary (d.takePosition n b a) :=
    .ite (fun _ => (d.setNode_ordinary n _).trans (target _ _) |>.trans
      (.ite (fun _ => .refl _) fun _ => positionTaken_ordinary _ b)) fun _ => .refl _
  refine Ordinary.trans (s.setNode_ordinary n (b.take o)) ?_
  unfold Device.takeRecord
  split
  · exact .refl _
  · exact position _ _

theorem Device.takeFreshness_ordinary (s : Device) (n : NodeNo) (o : SlotOutcome) : s.Ordinary (s.takeFreshness n o) := by
  have fresh : s.Ordinary (s.becomeFresh n) := by
    have told := (s.setNode_ordinary n { s.node n with stale := false }).trans
      (submit_ordinary _ .nodeFresh (lineNumberOr0 (s.node n).line) (nodeAddress n) .none
        (BitVec.ofNat 32 (s.node n).readingA) 0)
    unfold Device.becomeFresh
    dsimp only
    split
    · exact told
    · exact told.trans (Ordinary.trans (.ite (fun _ => clearHold_ordinary _ _ _) fun _ => .refl _) (startTest_ordinary _ _))
  have stale : s.Ordinary (s.becomeStale n o) := by
    have told := (s.setNode_ordinary n { s.node n with stale := true }).trans
      (submit_ordinary _ .nodeStale (lineNumberOr0 (s.node n).line) (nodeAddress n) (.stale (staleCauseOf o))
        (BitVec.ofNat 32 (s.node n).readingA) 0)
    unfold Device.becomeStale
    dsimp only
    split
    · exact told
    · exact told.trans (Ordinary.trans (.ite (fun _ => holdTrigger_ordinary _ _ _) fun _ => .refl _) (startTest_ordinary _ _))
  unfold Device.takeFreshness
  dsimp only
  split
  · exact .ite (fun _ => fresh) fun _ => .refl _
  · exact .ite (fun _ => stale) fun _ => .refl _

theorem Device.pumpFault_ordinary (s : Device) (n : NodeNo) (o : SlotOutcome) : s.Ordinary (s.pumpFault n o) := by
  unfold Device.pumpFault
  split
  · exact .refl _
  · exact .ite (fun _ => stopTrigger_ordinary _ _ _ _) fun _ => .refl _

theorem Device.leaveLocal_ordinary (s : Device) (b : Node) : s.Ordinary (s.leaveLocal b) := by
  unfold Device.leaveLocal
  split
  · exact .refl _
  · exact .ite (fun _ => s.clearLocal_ordinary _) fun _ => .refl _

theorem Device.takeRemote_ordinary (s : Device) (b : Node) (o : SlotOutcome) : s.Ordinary (s.takeRemote b o) := by
  unfold Device.takeRemote
  split
  · exact .ite (fun _ => (s.valveRemote_ordinary _ _).trans (clearLocal_ordinary _ _)) fun _ => .refl _
  · exact .refl _

theorem Device.promote_ordinary (s : Device) (n : NodeNo) : s.Ordinary (s.promote n) :=
  .of_same (by simp) (by simp) (by simp) (by simp)

theorem Device.governorEnd_ordinary (s : Device) (l : Line) (n : NodeNo) (a : Act) (o : TxOutcome) :
    s.Ordinary (s.governorEnd l n a o) :=
  .of_same (by simp) (by simp) (by simp) (by simp)

theorem Device.permitEffect_ordinary (s : Device) (l : Line) (p : Permit) : s.Ordinary (s.permitEffect l p) := by
  refine .ite (fun _ => .refl _) fun _ => ?_
  cases p with
  | go => exact s.clearHold_ordinary l _
  | reduce => exact s.clearHold_ordinary l _
  | notReady => exact s.holdTrigger_ordinary l _
  | stop => exact .ite (fun _ => s.stopTrigger_ordinary l _ _) fun _ => .refl _

theorem Device.takeStatus_ordinary (s : Device) (st : PerLine LineStatus) : s.Ordinary (s.takeStatus st) := by
  have stored : s.Ordinary (s.storeStatus st) := .of_same (by simp) (by simp) (by simp) (by simp)
  have permits (d : Device) : d.Ordinary (d.forLines fun l s => s.permitEffect l (st.get l).permit) :=
    .forLines fun l d => d.permitEffect_ordinary l _
  have topping (d : Device) : d.Ordinary (if s.link.state = .active then d else d.handToppingAll) :=
    .ite (fun _ => .refl _) fun _ => d.handToppingAll_ordinary
  have starts (d : Device) : d.Ordinary (d.forLines fun l s => s.startTest l) := .forLines fun l d => d.startTest_ordinary l
  exact stored.trans (placeReports_ordinary _) |>.trans (permits _) |>.trans (placeReports_ordinary _)
    |>.trans (topping _) |>.trans (placeReports_ordinary _) |>.trans (starts _) |>.trans (transmit_ordinary _)

theorem Device.shipSilence_ordinary (s : Device) : s.Ordinary s.shipSilence :=
  (s.setLink_ordinary _).trans (submit_ordinary _ _ _ _ _ _ _) |>.trans (handToppingAll_ordinary _)

theorem Device.shipLoss_ordinary (s : Device) : s.Ordinary s.shipLoss :=
  (s.setLink_ordinary _).trans (submit_ordinary _ _ _ _ _ _ _) |>.trans (placeReports_ordinary _)
    |>.trans (stopActive_ordinary _ _) |>.trans (handToppingAll_ordinary _)

end Sys2Proof.Machine

namespace Sys2Proof.Machine

open Sys2Proof

/-! ## What every operation keeps -/

/-- The invariants that an operation keeps, each by itself: the producer index in its ring (R173), the barge loop (R87), the
horn (R100), the lines and the latch (R25, R89, R98), and a limit lock that is SET (R184). -/
structure Device.Keeps (s t : Device) : Prop where
  producer : s.reports.producer < 64 → t.reports.producer < 64
  bargeLoop : s.bargeLoopHolds → t.bargeLoopHolds
  horn : s.hornHolds → t.hornHolds
  latch : s.latchHolds → t.latchHolds
  lock : s.charter.lock = true → t.charter.lock = true

theorem Device.Keeps.refl (s : Device) : s.Keeps s := ⟨id, id, id, id, id⟩

theorem Device.Keeps.trans {s t u : Device} (h : s.Keeps t) (k : t.Keeps u) : s.Keeps u :=
  ⟨k.producer ∘ h.producer, k.bargeLoop ∘ h.bargeLoop, k.horn ∘ h.horn, k.latch ∘ h.latch, k.lock ∘ h.lock⟩

theorem Device.Keeps.ite {s t u : Device} {p : Prop} [Decidable p] (h : p → s.Keeps t) (k : ¬p → s.Keeps u) :
    s.Keeps (if p then t else u) := by
  split
  · exact h ‹_›
  · exact k ‹_›

/-- An operation followed by another on a condition. -/
theorem Device.Keeps.andIf {s t u : Device} {p : Prop} [Decidable p] (h : s.Keeps t) (k : p → t.Keeps u) :
    s.Keeps (if p then u else t) :=
  .ite (fun hp => h.trans (k hp)) fun _ => h

theorem Device.Keeps.andUnless {s t u : Device} {p : Prop} [Decidable p] (h : s.Keeps t) (k : ¬p → t.Keeps u) :
    s.Keeps (if p then t else u) :=
  .ite (fun _ => h) fun hp => h.trans (k hp)

/-- Where a line stands by the latch: with it SET in no state that trips, with it CLEAR neither TRIPPING nor TRIPPED. -/
def LineState.Agrees (latch : Bool) (a : LineState) : Prop :=
  if latch = true then a.trips = false else a ≠ .tripping ∧ a ≠ .tripped

theorem LineState.Agrees.moves {latch : Bool} {a b : LineState} (h : a.Agrees latch) (k : a.Moves b) : b.Agrees latch := by
  obtain rfl | ⟨trips, stays⟩ := k
  · exact h
  · cases latch with
    | true => exact absurd trips (by simpa [LineState.Agrees] using h)
    | false => revert stays; cases b <;> simp [LineState.Agrees, LineState.trips]

/-- An ordinary operation keeps all five: a TRIPPING line, which alone has an ESD sequence, stands. -/
theorem Device.Ordinary.keeps {s t : Device} (h : s.Ordinary t) : s.Keeps t where
  producer := by rw [h.producer]; exact id
  bargeLoop := by simp only [Device.bargeLoopHolds, h.bargeLoop, h.charter.1, h.latch]; exact id
  horn := by simp only [Device.hornHolds, h.horn, h.alarm]; exact id
  lock := by rw [h.charter.2]; exact id
  latch := by
    intro holds l
    obtain ⟨agrees, sequence⟩ := holds l
    rw [h.latch, h.sequence]
    refine ⟨LineState.Agrees.moves agrees (h.lines l), fun running => ?_⟩
    obtain same | ⟨trips, -⟩ := h.lines l
    · rw [same]
      exact sequence running
    · rw [sequence running] at trips
      cases trips

/-- An operation on the shutdown unit's other items keeps all five. -/
theorem Device.Keeps.of_shutdown {s t : Device} (horn : s.hornHolds → t.hornHolds)
    (shutdown : t.shutdown.latch = s.shutdown.latch ∧ t.shutdown.sequence = s.shutdown.sequence ∧
      t.shutdown.bargeLoop = s.shutdown.bargeLoop)
    (lines : t.lines = s.lines) (charter : t.charter = s.charter) (producer : t.reports.producer = s.reports.producer) :
    s.Keeps t := by
  obtain ⟨latch, sequence, bargeLoop⟩ := shutdown
  refine ⟨by rw [producer]; exact id, ?_, horn, ?_, by rw [charter]; exact id⟩
  · simp only [Device.bargeLoopHolds, bargeLoop, charter, latch]
    exact id
  · simp only [Device.latchHolds, latch, sequence, Device.line_congr _ _ _ lines]
    exact id

/-! ## The shutdown unit -/

theorem Device.alarmEvent_keepsAll (s : Device) : s.Keeps s.alarmEvent :=
  .of_shutdown (fun _ _ => rfl) (by simp) (by simp) (by simp) (by simp)

theorem Device.judgeAlarm_keepsAll (s : Device) : s.Keeps s.judgeAlarm := by
  refine .of_shutdown (fun holds => ?_) (by simp) (by simp) (by simp) (by simp)
  unfold Device.judgeAlarm
  split
  · intro sounding
    cases sounding
  · exact holds

/-- An indication that stands, or clears or sets and is judged. -/
theorem Device.retakeTankAlarm_keepsAll (s : Device) : s.Keeps s.retakeTankAlarm := by
  refine .ite (fun _ => .refl _) fun _ => ?_
  have taken : s.Keeps (s.setShutdown { s.shutdown with tankAlarm := s.anyTankHigh }) :=
    .of_shutdown (fun holds => holds) (by simp) (by simp) (by simp) (by simp)
  exact .ite (fun _ => taken) fun _ => taken.trans (judgeAlarm_keepsAll _)

theorem Device.retakeValveAlarm_keepsAll (s : Device) : s.Keeps s.retakeValveAlarm := by
  refine .ite (fun _ => .refl _) fun _ => ?_
  have taken : s.Keeps (s.setShutdown { s.shutdown with valveAlarm := s.anyValveFailed }) :=
    .of_shutdown (fun holds => holds) (by simp) (by simp) (by simp) (by simp)
  exact .ite (fun _ => taken) fun _ => taken.trans (judgeAlarm_keepsAll _)

theorem Device.setLatch_sequence (s : Device) (c : Cause) (line subject v : Nat) (m : Line) :
    (s.setLatch c line subject v).shutdown.sequence.get m =
      if (s.line m).state.trips = true then .esdPumpStop else s.shutdown.sequence.get m := by
  unfold Device.setLatch
  dsimp only
  rw [Device.startSequences_sequence]
  simp [s.mem_trippingLines m]

/-- The setting of the latch: each line that trips is TRIPPING with its sequence, and the others already stood in agreement
with a latch that is SET or CLEAR (R89). -/
theorem Device.setLatch_keepsAll (s : Device) (c : Cause) (line subject v : Nat) :
    s.Keeps (s.setLatch c line subject v) := by
  obtain ⟨latch, -, -, -, bargeLoop, -, alarm, lines⟩ := s.setLatch_latchSet c line subject v
  refine ⟨by simp, fun _ => ?_, fun _ _ => alarm, fun holds l => ?_, by simp⟩
  · simp [Device.bargeLoopHolds, bargeLoop, latch]
  · obtain ⟨-, sequence⟩ := holds l
    have := lines l
    rw [latch, Device.setLatch_sequence]
    split at this
    case isTrue trips =>
      obtain ⟨tripping, -⟩ := this
      simp [tripping, LineState.trips]
    case isFalse stands =>
      rw [this, if_neg stands]
      exact ⟨by simpa using stands, sequence⟩

theorem Device.esdTrigger_keepsAll (s : Device) (c : Cause) (line subject v : Nat) :
    s.Keeps (s.esdTrigger c line subject v) :=
  .ite (fun _ => (s.submit_ordinary _ _ _ _ _ _).keeps) fun _ => s.setLatch_keepsAll c line subject v

/-! ## The ESD sequence -/

/-- A step of a sequence that runs: its line stays TRIPPING. -/
theorem Device.setSequence_keepsAll (s : Device) (l : Line) (p : Step) (running : s.shutdown.sequence.get l ≠ .none) :
    s.Keeps (s.setSequence l p) := by
  refine ⟨by simp, ?_, ?_, fun holds m => ?_, by simp⟩
  · simp [Device.bargeLoopHolds]
  · simp [Device.hornHolds]
  · obtain ⟨agrees, sequence⟩ := holds m
    have state : ((s.setSequence l p).line m).state = (s.line m).state := by
      unfold Device.setSequence Device.setStep
      by_cases h : m = l
      · subst h
        simp
      · simp [h]
    have stored : (s.setSequence l p).shutdown.sequence.get m = if m = l then p else s.shutdown.sequence.get m := by
      simp [Device.setSequence, Device.setStep]
    rw [state, stored]
    refine ⟨by simpa using agrees, fun h => ?_⟩
    by_cases at_l : m = l
    · exact sequence (at_l ▸ running)
    · exact sequence (by simpa [at_l] using h)

/-- The end of a sequence: the latch is SET, since the line is TRIPPING, and the line is TRIPPED. -/
theorem Device.esdFinish_keepsAll (s : Device) (l : Line) (running : s.shutdown.sequence.get l ≠ .none) :
    s.Keeps (s.esdFinish l) := by
  refine ⟨by simp, ?_, ?_, fun holds m => ?_, by simp⟩
  · simp [Device.bargeLoopHolds]
  · simp [Device.hornHolds]
  · obtain ⟨agrees, sequence⟩ := holds m
    obtain ⟨ended, tripped, -⟩ := s.esdFinish_taken l
    by_cases at_l : m = l
    · subst at_l
      rw [sequence running] at agrees
      rw [tripped, ended]
      simpa [LineState.trips] using agrees
    · have stored : (s.esdFinish l).shutdown.sequence.get m = s.shutdown.sequence.get m := by
        simp [Device.esdFinish, Device.setSequence, Device.setStep, at_l]
      simp only [stored, Device.esdFinish_other s l m at_l]
      exact ⟨by simpa using agrees, sequence⟩

theorem Device.setSequence_sequence (s : Device) (l : Line) (p : Step) :
    (s.setSequence l p).shutdown.sequence.get l = p := by
  simp [Device.setSequence, Device.setStep]

theorem Device.esdDischarge_keepsAll (s : Device) (l : Line) (running : s.shutdown.sequence.get l ≠ .none) :
    s.Keeps (s.esdDischarge l) :=
  (s.setSequence_keepsAll l .esdDischarge running).trans <|
    .ite (fun _ => esdFinish_keepsAll _ l (by simp [Device.setSequence_sequence])) fun _ =>
      (claimValve_ordinary _ _ _ _ _).keeps

theorem Device.claimUnlessAtRest_ordinary (s : Device) (l : Line) (r : Role) (g : Target) :
    s.Ordinary (s.claimUnlessAtRest l r g) :=
  .ite (fun _ => .refl _) fun _ => s.claimValve_ordinary l r g _

theorem Device.esdManifold_keepsAll (s : Device) (l : Line) (running : s.shutdown.sequence.get l ≠ .none) :
    s.Keeps (s.esdManifold l) := by
  have deadline : s.Keeps (s.setPumpDeadline l none) :=
    .of_shutdown (fun holds => holds) (by simp) (by simp) (by simp) (by simp)
  have step := setSequence_keepsAll (s.setPumpDeadline l none) l .esdManifold (by simpa using running)
  have claims (d : Device) : d.Keeps ((d.claimUnlessAtRest l .manifold .closed).claimUnlessAtRest l .strip .closed) :=
    ((d.claimUnlessAtRest_ordinary l _ _).trans (claimUnlessAtRest_ordinary _ l _ _)).keeps
  refine deadline.trans (step.trans ((claims _).trans (.ite (fun _ => ?_) fun _ => .refl _)))
  exact esdDischarge_keepsAll _ l (by simp [Device.setSequence_sequence])

/-- The end of an ESD transaction goes on with a sequence that runs, or does nothing. -/
theorem Device.esdEnd_keepsAll (s : Device) (l : Line) (n : NodeNo) : s.Keeps (s.esdEnd l n) := by
  unfold Device.esdEnd
  split
  case h_1 running _ => exact s.esdManifold_keepsAll l (by simp [running])
  case h_2 running _ _ => exact s.esdDischarge_keepsAll l (by simp [running])
  case h_3 running _ _ => exact s.esdFinish_keepsAll l (by simp [running])
  case h_4 => exact .refl _

theorem Device.takeShipLoop_keepsAll (s : Device) (c : Loop) : s.Keeps (s.takeShipLoop c) := by
  refine .ite (fun _ => .refl _) fun _ => ?_
  have taken : s.Keeps (s.setShutdown { s.shutdown with shipLoop := c }) :=
    .of_shutdown (fun holds => holds) (by simp) (by simp) (by simp) (by simp)
  cases c with
  | healthy => exact taken
  | broken => exact taken.trans (.ite (fun _ => esdTrigger_keepsAll _ _ _ _ _) fun _ => .refl _)

/-- TRIP_RESET with no line TRIPPING: each TRIPPED line goes to CLOSING or FREE, and no sequence runs (R98). -/
theorem Device.clearLatch_keepsAll (s : Device) (idle : ∀ l, (s.line l).state ≠ .tripping) : s.Keeps s.clearLatch := by
  obtain ⟨latch, -, -, -, bargeLoop, -⟩ := s.clearLatch_shutdown
  refine ⟨by simp, fun _ => ?_, fun holds => ?_, fun holds l => ?_, by simp⟩
  · simp [Device.bargeLoopHolds, bargeLoop, latch]
  · refine (judgeAlarm_keepsAll _).horn ?_
    simpa [Device.hornHolds] using holds
  · obtain ⟨agrees, sequence⟩ := holds l
    have := s.clearLatch_line l
    refine ⟨?_, fun running => absurd (sequence (by simpa using running)) (idle l)⟩
    rw [if_neg (by simp [latch])]
    split at this
    · obtain state | state := this <;> simp [state]
    case isFalse notTripped =>
      rw [this]
      exact ⟨idle l, notTripped⟩

/-! ## Tank reports and OPEN -/

theorem Device.lineEffects_keepsAll (s : Device) (l : Line) (t : TankNo) (o : TankState) (e : Tank) (n : Nat) :
    s.Keeps (s.lineEffects l t o e n) := by
  have overfill : s.Keeps (if e.state = .overfill ∧ o ≠ .overfill then s.overfillTrigger l t e else s) :=
    .ite (fun _ => s.esdTrigger_keepsAll _ _ _ _) fun _ => .refl _
  have rest (d : Device) : d.Ordinary ((d.adviseTank t o).placeReports.checkLastTank l).placeReports :=
    (d.adviseTank_ordinary t o).trans (placeReports_ordinary _) |>.trans (checkLastTank_ordinary _ l)
      |>.trans (placeReports_ordinary _)
  have path (d : Device) : d.Ordinary (((d.pathEffect l n (d.openTanks l).length).placeReports.handTopping l).startTest l) :=
    (d.pathEffect_ordinary l _ _).trans (placeReports_ordinary _) |>.trans (handTopping_ordinary _ l)
      |>.trans (startTest_ordinary _ l)
  exact overfill.trans ((rest _).trans (path _)).keeps

/-- A tank's report stored, with its reports and alarms, before the effects on its line (R50 items 1 to 3). -/
def Device.reportStored (s : Device) (r : TankReport) (old : Tank) : Device :=
  let e := s.reportedTank old r
  let s := s.setTank r.tank e
  let s := if old.freshness = .fresh then s else s.reportTank r.tank e (.freshness .fresh)
  let s := if e.state = old.state then s else s.reportTank r.tank e (.tank e.state)
  let s := if e.state ≠ old.state ∧ e.state.alarms = true then s.alarmEvent else s
  s.retakeTankAlarm.placeReports

/-- The open-tank count of a tank's assigned line, 0 without one. -/
def Device.countOf (s : Device) (e : Tank) : Nat :=
  match e.assigned with
  | none => 0
  | some l => (s.topOff l).openCount

theorem Device.evaluate_absent {s : Device} {r : TankReport} (h : s.tank r.tank = none) : s.evaluate r = s := by
  simp [Device.evaluate, h]

theorem Device.evaluate_unassigned {s : Device} {r : TankReport} {old : Tank} (h : s.tank r.tank = some old)
    (a : (s.reportedTank old r).assigned = none) : s.evaluate r = s.reportStored r old := by
  simp [Device.evaluate, h, a, Device.reportStored]

theorem Device.evaluate_assigned {s : Device} {r : TankReport} {old : Tank} {l : Line} (h : s.tank r.tank = some old)
    (a : (s.reportedTank old r).assigned = some l) :
    s.evaluate r = (s.reportStored r old).lineEffects l r.tank old.state (s.reportedTank old r) (s.countOf old) := by
  simp [Device.evaluate, h, a, Device.reportStored, Device.countOf] <;> rfl

theorem Device.reportStored_keepsAll (s : Device) (r : TankReport) (old : Tank) : s.Keeps (s.reportStored r old) := by
  refine Keeps.trans ?_ ((retakeTankAlarm_keepsAll _).trans (placeReports_ordinary _).keeps)
  refine Keeps.andIf (Keeps.andUnless (Keeps.andUnless (s.setTank_ordinary r.tank _).keeps ?_) ?_) ?_
  · exact fun _ => (reportTank_ordinary _ _ _ _).keeps
  · exact fun _ => (reportTank_ordinary _ _ _ _).keeps
  · exact fun _ => alarmEvent_keepsAll _

theorem Device.evaluate_keepsAll (s : Device) (r : TankReport) : s.Keeps (s.evaluate r) := by
  cases present : s.tank r.tank with
  | none =>
    rw [Device.evaluate_absent present]
    exact .refl _
  | some old =>
    cases assigned : (s.reportedTank old r).assigned with
    | none =>
      rw [Device.evaluate_unassigned present assigned]
      exact s.reportStored_keepsAll r old
    | some l =>
      rw [Device.evaluate_assigned present assigned]
      exact (s.reportStored_keepsAll r old).trans (lineEffects_keepsAll _ _ _ _ _ _)

theorem Device.assignEffect_keepsAll (s : Device) (l : Line) (t : TankNo) : s.Keeps (s.assignEffect l t) := by
  unfold Device.assignEffect
  split
  · exact .refl _
  · split
    · exact s.esdTrigger_keepsAll _ _ _ _
    · exact (s.adviseTank_ordinary t _).keeps

theorem Device.Keeps.foldl {α : Type} {f : Device → α → Device} (h : ∀ d x, Device.Keeps d (f d x)) (xs : List α)
    (s : Device) : s.Keeps (xs.foldl f s) := by
  induction xs generalizing s with
  | nil => exact .refl _
  | cons x xs ih => exact (h s x).trans (ih (f s x))

theorem Device.assignEffects_keepsAll (s : Device) (l : Line) : s.Keeps (s.assignEffects l) :=
  (Keeps.foldl (fun d t => d.assignEffect_keepsAll l t) _ s).trans (checkLastTank_ordinary _ l).keeps

/-- LINEUP entered by a FREE line with the latch CLEAR: it has no ESD sequence. -/
theorem Device.enterLineup_keepsAll (s : Device) (l : Line) (free : (s.line l).state = .free)
    (clear : s.shutdown.latch = false) : s.Keeps (s.enterState l .lineup .dischargeOpening .none) := by
  refine ⟨by simp, ?_, ?_, fun holds m => ?_, by simp⟩
  · simp [Device.bargeLoopHolds]
  · simp [Device.hornHolds]
  · obtain ⟨agrees, sequence⟩ := holds m
    by_cases at_l : m = l
    · subst at_l
      simp only [Device.enterState_keeps, clear, Device.enterState_context]
      exact ⟨by simp, fun running => by simp [free] at sequence; exact absurd sequence running⟩
    · simp only [Device.enterState_keeps, s.enterState_other l _ _ _ m at_l]
      exact ⟨by simpa using agrees, sequence⟩

/-- A line's OPEN taken up to its entry to LINEUP: the context, the delivered quantity and the plan's tanks (R4, R65). -/
def Device.openPrepared (s : Device) (l : Line) (p : Plan) : Device :=
  let s := s.setLine l ((s.line l).opened p.nominated (s.meterTotal l))
  let s := s.setGovernor l { s.governor l with delivered := 0 }
  (s.assignTanks l p.tanks).setSequenceMemory l .reset

/-- A line in LINEUP with its limit set, before the line effects of its tanks (R4, R65). -/
def Device.lineupEntered (s : Device) (l : Line) (p : Plan) : Device :=
  let s := ((s.openPrepared l p).enterState l .lineup .dischargeOpening .none).takeBusMode
  s.setDeadline l ((s.line l).entry + BitVec.ofNat 32 ((s.limits l).lineupLimit * 10))

theorem Device.takeOpen_eq (s : Device) (l : Line) (p : Plan) :
    s.takeOpen l p = if (((s.lineupEntered l p).assignEffects l).line l).state = .lineup then
      ((s.lineupEntered l p).assignEffects l).lineupClaims l else (s.lineupEntered l p).assignEffects l := rfl

theorem Device.openPrepared_ordinary (s : Device) (l : Line) (p : Plan) : s.Ordinary (s.openPrepared l p) := by
  have governor (d : Device) : d.Ordinary (d.setGovernor l { d.governor l with delivered := 0 }) :=
    .of_same (by simp) (by simp) (by simp) (by simp)
  exact (s.setLine_ordinary l ((s.line l).opened p.nominated (s.meterTotal l)) rfl).trans (governor _)
    |>.trans (assignTanks_ordinary _ l p.tanks) |>.trans (setSequenceMemory_ordinary _ l .reset)

theorem Device.openPrepared_state (s : Device) (l : Line) (p : Plan) :
    ((s.openPrepared l p).line l).state = (s.line l).state := by
  simp [Device.openPrepared, Device.assignTanks, LineContext.opened]

theorem Device.takeOpen_keepsAll (s : Device) (l : Line) (p : Plan) (free : (s.line l).state = .free)
    (clear : s.shutdown.latch = false) : s.Keeps (s.takeOpen l p) := by
  have prepared := s.openPrepared_ordinary l p
  have lineup := enterLineup_keepsAll (s.openPrepared l p) l (by rw [s.openPrepared_state, free])
    (by rw [prepared.latch, clear])
  have entered : s.Keeps (s.lineupEntered l p) :=
    prepared.keeps.trans (lineup.trans ((takeBusMode_ordinary _).trans (setDeadline_ordinary _ l _)).keeps)
  rw [Device.takeOpen_eq]
  exact (entered.trans (assignEffects_keepsAll _ l)).trans
    (.ite (fun _ => (lineupClaims_ordinary _ l).keeps) fun _ => .refl _)

theorem Device.askResult_ordinary (s : Device) (r : Result) : s.Ordinary (s.askResult r) :=
  .of_same (by simp) (by simp) (by simp) (by simp)

/-- An OPEN with no refusal finds its line FREE and the latch CLEAR (R167). -/
theorem Device.openRefusal_none {s : Device} {l : Line} {p : Plan} (h : s.openRefusal l p = none) :
    (s.line l).state = .free ∧ s.shutdown.latch = false := by
  unfold Device.openRefusal at h
  split at h
  · cases h
  · split at h
    · cases h
    case isFalse free =>
      split at h
      · cases h
      case isFalse clear => exact ⟨Decidable.of_not_not free, by simpa using clear⟩

theorem Device.judgeOpen_keepsAll (s : Device) (l : Line) (p : Plan) : s.Keeps (s.judgeOpen l p) := by
  unfold Device.judgeOpen
  split
  · exact (s.askResult_ordinary _).keeps
  case h_2 accepted =>
    obtain ⟨free, clear⟩ := Device.openRefusal_none accepted
    exact (s.takeOpen_keepsAll l p free clear).trans (askResult_ordinary _ _).keeps

/-! ## Transactions and slots -/

theorem Device.endTransaction_keepsAll (s : Device) (n : NodeNo) (o : TxOutcome) : s.Keeps (s.endTransaction n o) := by
  have triggers (d : Device) (l : Line) (a : Act) : d.Keeps (d.endTriggers n l a o) := by
    unfold Device.endTriggers
    split
    · exact .refl _
    · split
      · exact .ite (fun _ => d.retakeValveAlarm_keepsAll.trans (holdTrigger_ordinary _ _ _).keeps) fun _ =>
          d.retakeValveAlarm_keepsAll
      · exact (d.alarmEvent_keepsAll.trans (retakeValveAlarm_keepsAll _)).trans
          (.ite (fun _ => esdTrigger_keepsAll _ _ _ _ _) fun _ => .refl _)
      · exact d.retakeValveAlarm_keepsAll
      · exact .refl _
  have handed (d : Device) (l : Line) (t : Transaction) : d.Keeps (d.handEnd n l t o) := by
    obtain ⟨act, origin⟩ := t
    cases act with
    | move g => exact (d.valveEnd_ordinary l n _ o).keeps.trans (.ite (fun _ => esdEnd_keepsAll _ l n) fun _ => .refl _)
    | speed v =>
      exact ((d.pumpEnd_ordinary l n).keeps.trans (.ite (fun _ => esdEnd_keepsAll _ l n) fun _ => .refl _)).trans
        (governorEnd_ordinary _ _ _ _ _).keeps
  unfold Device.endTransaction
  split
  · have emptied (a : Act) : s.Keeps ((s.emptyInFlight n a o).reportEnd n a o).placeReports :=
      (Ordinary.of_same (by simp) (by simp) (by simp) (by simp)).keeps
    exact (emptied _).trans ((triggers _ _ _).trans ((placeReports_ordinary _).keeps.trans
      ((promote_ordinary _ n).keeps.trans (handed _ _ _))))
  · exact .refl _

theorem Device.travelExpired_keepsAll (s : Device) (n : NodeNo) : s.Keeps (s.travelExpired n) := by
  unfold Device.travelExpired
  split
  · exact .refl _
  · exact .ite (fun _ => s.endTransaction_keepsAll n _) fun _ => .refl _

theorem Device.takeTransaction_keepsAll (s : Device) (n : NodeNo) (b : Node) (o : SlotOutcome) :
    s.Keeps (s.takeTransaction n b o) := by
  have stored (d : Device) (t : Transaction) (v : ValveState) : d.Keeps (d.setInFlight n t v) :=
    (d.setNode_ordinary n _).keeps.trans (retakeValveAlarm_keepsAll _)
  have left (d : Device) : d.Keeps (d.leaveLocal b) := (d.leaveLocal_ordinary b).keeps
  have arrival (d : Device) (c : Act) (a : Answer) : d.Keeps (d.testArrival n c a) :=
    .ite (fun _ => d.endTransaction_keepsAll n _) fun _ => .refl _
  have busy (t : Transaction) : s.Keeps (s.busyAnswer n b t) :=
    ((stored _ _ _).trans (left _)).trans (.ite (fun _ => endTransaction_keepsAll _ n _) fun _ => .refl _)
  have failed (t : Transaction) : s.Keeps (s.slotError n t) :=
    (s.setNode_ordinary n _).keeps.trans (.ite (fun _ => .refl _) fun _ => endTransaction_keepsAll _ n _)
  have sent (t : Transaction) (a : Answer) : s.Keeps (s.sendAnswer n b t a) := by
    unfold Device.sendAnswer
    split
    · exact ((stored _ _ _).trans (left _)).trans (arrival _ _ _)
    · exact busy t
    · exact s.endTransaction_keepsAll n _
    · exact .refl _
    · exact .refl _
  have probed (t : Transaction) (a : Answer) : s.Keeps (s.probeAnswer n b t a) := by
    unfold Device.probeAnswer
    split
    · exact (s.setNode_ordinary n _).keeps
    · exact busy t
    · exact s.endTransaction_keepsAll n _
    · exact .refl _
    · exact .refl _
  have result (t : Transaction) : s.Keeps (s.transactionResult n b t o) := by
    unfold Device.transactionResult
    split
    · refine .ite (fun _ => s.endTransaction_keepsAll n _) fun _ => ?_
      split
      · exact sent t _
      · exact probed t _
      · exact arrival s t.act _
    · exact .ite (fun _ => .refl _) fun _ => failed t
    · exact .ite (fun _ => .refl _) fun _ => failed t
  unfold Device.takeTransaction
  split
  · exact .refl _
  · exact .ite (fun _ => .ite (fun _ => s.endTransaction_keepsAll n _) fun _ => .refl _) fun _ => result _

theorem Device.pressureReading_keepsAll (s : Device) (l : Line) (p : Nat) : s.Keeps (s.pressureReading l p) := by
  have reset (d : Device) : d.Keeps (d.resetLow l) := (d.setHose_ordinary l _).keeps
  have trip (d : Device) (before : Option Band) : d.Keeps (d.tripReading l p before) :=
    .ite (fun _ => .refl _) fun _ => d.esdTrigger_keepsAll _ _ _ _
  have low (d : Device) : d.Keeps (d.lowReading l p) :=
    .ite (fun _ => (d.setHose_ordinary l _).keeps) fun _ => (d.setHose_ordinary l _).keeps.trans (esdTrigger_keepsAll _ _ _ _ _)
  have stop (d : Device) : d.Keeps (d.stopReading l) := (d.stopTrigger_ordinary l _ _).keeps
  have effect (d : Device) (before : Option Band) (band : Band) : d.Keeps (d.readingEffect l p before band) := by
    unfold Device.readingEffect
    split
    any_goals exact low _
    any_goals exact (reset _).trans (trip _ _)
    any_goals exact stop _
    any_goals exact reset _
    any_goals exact trip _ _
    any_goals exact (primingReading_ordinary _ l p).keeps
    any_goals exact (stripReading_ordinary _ l p).keeps
    all_goals exact .refl _
  exact .ite (fun _ => .refl _) fun _ => (s.setHose_ordinary l _).keeps.trans (effect _ _ _)

theorem Device.evaluateSlot_keepsAll (s : Device) (n : NodeNo) (o : SlotOutcome) : s.Keeps (s.evaluateSlot n o) := by
  have placed (d : Device) : d.Keeps d.placeReports := d.placeReports_ordinary.keeps
  have reading (d : Device) : d.Keeps (d.handReading n o) := by
    unfold Device.handReading
    split
    · split
      · exact d.pressureReading_keepsAll _ _
      · exact (d.flowReading_ordinary _ _).keeps
      · exact .refl _
    · exact .refl _
  exact ((s.takeRecord_ordinary n _ o).keeps.trans (placed _)).trans
    (((takeFreshness_ordinary _ n o).keeps.trans (placed _)).trans
      (((pumpFault_ordinary _ n o).keeps.trans (placed _)).trans
        (((takeTransaction_keepsAll _ n _ o).trans (placed _)).trans
          (((takeRemote_ordinary _ _ o).keeps.trans (placed _)).trans (reading _)))))

theorem Device.slotResult_keepsAll (s : Device) (x : SlotSeen) : s.Keeps (s.slotResult x) := by
  unfold Device.slotResult
  split
  · exact .refl _
  · have after (d : Device) (n : NodeNo) : d.Ordinary (d.afterSlot n) := .of_same (by simp) (by simp) (by simp) (by simp)
    exact (s.evaluateSlot_keepsAll _ _).trans ((takeBusMode_ordinary _).trans (after _ _)).keeps

theorem Device.takeBytes_keepsAll (s : Device) (bs : List Byte) : s.Keeps (s.takeBytes bs) := by
  have partialStored (d : Device) (p : Option PartialFrame) : d.Keeps (d.setPartial p) :=
    (Ordinary.of_same (by simp) (by simp) (by simp) (by simp)).keeps
  have frame (d : Device) (b : List Byte) : d.Keeps (d.takeFrame b) := by
    unfold Device.takeFrame
    split
    · exact .refl _
    · exact (d.takeStatus_ordinary _).keeps
    · exact d.evaluate_keepsAll _
  have byte (d : Device) (b : Byte) : d.Keeps (d.takeByte b) := by
    unfold Device.takeByte
    split
    · exact .ite (fun _ => partialStored _ _) fun _ => .refl _
    · exact .ite (fun _ => partialStored _ _) fun _ => .ite (fun _ => (partialStored d none).trans
        (.ite (fun _ => frame _ _) fun _ => .refl _)) fun _ => partialStored _ _
  induction bs generalizing s with
  | nil => exact .refl _
  | cons b bs ih => exact (byte s b).trans (ih _)

theorem Device.lineupExpired_keepsAll (s : Device) (l : Line) : s.Keeps (s.lineupExpired l) := by
  unfold Device.lineupExpired
  split
  · exact s.esdTrigger_keepsAll _ _ _ _
  · exact (s.stopTrigger_ordinary l _ _).keeps

end Sys2Proof.Machine

namespace Sys2Proof.Machine

open Sys2Proof

/-! ## Loads and requests -/

/-- The charter unit's mode changed with the lock kept, and the barge loop driven at the end of it (R87). -/
theorem Device.Keeps.driven {s d : Device} {c : CharterUnit} (lock : c.lock = s.charter.lock)
    (h : (s.setCharter c).Keeps d) : s.Keeps d.driveBargeLoop where
  producer := fun holds => by simpa using h.producer holds
  bargeLoop := fun _ => by simp [Device.bargeLoopHolds, Device.driveBargeLoop]
  horn := fun holds => by simpa [Device.hornHolds] using h.horn holds
  latch := fun holds l => by simpa [Device.latchHolds] using h.latch holds l
  lock := fun set => by simpa using h.lock (lock.trans set)

theorem Device.setInterrupt_ordinary (s : Device) : s.Ordinary s.setInterrupt :=
  .of_same (by simp) (by simp) (by simp) (by simp)

theorem Device.setBusMode_ordinary (s : Device) (m : BusMode) : s.Ordinary (s.setBusMode m) :=
  .of_same (by simp) (by simp) (by simp) (by simp)

theorem Device.startLoad_keepsAll (s : Device) : s.Keeps s.startLoad := by
  refine Keeps.trans (t := s.enterLoading) ?_ (Ordinary.of_same (by rfl) (by rfl) (by rfl) (by rfl)).keeps
  refine Keeps.trans (Keeps.driven (c := { s.charter with
    mode := .loading, progress := 0, runningCrc := 0xFFFFFFFF#32, working := [] }) rfl ?_) (setInterrupt_ordinary _).keeps
  exact (Ordinary.of_same (by rfl) (by rfl) (by rfl) (by rfl)).keeps

/-- The indications cleared, whatever they were. -/
theorem Device.clearIndications_keepsAll (s : Device) : s.Keeps s.clearIndications :=
  .of_shutdown (fun holds => holds) (by exact ⟨rfl, rfl, rfl⟩) (by rfl) (by rfl) (by rfl)

theorem Device.refitLine_ordinary (s : Device) (l : Line) : s.Ordinary (s.refitLine l) := by
  have governor (d : Device) (g : Governor) : d.Ordinary (d.setGovernor l g) := .of_same (by rfl) (by rfl) (by rfl) (by rfl)
  exact (s.setLine_ordinary l _ (by rfl)).trans (governor _ _) |>.trans (setHose_ordinary _ l _)

theorem Device.unfitLine_ordinary (s : Device) (l : Line) : s.Ordinary (s.unfitLine l) :=
  (s.setLine_ordinary l _ (by rfl)).trans (setHose_ordinary _ l _)

theorem Device.emptyTopOffs_ordinary (s : Device) : s.Ordinary (s.forLines fun l s => s.setTopOff l .empty) :=
  .forLines fun _ _ => .of_same (by rfl) (by rfl) (by rfl) (by rfl)

theorem Device.startFrame_ordinary (s : Device) : s.Ordinary s.startFrame :=
  .of_same (by simp) (by simp) (by simp) (by simp)

theorem Device.goodLoad_keepsAll (s : Device) : s.Keeps s.goodLoad := by
  have refitted (d : Device) : d.Ordinary (d.forLines fun l s => s.refitLine l) := .forLines fun l d => d.refitLine_ordinary l
  have tanks (d : Device) : d.Ordinary { d with tanks := rebuiltTanks s.charter.working } := .of_same (by rfl) (by rfl) (by rfl) (by rfl)
  have nodes (d : Device) : d.Ordinary (d.rebuildNodes s.charter.working) := by
    unfold Device.rebuildNodes
    exact .of_same (by rfl) (by rfl) (by rfl) (by rfl)
  have ring (d : Device) : d.Ordinary { d with
      reports := { d.reports with usable := true }, jobs := { d.jobs with consumer := true } } := .of_same (by rfl) (by rfl) (by rfl) (by rfl)
  have lost (d : Device) : d.Ordinary d.startLost := .of_same (by rfl) (by rfl) (by rfl) (by rfl)
  have link (d : Device) : d.Ordinary d.linkEntersWatch.startLost := (d.setLink_ordinary _).trans (lost _)
  have shown (d : Device) : d.Ordinary d.markAll.setInterrupt :=
    Ordinary.trans (.of_same (by rfl) (by rfl) (by rfl) (by rfl)) (setInterrupt_ordinary _)
  refine Keeps.trans ?_ (shown _).keeps
  refine Keeps.trans ?_ ((setBusMode_ordinary _ _).trans (startFrame_ordinary _)).keeps
  refine Keeps.trans (Keeps.trans (Keeps.driven (c := s.charter.loaded) rfl ?_) (judgeAlarm_keepsAll _)) (link _).keeps
  refine Keeps.trans ?_ (clearIndications_keepsAll _)
  refine Keeps.trans ?_ (submit_ordinary _ _ _ _ _ _ _).keeps
  exact ((refitted _).trans (tanks _) |>.trans (emptyTopOffs_ordinary _) |>.trans (nodes _) |>.trans (ring _)).keeps

theorem Device.emptyNodes_ordinary (s : Device) : s.Ordinary s.emptyNodes := by
  have emptied (ns : List NodeNo) (d : Device) :
      d.Ordinary (ns.foldl (fun s n => (s.setNode n .blank).setTarget n ⟨.closed, false⟩) d) := by
    induction ns generalizing d with
    | nil => exact .refl _
    | cons n ns ih => exact Ordinary.trans (.of_same (by rfl) (by rfl) (by rfl) (by rfl)) (ih _)
  exact (emptied _ _).trans (.of_same (by rfl) (by rfl) (by rfl) (by rfl))

theorem Device.failedLoad_keepsAll (s : Device) (r : LoadResult) (w : Word) : s.Keeps (s.failedLoad r w) := by
  have unfitted (d : Device) : d.Ordinary (d.forLines fun l s => s.unfitLine l) := .forLines fun l d => d.unfitLine_ordinary l
  have tanks (d : Device) : d.Ordinary { d with tanks := Vector.replicate 24 none } := .of_same (by rfl) (by rfl) (by rfl) (by rfl)
  have hornOff (d : Device) : d.Keeps (d.setShutdown { d.shutdown with hornSounding := false }) :=
    .of_shutdown (fun _ sounding => by cases sounding) (by exact ⟨rfl, rfl, rfl⟩) (by rfl) (by rfl) (by rfl)
  have shown (d : Device) : d.Ordinary (d.markStatus true).setInterrupt :=
    Ordinary.trans (.of_same (by rfl) (by rfl) (by rfl) (by rfl)) (setInterrupt_ordinary _)
  refine Keeps.trans ?_ (shown _).keeps
  refine Keeps.trans ?_ ((setLink_ordinary _ _).trans (setBusMode_ordinary _ .off)).keeps
  refine Keeps.trans (Keeps.driven (c := s.charter.failed r w) rfl ?_) (judgeAlarm_keepsAll _)
  refine Keeps.trans ?_ (hornOff _)
  refine Keeps.trans ?_ (submit_ordinary _ _ _ _ _ _ _).keeps
  refine Keeps.trans ?_ (clearIndications_keepsAll _)
  exact ((unfitted _).trans (tanks _) |>.trans (emptyTopOffs_ordinary _) |>.trans (emptyNodes_ordinary _)).keeps

theorem Device.takeTripReset_keepsAll (s : Device) : s.Keeps s.takeTripReset := by
  refine .ite (fun _ => (s.askResult_ordinary _).keeps) fun _ => .ite (fun _ => (s.askResult_ordinary _).keeps) fun _ =>
    .ite (fun _ => (s.askResult_ordinary _).keeps) fun noneTripping => ?_
  rw [any_allLines_eq_true] at noneTripping
  have idle (l : Line) : (s.line l).state ≠ .tripping := by
    intro tripping
    cases l <;> simp [tripping] at noneTripping
  exact (s.clearLatch_keepsAll idle).trans (askResult_ordinary _ _).keeps

theorem Device.takeInWatch_keepsAll (s : Device) (a : Asked) : s.Keeps (s.takeInWatch a) := by
  have answered (d : Device) (r : Result) : d.Keeps (d.askResult r) := (d.askResult_ordinary r).keeps
  cases a with
  | openLine l => exact (Ordinary.of_same (by rfl) (by rfl) (by rfl) (by rfl)).keeps
  | hold l =>
    exact .ite (fun _ => (s.holdTrigger_ordinary l _).keeps.trans (answered _ _)) fun _ => answered _ _
  | resume l =>
    exact .ite (fun _ => (s.clearHold_ordinary l _).keeps.trans (answered _ _)) fun _ => answered _ _
  | stop l strip =>
    have flagged : s.Keeps (if strip then s.setLine l { s.line l with stripFlag := true } else s) :=
      .ite (fun _ => (s.setLine_ordinary l _ (by rfl)).keeps) fun _ => .refl _
    exact .ite (fun _ => (s.stopTrigger_ordinary l _ _).keeps.trans (answered _ _)) fun _ =>
      .ite (fun _ => flagged.trans (answered _ _)) fun _ => answered _ _
  | loadCharter =>
    exact .ite (fun _ => answered _ _) fun _ => .ite (fun _ => answered _ _) fun _ => s.startLoad_keepsAll
  | lockLimits =>
    have locked : s.Keeps (s.setCharter { s.charter with lock := true }) := ⟨id, id, id, id, fun _ => rfl⟩
    exact locked.trans (answered _ _)
  | trip => exact (s.esdTrigger_keepsAll _ _ _ _).trans (answered _ _)
  | tripReset => exact s.takeTripReset_keepsAll
  | silence =>
    refine Keeps.trans (t := s.setShutdown { s.shutdown with hornSounding := false }) ?_ (answered _ _)
    exact .of_shutdown (fun _ sounding => by cases sounding) (by exact ⟨rfl, rfl, rfl⟩) (by rfl) (by rfl) (by rfl)

theorem Device.takeHead_keepsAll (s : Device) : s.Keeps s.takeHead := by
  unfold Device.takeHead
  split
  · exact .refl _
  · refine .ite (fun _ => .refl _) fun _ => ?_
    split
    · exact .refl _
    · split
      · exact (s.askResult_ordinary _).keeps
      case h_2 asked _ =>
        cases asked with
        | loadCharter => exact s.startLoad_keepsAll
        | _ => exact (s.askResult_ordinary _).keeps
    · split
      · exact (s.askResult_ordinary _).keeps
      · exact s.takeInWatch_keepsAll _

theorem Device.charterRead_keepsAll (s : Device) (i : Nat) (ws : List Word) : s.Keeps (s.charterRead i ws) := by
  have stored : s.Keeps (s.storeCharter i ws) := ⟨id, id, id, id, id⟩
  have ended (d : Device) (r : LoadResult) : d.Keeps (d.endLoad r) :=
    .ite (fun _ => (d.askResult_ordinary _).keeps) fun _ =>
      Keeps.trans (Ordinary.of_same (by rfl) (by rfl) (by rfl) (by rfl)).keeps (takeHead_keepsAll _)
  have judged (d : Device) : d.Keeps d.judgeLoad := by
    unfold Device.judgeLoad
    split
    · exact d.goodLoad_keepsAll.trans (ended _ _)
    · exact (d.failedLoad_keepsAll _ _).trans (ended _ _)
  exact .ite (fun _ => stored) fun _ => stored.trans (judged _)

/-! ## Station writes and the station reset -/

theorem Device.countGrant_keepsAll (s : Device) : s.Keeps s.countGrant :=
  (Ordinary.of_same (by simp) (by simp) (by simp) (by simp)).keeps

/-- A judged write is passed, suppressed with at most a report, or taken by the block it is written to. -/
theorem Device.judgeWrite_keepsAll (s : Device) (a : Access) : s.Keeps (s.judgeWrite a).device := by
  have badWrite (off b : Nat) : s.Keeps (s.badWrite off b) := (s.submit_ordinary _ _ _ _ _ _).keeps
  have full (off : Nat) (j : Judgement) (h : s.Keeps j.device) : s.Keeps (s.judgeFull off a.enables j).device := by
    unfold Device.judgeFull
    split
    · exact h
    · exact badWrite _ _
  have request (w : RequestWord) : s.Keeps (s.requestWrite w a.data).device := by
    unfold Device.requestWrite
    dsimp only
    split
    · exact Keeps.trans (Ordinary.of_same (by rfl) (by rfl) (by rfl) (by rfl)).keeps (takeHead_keepsAll _)
    · exact .refl _
  have rate (l : Line) : s.Keeps (s.rateWrite l a.data).device := by
    unfold Device.rateWrite
    split
    · exact (Ordinary.of_same (by rfl) (by rfl) (by rfl) (by rfl)).keeps
    · exact (s.submit_ordinary _ _ _ _ _ _).keeps
  have valve (l : Line) (r : Role) : s.Keeps (s.valveWrite l r a.data).device := by
    unfold Device.valveWrite
    split
    · exact ((s.claimValve_ordinary l r _ _).trans (.of_same (by rfl) (by rfl) (by rfl) (by rfl))).keeps
    · exact (s.submit_ordinary _ _ _ _ _ _).keeps
  have consumer : s.Keeps (s.consumerWrite a.data).device := by
    unfold Device.consumerWrite
    split
    · exact (Ordinary.of_same (by rfl) (by rfl) (by rfl) (by rfl)).keeps
    · exact badWrite _ _
  have charter : s.Keeps (if s.charter.lock = true then Judgement.suppressed s else Judgement.passed s).device := by
    split <;> exact .refl _
  have inWatch (off : Nat) (x : Area) : s.Keeps (s.judgeInWatch off a x).device := by
    cases x with
    | charter => exact charter
    | plan l =>
      show s.Keeps (if (s.line l).state ≠ .free ∨ s.openHandled l = true then Judgement.suppressed s
        else Judgement.passed s).device
      split <;> exact .refl _
    | request w => exact full _ _ (request w)
    | rateDemand l => exact full _ _ (rate l)
    | valveDemand l r => exact full _ _ (valve l r)
    | consumer => exact full _ _ consumer
    | kept => exact .refl _
    | unused => exact .refl _
  have quiet (off : Nat) (x : Area) : s.Keeps (s.judgeQuiet off a x).device := by
    cases x with
    | charter => exact charter
    | request w => exact full _ _ (request w)
    | _ => exact .refl _
  unfold Device.judgeWrite
  split
  · exact .refl _
  · split
    · exact inWatch _ (areaOf _)
    · exact quiet _ (areaOf _)
    · exact quiet _ (areaOf _)

theorem Device.stationReset_keepsAll (s : Device) : s.Keeps s.stationReset := by
  have requests : s.Ordinary s.resetRequests := .of_same (by rfl) (by rfl) (by rfl) (by rfl)
  have reports (d : Device) : d.Keeps d.resetReports := ⟨fun _ => Nat.succ_pos 63, id, id, id, id⟩
  exact requests.keeps.trans ((reports _).trans (stopActive_ordinary _ _).keeps)

theorem Device.finish_keepsAll (s : Device) : s.Keeps s.finish :=
  (Ordinary.of_same (by simp) (by simp) (by simp) (by simp)).keeps

theorem Device.tick_keepsAll (s : Device) : s.Keeps s.tick := by
  unfold Device.tick
  split <;> exact (Ordinary.of_same (by rfl) (by rfl) (by rfl) (by rfl)).keeps

end Sys2Proof.Machine

namespace Sys2Proof.Machine

open Sys2Proof

/-! ## Steps -/

/-- What a command keeps: the device's invariants, the memory's canonical form, and the commands that wait. -/
structure State.Keeps (s t : State) : Prop where
  device : s.device.Keeps t.device
  memory : s.mem.wf = true → s.device.reports.producer < 64 → t.mem.wf = true
  pending : t.pending = s.pending

theorem State.Keeps.refl (s : State) : s.Keeps s := ⟨.refl _, fun wf _ => wf, rfl⟩

theorem State.Keeps.trans {s t u : State} (h : s.Keeps t) (k : t.Keeps u) : s.Keeps u :=
  ⟨h.device.trans k.device, fun wf slot => k.memory (h.memory wf slot) (h.device.producer slot),
    k.pending.trans h.pending⟩

/-- An operation that reaches the device alone. -/
theorem State.Keeps.of_device {s t : State} (h : s.device.Keeps t.device) (mem : t.mem = s.mem)
    (pending : t.pending = s.pending) : s.Keeps t :=
  ⟨h, fun wf _ => mem ▸ wf, pending⟩

/-- An operation that stores words where there is room for them, once the producer index is in the ring. -/
theorem State.Keeps.of_store {s t : State} {a : Nat} {ws : List Word} (h : s.device.Keeps t.device)
    (mem : t.mem = s.mem.writeWords a ws)
    (room : s.device.reports.producer < 64 → a + 4 * ws.length ≤ Config.addressSpace) (pending : t.pending = s.pending) :
    s.Keeps t :=
  ⟨h, fun wf slot => mem ▸ Memory.writeWords_wf _ _ _ (room slot) wf, pending⟩

theorem State.settle_keepsAll (s : State) : s.Keeps s.settle := .of_device s.device.finish_keepsAll rfl rfl

/-- A word's address leaves room for its four bytes. -/
theorem wordAddress_room (a : Word) : wordAddress a + 3 < Config.addressSpace := by
  have := a.isLt
  simp only [wordAddress, Config.addressSpace]
  omega

theorem treatMemory_wf (m : Memory) (a : Access) (j : Judgement) (wf : m.wf = true) : (treatMemory m a j).wf = true := by
  unfold treatMemory
  split
  · exact Memory.writeEnabled_wf _ _ _ _ (wordAddress_room _) wf
  · exact Memory.writeWord_wf _ _ _ (wordAddress_room _) wf
  · exact wf

theorem Device.reply_keepsAll (s : Device) (t : Treatment) (w : Word) : s.Keeps (s.reply t w) :=
  (Ordinary.of_same (by simp) (by simp) (by simp) (by simp)).keeps

theorem State.grantAccess_keepsAll (s : State) (a : Access) : s.Keeps (s.grantAccess a) := by
  unfold State.grantAccess
  split
  · exact ⟨s.device.countGrant_keepsAll.trans ((Device.judgeWrite_keepsAll _ a).trans (Device.reply_keepsAll _ _ _)),
      fun wf _ => treatMemory_wf _ _ _ wf, rfl⟩
  · exact .of_device (s.device.countGrant_keepsAll.trans (Device.reply_keepsAll _ _ _)) rfl rfl

theorem State.withWaiting_keepsAll (s : State) (accesses : List Access) : s.Keeps (s.withWaiting accesses) :=
  .of_device (Device.Ordinary.of_same (by rfl) (by rfl) (by rfl) (by rfl)).keeps rfl rfl

theorem State.serve_keepsAll (accesses : List Access) (s : State) : s.Keeps (State.serve accesses s) := by
  induction accesses generalizing s with
  | nil => exact .refl _
  | cons a rest ih =>
    unfold State.serve
    split
    · exact (s.withWaiting_keepsAll rest).trans <| (State.grantAccess_keepsAll _ a).trans <|
        (State.settle_keepsAll _).trans (ih _)
    · exact .refl _

theorem State.arbitrate_keepsAll (s : State) : s.Keeps s.arbitrate := State.serve_keepsAll _ s

theorem Device.word_room (s : Device) (off : Nat) (w : Word) (h : off + 4 ≤ 16384) :
    s.address off + 4 * [w].length ≤ Config.addressSpace := s.address_room off 4 h

theorem State.grantProducer_keepsAll (s : State) : s.Keeps s.grantProducer :=
  .of_store (ws := [BitVec.ofNat 32 s.device.reports.producer])
    (Device.Ordinary.of_same (by rfl) (by rfl) (by rfl) (by rfl)).keeps rfl
    (fun _ => s.device.word_room _ _ (by decide)) rfl

theorem State.grantConsumer_keepsAll (s : State) : s.Keeps s.grantConsumer :=
  .of_store (ws := [BitVec.ofNat 32 s.device.reports.consumer])
    (Device.Ordinary.of_same (by rfl) (by rfl) (by rfl) (by rfl)).keeps rfl
    (fun _ => s.device.word_room _ _ (by decide)) rfl

theorem State.grantResult_keepsAll (s : State) (r : Result) : s.Keeps (s.grantResult r) := by
  have device : s.device.Keeps (s.grantResult r).device :=
    Device.Keeps.trans (Device.Ordinary.of_same (by rfl) (by rfl) (by rfl) (by rfl)).keeps (Device.takeHead_keepsAll _)
  cases request : s.device.resultWord r with
  | none => exact .of_device device (by simp [State.grantResult, request]) rfl
  | some w =>
    have offset : w.1 + 4 ≤ 16384 := by
      obtain ⟨q, -, rfl⟩ := Option.map_eq_some_iff.mp request
      exact (requestOffset_room q.word).1
    exact .of_store (ws := [w.2]) device (by simp [State.grantResult, request, Memory.writeWords])
      (fun _ => s.device.word_room _ _ offset) rfl

/-- An entry's eight words lie in the ring once the producer index does. -/
theorem State.grantEntry_keepsAll (s : State) (r : Report) : s.Keeps (s.grantEntry r) := by
  refine .of_store (a := s.device.address (ringOffset s.device.reports.producer)) (ws := r.words)
    (Device.Ordinary.of_same (by rfl) (by rfl) (by rfl) (by rfl)).keeps (by simp only [State.grantEntry]) (fun slot => ?_) rfl
  refine Device.address_room _ _ _ ?_
  simp only [ringOffset, Report.words, List.length_cons, List.length_nil]
  omega

theorem State.grantRefresh_keepsAll (s : State) (u : RefreshUnit) : s.Keeps (s.grantRefresh u) := by
  refine .of_store (ws := s.device.unitWords u) ?_ rfl
    (fun _ => Device.address_room _ _ _ (Device.unitWords_room _ u)) rfl
  cases u <;> exact (Device.Ordinary.of_same (by rfl) (by rfl) (by rfl) (by rfl)).keeps

/-- A job granted: its word or words stored, and its own items of the internal master (R158 to R163). -/
theorem State.grantJob_keepsAll (s : State) (j : Job) : s.Keeps (s.grantJob j) := by
  have counted : s.Keeps { s with device := { s.device with port := { s.device.port with waitCount := 0 } } } :=
    .of_device (Device.Ordinary.of_same (by rfl) (by rfl) (by rfl) (by rfl)).keeps rfl rfl
  cases j with
  | producer => exact counted.trans (State.grantProducer_keepsAll _)
  | result r => exact counted.trans (State.grantResult_keepsAll _ r)
  | consumer => exact counted.trans (State.grantConsumer_keepsAll _)
  | entry r => exact counted.trans (State.grantEntry_keepsAll _ r)
  | refresh u => exact counted.trans (State.grantRefresh_keepsAll _ u)
  | read r => exact .of_device (Device.Ordinary.of_same (by rfl) (by rfl) (by rfl) (by rfl)).keeps rfl rfl

/-- A command answers a next state that keeps the invariants. -/
def State.Answers (s : State) (o : Outcome) : Prop := ∃ t, o = .next t ∧ s.Keeps t

theorem State.Answers.stay (s : State) : s.Answers (.next s) := ⟨s, rfl, .refl s⟩

theorem State.event_answers (s : State) (f : Device → Device) (h : s.device.Keeps (f s.device)) :
    s.Answers (s.event f) :=
  ⟨_, rfl, (State.Keeps.of_device (t := { s with device := f s.device }) h rfl rfl).trans (State.settle_keepsAll _)⟩

theorem State.eventIf_answers (s : State) (c : Bool) (f : Device → Device) (h : c = true → s.device.Keeps (f s.device)) :
    s.Answers (s.eventIf c f) := by
  unfold State.eventIf
  split
  · exact s.event_answers f (h ‹_›)
  · exact .stay s

theorem State.portEvent_answers (s : State) (f : Device → Device) (h : s.device.Keeps (f s.device)) :
    s.Answers (s.portEvent f) :=
  ⟨_, rfl, (State.Keeps.of_device (t := { s with device := f s.device }) h rfl rfl).trans <|
    (State.settle_keepsAll _).trans (State.arbitrate_keepsAll _)⟩

theorem State.access_answers (s : State) (a : Access) : s.Answers (s.access a) :=
  ⟨_, rfl, (s.withWaiting_keepsAll _).trans (State.arbitrate_keepsAll _)⟩

theorem State.grant_answers (s : State) (j : Option Job) : s.Answers (s.grant j) := by
  cases j with
  | none => exact .stay s
  | some x =>
    exact ⟨_, rfl, (s.grantJob_keepsAll x).trans <| (State.settle_keepsAll _).trans (State.arbitrate_keepsAll _)⟩

theorem Device.endBurst_keepsAll (s : Device) : s.Keeps s.endBurst :=
  (Ordinary.of_same (by rfl) (by rfl) (by rfl) (by rfl)).keeps

theorem Device.entryDone_keepsAll (s : Device) : s.Keeps s.entryDone :=
  ⟨fun _ => Nat.mod_lt _ (by decide), id, id, id, id⟩

/-- An internal burst's end: an event of its own job, or nothing. -/
theorem exec_burst_answers (s : State) :
    s.Answers (execPlanReadDone s) ∧ s.Answers (execCharterReadDone s) ∧ s.Answers (execReportEntryDone s) := by
  refine ⟨?_, ?_, ?_⟩
  · unfold execPlanReadDone
    split
    · exact s.portEvent_answers _ (s.device.endBurst_keepsAll.trans (Device.judgeOpen_keepsAll _ _ _))
    · exact s.portEvent_answers _ s.device.endBurst_keepsAll
    · exact .stay s
  · unfold execCharterReadDone
    split
    · exact s.portEvent_answers _ (s.device.endBurst_keepsAll.trans (Device.charterRead_keepsAll _ _ _))
    · exact .stay s
  · unfold execReportEntryDone
    split
    · exact s.portEvent_answers _ s.device.entryDone_keepsAll
    · exact s.portEvent_answers _ s.device.endBurst_keepsAll
    · exact .stay s

/-- A tank's expiry: an event of a present tank, or nothing. -/
theorem exec_tank_answers (k : TankNo) (s : State) :
    s.Answers (execTankSilenceExpiry k s) ∧ s.Answers (execTankLostExpiry k s) ∧
    s.Answers (execCloseDeadlineExpiry k s) := by
  unfold execTankSilenceExpiry execTankLostExpiry execCloseDeadlineExpiry
  cases s.device.tank k with
  | none => exact ⟨.stay s, .stay s, .stay s⟩
  | some e =>
    exact ⟨s.eventIf_answers _ _ fun _ => (Device.tankSilent_ordinary _ k e).keeps,
      s.eventIf_answers _ _ fun _ => (Device.tankLost_ordinary _ k e).keeps,
      s.eventIf_answers _ _ fun _ => (Device.closeOverdue_ordinary _ k e).keeps⟩

theorem Device.expires_state {s : Device} {l : Line} {st : LineState} {p : Step} (h : s.expires l st p = true) :
    (s.line l).state = st := by
  simp only [Device.expires, Bool.and_eq_true, decide_eq_true_eq] at h
  exact h.1.1

/-- A limit's expiry: an event of a line in the state that the limit ends. -/
theorem exec_limit_answers (l : Line) (s : State) :
    s.Answers (execLineupLimitExpiry l s) ∧ s.Answers (execPrimeLimitExpiry l s) ∧ s.Answers (execHoldLimitExpiry l s) ∧
    s.Answers (execPumpStopExpiry l s) ∧ s.Answers (execStripLimitExpiry l s) ∧
    s.Answers (execEsdPumpDeadlineExpiry l s) := by
  refine ⟨s.eventIf_answers _ _ fun _ => Device.lineupExpired_keepsAll _ l,
    s.eventIf_answers _ _ fun _ => (Device.stopTrigger_ordinary _ l _ _).keeps,
    s.eventIf_answers _ _ fun _ => (Device.stopTrigger_ordinary _ l _ _).keeps,
    s.eventIf_answers _ _ fun due => (Device.leaveStopping_ordinary _ l ?_).keeps,
    s.eventIf_answers _ _ fun due => (Device.stripExpired_ordinary _ l ?_).keeps,
    s.eventIf_answers _ _ fun due => Device.esdManifold_keepsAll _ l ?_⟩
  · simp [Device.expires_state due, LineState.trips]
  · simp [Device.expires_state due, LineState.trips]
  · simp only [Bool.and_eq_true, decide_eq_true_eq] at due
    simp [due.1]

theorem exec_governor_answers (l : Line) (s : State) : s.Answers (execGovernorStep l s) := by
  unfold execGovernorStep
  split
  · exact .stay s
  · exact s.eventIf_answers _ _ fun _ => (Device.governorStep_ordinary _ l _).keeps

theorem exec_status_answers (s : State) : s.Answers (execStatusExpiry s) := by
  have fallsDue (d : Device) (t : Time) : d.Ordinary (d.statusFallsDue t) := .of_same (by simp) (by simp) (by simp) (by simp)
  unfold execStatusExpiry
  split
  · exact .stay s
  · exact s.eventIf_answers _ _ fun _ => (fallsDue _ _).keeps

/-- Every command but a power-on reset answers a next state that keeps the invariants. -/
theorem exec_answers (c : Instr) (s : State) (h : ∀ straps, c ≠ .powerOnReset straps) : s.Answers (exec c s) := by
  have frame (f : Device → Device) (lines : (f s.device).lines = s.device.lines)
      (shutdown : (f s.device).shutdown = s.device.shutdown) (charter : (f s.device).charter = s.device.charter)
      (producer : (f s.device).reports.producer = s.device.reports.producer) : s.Answers (s.event f) :=
    s.event_answers f (Device.Ordinary.of_same lines shutdown charter producer).keeps
  obtain ⟨planRead, charterRead, entryDone⟩ := exec_burst_answers s
  cases c with
  | powerOnReset straps => exact absurd rfl (h straps)
  | stationReset => exact s.event_answers Device.stationReset s.device.stationReset_keepsAll
  | shipLoopChange c => exact s.event_answers (fun d => d.takeShipLoop c) (s.device.takeShipLoop_keepsAll c)
  | internalJobGrant => exact s.grant_answers _
  | resultWrite => exact s.grant_answers _
  | producerIndexWrite => exact s.grant_answers _
  | planReadDone => exact planRead
  | charterReadDone => exact charterRead
  | reportEntryDone => exact entryDone
  | frameStart => exact frame Device.frameStart (by simp) (by simp) (by simp) (by simp)
  | idleScanExpiry => exact frame Device.idleScanExpired (by simp) (by simp) (by simp) (by simp)
  | busPull => exact frame Device.busPull (by simp) (by simp) (by simp) (by simp)
  | slotResult seen => exact s.event_answers (fun d => d.slotResult seen) (s.device.slotResult_keepsAll seen)
  | travelExpiry n => exact s.event_answers (fun d => d.travelExpired n) (s.device.travelExpired_keepsAll n)
  | shipStatus bytes => exact s.event_answers (fun d => d.takeBytes bytes) (s.device.takeBytes_keepsAll bytes)
  | tankReport bytes => exact s.event_answers (fun d => d.takeBytes bytes) (s.device.takeBytes_keepsAll bytes)
  | frameDiscarded bytes => exact s.event_answers (fun d => d.takeBytes bytes) (s.device.takeBytes_keepsAll bytes)
  | frameIncomplete bytes =>
    exact s.event_answers (fun d => (d.takeBytes bytes).byteGap) ((s.device.takeBytes_keepsAll bytes).trans
      (Device.Ordinary.of_same (by rfl) (by rfl) (by rfl) (by rfl)).keeps)
  | shipSilent => exact s.eventIf_answers _ Device.shipSilence fun _ => s.device.shipSilence_ordinary.keeps
  | shipLost => exact s.eventIf_answers _ Device.shipLoss fun _ => s.device.shipLoss_ordinary.keeps
  | statusExpiry => exact exec_status_answers s
  | frameSent => exact frame Device.frameLeft (by simp) (by simp) (by simp) (by simp)
  | tankSilenceExpiry k => exact (exec_tank_answers k s).1
  | tankLostExpiry k => exact (exec_tank_answers k s).2.1
  | closeDeadlineExpiry k => exact (exec_tank_answers k s).2.2
  | governorStep l => exact exec_governor_answers l s
  | lineupLimitExpiry l => exact (exec_limit_answers l s).1
  | primeLimitExpiry l => exact (exec_limit_answers l s).2.1
  | holdLimitExpiry l => exact (exec_limit_answers l s).2.2.1
  | pumpStopExpiry l => exact (exec_limit_answers l s).2.2.2.1
  | stripLimitExpiry l => exact (exec_limit_answers l s).2.2.2.2.1
  | esdPumpDeadlineExpiry l => exact (exec_limit_answers l s).2.2.2.2.2
  | _ => exact s.access_answers _

/-- The state after reset, and each power-on reset, meets the device's invariants. -/
theorem Device.reset_invariants (straps : BitVec 8) :
    (Device.reset straps).reports.producer < 64 ∧ (Device.reset straps).bargeLoopHolds ∧
    (Device.reset straps).hornHolds ∧ (Device.reset straps).latchHolds := by
  refine ⟨Nat.succ_pos 63, rfl, fun sounding => (by cases sounding), fun l => ?_⟩
  cases l <;> exact ⟨⟨LineState.noConfusion, LineState.noConfusion⟩, fun running => absurd rfl running⟩

/-- A step is a power-on reset, or keeps the invariants. -/
theorem step_cases {s t : State} (h : step s = .next t) :
    (∃ straps rest, s.pending = .powerOnReset straps :: rest ∧ t.device = .reset straps ∧ t.mem = s.mem) ∨
      s.device.Keeps t.device ∧ (s.mem.wf = true → s.device.reports.producer < 64 → t.mem.wf = true) := by
  unfold step at h
  split at h
  · cases h
    exact .inr ⟨s.device.tick_keepsAll, fun wf _ => wf⟩
  case h_2 c rest waiting =>
    by_cases reset : ∃ straps, c = .powerOnReset straps
    · obtain ⟨straps, rfl⟩ := reset
      cases h
      exact .inl ⟨straps, rest, waiting, rfl, rfl⟩
    · obtain ⟨u, answer, keeps⟩ := exec_answers c { s with pending := rest } (not_exists.mp reset)
      rw [h] at answer
      cases answer
      exact .inr ⟨keeps.device, keeps.memory⟩

/-- Settles O57: a power-on reset leaves memory and puts the producer index to 0, and every other step keeps both. -/
theorem stepKeepsTheMemoryCanonical : Obligations.StepKeepsTheMemoryCanonical := by
  unfold Obligations.StepKeepsTheMemoryCanonical
  intro s t wf slot next
  obtain ⟨straps, -, -, device, mem⟩ | ⟨keeps, memory⟩ := step_cases next
  · rw [mem, device]
    exact ⟨wf, (Device.reset_invariants straps).1⟩
  · exact ⟨memory wf slot, keeps.producer slot⟩

/-- Settles O58. -/
theorem stepKeepsTheShutdownOutputs : Obligations.StepKeepsTheShutdownOutputs := by
  unfold Obligations.StepKeepsTheShutdownOutputs
  intro s t bargeLoop horn next
  obtain ⟨straps, -, -, device, -⟩ | ⟨keeps, -⟩ := step_cases next
  · obtain ⟨-, resetLoop, resetHorn, -⟩ := Device.reset_invariants straps
    rw [device]
    exact ⟨resetLoop, resetHorn⟩
  · exact ⟨keeps.bargeLoop bargeLoop, keeps.horn horn⟩

/-- Settles O59. -/
theorem stepKeepsTheLatchInvariant : Obligations.StepKeepsTheLatchInvariant := by
  unfold Obligations.StepKeepsTheLatchInvariant
  intro s t holds next
  obtain ⟨straps, -, -, device, -⟩ | ⟨keeps, -⟩ := step_cases next
  · obtain ⟨-, -, -, resetHolds⟩ := Device.reset_invariants straps
    rw [device]
    exact resetHolds
  · exact keeps.latch holds

/-- Settles O60: the power-on reset, which alone clears the lock, is left out. -/
theorem stepKeepsTheLimitLock : Obligations.StepKeepsTheLimitLock := by
  unfold Obligations.StepKeepsTheLimitLock
  intro s t set noReset next
  obtain ⟨straps, rest, waiting, -⟩ | ⟨keeps, -⟩ := step_cases next
  · exact absurd waiting (noReset straps rest)
  · exact keeps.lock set

/-- Settles O3: a power-on reset answers the restarted device, and every other command a state that keeps what waits. -/
theorem everyCommandAnswersANextState : Obligations.EveryCommandAnswersANextState := by
  unfold Obligations.EveryCommandAnswersANextState
  intro c s
  by_cases reset : ∃ straps, c = .powerOnReset straps
  · obtain ⟨straps, rfl⟩ := reset
    exact ⟨_, rfl, rfl⟩
  · obtain ⟨t, next, keeps⟩ := exec_answers c s (not_exists.mp reset)
    exact ⟨t, next, keeps.pending⟩

/-- Settles O56. -/
theorem invariantsHoldAtReset : Obligations.InvariantsHoldAtReset := by
  unfold Obligations.InvariantsHoldAtReset
  obtain ⟨slot, bargeLoop, horn, latch⟩ := Device.reset_invariants 0
  exact ⟨rfl, slot, bargeLoop, latch, horn⟩

end Sys2Proof.Machine

/-! SUPPORT. The step, the resets that only restart blocks, and the requests taken by the mode (O1, O2, O4, O5, O9, O13 to
O16). -/

namespace Sys2Proof.Machine

open Sys2Proof

/-- Settles O1. -/
theorem stepRunsTheFrontCommand : Obligations.StepRunsTheFrontCommand := by
  unfold Obligations.StepRunsTheFrontCommand
  intro s c rest waiting
  simp only [step, waiting]

/-- Settles O2: the tick sets the second half, or clears it and counts a step of the time base. -/
theorem stepOnAnEmptyQueueLetsTimePass : Obligations.StepOnAnEmptyQueueLetsTimePass := by
  unfold Obligations.StepOnAnEmptyQueueLetsTimePass
  intro s empty
  have next : step s = .next { s with device := s.device.tick } := by
    unfold step
    rw [empty]
  refine ⟨_, next, rfl, empty, ?_, fun first => ?_, fun second => ?_⟩
  · simp only [Device.tick]
    split <;> rfl
  · simp [Device.tick, first]
  · simp [Device.tick, second]

/-- Settles O4: the tables are filled with the same value for each entry, and the other items stand in State.reset. -/
theorem resetStateHoldsThePowerOnValues : Obligations.ResetStateHoldsThePowerOnValues := by
  unfold Obligations.ResetStateHoldsThePowerOnValues
  have tanks (t : TankNo) : State.reset.device.tank t = none := by simp [State.reset, Device.reset, Device.tank, Vector.get]
  have nodes (n : NodeNo) : State.reset.device.node n = .blank := by simp [State.reset, Device.reset, Device.node, Vector.get]
  have lines (l : Line) : State.reset.device.line l = .reset ∧ State.reset.device.governor l = .reset ∧
      State.reset.device.hose l = .reset ∧ State.reset.device.topOff l = .empty := by cases l <;> exact ⟨rfl, rfl, rfl, rfl⟩
  refine ⟨rfl, rfl, rfl, rfl, rfl, rfl, rfl, rfl, rfl, rfl, rfl, rfl, rfl, rfl, rfl, rfl, rfl, rfl, rfl, rfl, rfl, rfl, rfl, rfl,
    rfl, tanks, fun n => by rw [nodes n]; rfl, fun l => ?_, rfl, rfl⟩
  obtain ⟨line, governor, hose, topOff⟩ := lines l
  rw [line, governor, hose, topOff]
  exact ⟨rfl, rfl, rfl, rfl, rfl, rfl⟩

/-- Settles O5. -/
theorem powerOnResetRestartsTheDevice : Obligations.PowerOnResetRestartsTheDevice := by
  unfold Obligations.PowerOnResetRestartsTheDevice
  intro straps s
  exact ⟨_, rfl, rfl, rfl, rfl⟩

/-! ## A request taken in WATCH or PASSIVE -/

/-- No request taken in WATCH changes the queue. -/
theorem Device.takeInWatch_queue (s : Device) (a : Asked) : (s.takeInWatch a).requests.queue = s.requests.queue := by
  cases a with
  | openLine l => rfl
  | hold l => simp only [Device.takeInWatch, Device.takeHold]; split <;> simp
  | resume l => simp only [Device.takeInWatch, Device.takeResume]; split <;> simp
  | stop l strip => simp only [Device.takeInWatch, Device.takeStop]; (repeat' split) <;> simp
  | loadCharter => simp only [Device.takeInWatch, Device.takeLoad, Device.startLoad]; (repeat' split) <;> simp
  | lockLimits => rfl
  | trip => simp [Device.takeInWatch, Device.takeTrip]
  | tripReset => simp only [Device.takeInWatch, Device.takeTripReset]; (repeat' split) <;> simp
  | silence => rfl

/-- The device at the end of a request's event in WATCH, for what the request asks. -/
def State.watchEvent (s : State) (w : RequestWord) (k : RequestKind) (a : Byte) (asked : Asked) : Device :=
  (((s.requestArrived w k a).takeInWatch asked).reply .rewrite 0).finish

/-- A request written in WATCH with nothing in hand is stored and taken (R164, R165). -/
theorem State.request_watch {s : State} {w : RequestWord} {k : RequestKind} {a : Byte} {asked : Asked} (h : s.takesRequest)
    (watch : s.device.charter.mode = .watch) (kind : Request.asked ⟨w, kindCode k, a, s.device.time⟩ = some asked) :
    ∃ t, s.request w k a = .next t ∧ s.requestStored t w k a ∧ t.device = s.watchEvent w k a asked := by
  have taken := State.requestArrived_taken h kind
  rw [watch] at taken
  obtain ⟨t, next, device, store⟩ := State.request_event w k a h
  refine ⟨t, next, State.requestStored_of_event device store ?_, ?_⟩
  · rw [taken]
    exact Device.takeInWatch_queue _ _
  · rw [device, State.requestEvent, taken]
    rfl

/-- A request written in PASSIVE with nothing in hand is stored, and taken when it is a LOAD_CHARTER or refused (R166). -/
theorem State.request_passive {s : State} {w : RequestWord} {k : RequestKind} {a : Byte} {asked : Asked} (h : s.takesRequest)
    (passive : s.device.charter.mode = .passive) (kind : Request.asked ⟨w, kindCode k, a, s.device.time⟩ = some asked)
    (other : asked ≠ .loadCharter) :
    ∃ t, s.request w k a = .next t ∧ t.device.answered .notLoaded ∧ s.device.SamePlant t.device ∧
      t.device.charter = s.device.charter := by
  have taken := State.requestArrived_taken h kind
  rw [passive] at taken
  obtain ⟨t, next, device, -⟩ := State.request_event w k a h
  replace taken : (s.requestArrived w k a).takeHead = (s.requestArrived w k a).askResult .notLoaded :=
    taken.trans (Device.takeInPassive_refuses _ other)
  rw [State.requestEvent, taken] at device
  obtain ⟨plant, charter⟩ := s.askResult_samePlant w k a .notLoaded
  refine ⟨t, next, ?_⟩
  rw [device]
  exact ⟨Device.askResult_answered _ _ _ _, plant, charter⟩

/-- The event of a request that is only given a result. -/
theorem State.watchEvent_asks {s : State} {w : RequestWord} {k : RequestKind} {a : Byte} {asked : Asked} {r : Result}
    (h : (s.requestArrived w k a).takeInWatch asked = (s.requestArrived w k a).askResult r) :
    (s.watchEvent w k a asked).answered r ∧ s.device.SamePlant (s.watchEvent w k a asked) ∧
      (s.watchEvent w k a asked).charter = s.device.charter := by
  rw [State.watchEvent, h]
  exact ⟨Device.askResult_answered _ _ _ _, s.askResult_samePlant _ _ _ _⟩

/-- A request that arrives touches only the queue and the port's wait count. -/
@[simp] theorem State.requestArrived_keeps (s : State) (w : RequestWord) (k : RequestKind) (a : Byte) :
    (s.requestArrived w k a).time = s.device.time ∧ (s.requestArrived w k a).half = s.device.half ∧
    (s.requestArrived w k a).strap = s.device.strap ∧ (s.requestArrived w k a).jobs = s.device.jobs ∧
    (s.requestArrived w k a).marks = s.device.marks ∧ (s.requestArrived w k a).reports = s.device.reports ∧
    (s.requestArrived w k a).lines = s.device.lines ∧ (s.requestArrived w k a).memory = s.device.memory ∧
    (s.requestArrived w k a).governors = s.device.governors ∧ (s.requestArrived w k a).hoses = s.device.hoses ∧
    (s.requestArrived w k a).tanks = s.device.tanks ∧ (s.requestArrived w k a).topOffs = s.device.topOffs ∧
    (s.requestArrived w k a).shutdown = s.device.shutdown ∧ (s.requestArrived w k a).nodes = s.device.nodes ∧
    (s.requestArrived w k a).targets = s.device.targets ∧ (s.requestArrived w k a).bus = s.device.bus ∧
    (s.requestArrived w k a).link = s.device.link ∧ (s.requestArrived w k a).charter = s.device.charter ∧
    (s.requestArrived w k a).stills = s.device.stills ∧ (s.requestArrived w k a).valves = s.device.valves := by
  simp [State.requestArrived]

@[simp] theorem State.requestArrived_reads (s : State) (w : RequestWord) (k : RequestKind) (a : Byte) :
    (∀ l, (s.requestArrived w k a).governor l = s.device.governor l) ∧
    (∀ l, (s.requestArrived w k a).hose l = s.device.hose l) ∧
    (∀ l, (s.requestArrived w k a).topOff l = s.device.topOff l) ∧
    (∀ l, (s.requestArrived w k a).sequenceMemory l = s.device.sequenceMemory l) ∧
    (∀ t, (s.requestArrived w k a).tank t = s.device.tank t) ∧
    (∀ n, (s.requestArrived w k a).node n = s.device.node n) := by
  simp [State.requestArrived]

@[simp] theorem State.requestArrived_line (s : State) (w : RequestWord) (k : RequestKind) (a : Byte) (l : Line) :
    (s.requestArrived w k a).line l = s.device.line l := by
  simp [State.requestArrived]

/-- Settles O16: only the lock is set. -/
theorem lockLimitsSetsTheLock : Obligations.LockLimitsSetsTheLock := by
  unfold Obligations.LockLimitsSetsTheLock
  intro a s h watch
  obtain ⟨t, next, stored, device⟩ := State.request_watch (k := .lockLimits) (a := a) h watch
    (asked := .lockLimits) (w := .general) (by simp [Request.asked])
  have taken : (s.requestArrived .general .lockLimits a).takeInWatch .lockLimits =
      ((s.requestArrived .general .lockLimits a).setCharter
        { (s.requestArrived .general .lockLimits a).charter with lock := true }).askResult .done := rfl
  rw [State.watchEvent, taken] at device
  refine ⟨t, next, stored, ?_, ?_⟩
  · rw [device]
    exact Device.askResult_answered _ _ _ _
  · rw [device]
    simp [Device.SamePlant, Device.SameLines, Device.SameClock, Device.SameRing, State.requestArrived]

/-- Settles O9: OPEN asks its plan read and nothing else. -/
theorem openAsksThePlanRead : Obligations.OpenAsksThePlanRead := by
  unfold Obligations.OpenAsksThePlanRead
  intro l a s h watch
  obtain ⟨t, next, stored, device⟩ := State.request_watch (k := .openLine) (a := a) h watch
    (asked := .openLine l) (w := .line l) (by simp [Request.asked])
  have taken : (s.requestArrived (.line l) .openLine a).takeInWatch (.openLine l) =
      (s.requestArrived (.line l) .openLine a).askPlan l := rfl
  rw [State.watchEvent, taken] at device
  have phase : t.device.requests.phase = .planRead := by simp [device, Device.askPlan]
  obtain ⟨-, -, queue⟩ := id stored
  refine ⟨t, next, stored, phase, ?_, ?_, ?_⟩
  · simp [device, Device.askPlan, State.requestArrived]
  · simp [Device.openHandled, queue, phase, Request.asked]
  · rw [device]
    simp [Device.SamePlant, Device.SameLines, Device.SameClock, Device.SameRing, State.requestArrived]

/-- Settles O14: from PASSIVE, and from WATCH with every line FREE and no node transaction, the load starts. -/
theorem loadCharterEntersLoading : Obligations.LoadCharterEntersLoading := by
  unfold Obligations.LoadCharterEntersLoading
  intro a s h mode
  have kind : Request.asked ⟨.general, kindCode .loadCharter, a, s.device.time⟩ = some .loadCharter := by simp [Request.asked]
  have taken : (s.requestArrived .general .loadCharter a).takeHead = (s.requestArrived .general .loadCharter a).startLoad := by
    rw [State.requestArrived_taken h kind]
    obtain passive | ⟨watch, free, idle⟩ := mode
    · rw [passive]
      rfl
    · rw [watch]
      have free' : (s.requestArrived .general .loadCharter a).allFree = true := by
        simpa [Device.allFree] using free
      have idle' : (s.requestArrived .general .loadCharter a).allNodesIdle = true := by
        simpa [Device.allNodesIdle, State.requestArrived] using idle
      simp [Device.takeInWatch, Device.takeLoad, free', idle']
  obtain ⟨t, next, device, store⟩ := State.request_event .general .loadCharter a h
  have stored : s.requestStored t .general .loadCharter a :=
    State.requestStored_of_event device store (by rw [taken]; simp [Device.startLoad, Device.enterLoading_effect])
  rw [State.requestEvent, taken] at device
  obtain ⟨charter, jobs, bus, link, shutdown, interrupt, -⟩ :=
    Device.enterLoading_effect (s.requestArrived .general .loadCharter a)
  have started : t.device.bus = (s.requestArrived .general .loadCharter a).enterLoading.bus := by
    rw [device, Device.finish_bus] <;> simp [Device.startLoad, charter, bus]
  refine ⟨t, next, stored, ?_⟩
  rw [started, device]
  simp [bus, Device.startLoad, charter, jobs, link, shutdown, interrupt, Device.SameLines, Device.SameClock]

/-- Settles O15: LOAD_CHARTER meets the first condition that fails, and PASSIVE refuses every other known request. -/
theorem requestsAreRefusedByMode : Obligations.RequestsAreRefusedByMode := by
  unfold Obligations.RequestsAreRefusedByMode
  intro a s h
  have load : Request.asked ⟨.general, kindCode .loadCharter, a, s.device.time⟩ = some .loadCharter := by simp [Request.asked]
  have allFree : (s.requestArrived .general .loadCharter a).allFree = s.device.allFree := by simp [Device.allFree]
  have allIdle : (s.requestArrived .general .loadCharter a).allNodesIdle = s.device.allNodesIdle := by
    simp [Device.allNodesIdle, State.requestArrived]
  refine ⟨fun watch active => ?_, fun watch free busy => ?_, fun passive c known => ?_, fun passive l c known => ?_⟩
  · obtain ⟨t, next, -, device⟩ := State.request_watch h watch load
    exact ⟨t, next, device ▸ State.watchEvent_asks (by simp [Device.takeInWatch, Device.takeLoad, allFree, active])⟩
  · obtain ⟨t, next, -, device⟩ := State.request_watch h watch load
    exact ⟨t, next, device ▸ State.watchEvent_asks (by simp [Device.takeInWatch, Device.takeLoad, allFree, free, allIdle, busy])⟩
  · simp only [List.mem_cons, List.not_mem_nil, or_false] at known
    obtain rfl | rfl | rfl | rfl := known
    · exact State.request_passive (asked := .lockLimits) h passive (by simp [Request.asked]) (by simp)
    · exact State.request_passive (asked := .trip) h passive (by simp [Request.asked]) (by simp)
    · exact State.request_passive (asked := .tripReset) h passive (by simp [Request.asked]) (by simp)
    · exact State.request_passive (asked := .silence) h passive (by simp [Request.asked]) (by simp)
  · simp only [List.mem_cons, List.not_mem_nil, or_false] at known
    obtain rfl | rfl | rfl | rfl := known
    · exact State.request_passive (asked := .openLine l) h passive (by simp [Request.asked]) (by simp)
    · exact State.request_passive (asked := .hold l) h passive (by simp [Request.asked]) (by simp)
    · exact State.request_passive (asked := .resume l) h passive (by simp [Request.asked]) (by simp)
    · exact State.request_passive (asked := .stop l (a.getLsbD 0)) h passive (by simp [Request.asked]) (by simp)

/-- Settles O13: a line in a wrong state gives each request its refusal, and STOPPING takes only the strip flag. -/
theorem lineRequestsInAWrongState : Obligations.LineRequestsInAWrongState := by
  unfold Obligations.LineRequestsInAWrongState
  intro l a s h watch
  refine ⟨fun notHoldable notHeld => ?_, fun notHeld => ?_, fun inactive notStopping => ?_, fun stopping => ?_⟩
  · obtain ⟨t, next, -, device⟩ := State.request_watch (k := .hold) (a := a) h watch (asked := .hold l) (w := .line l)
      (by simp [Request.asked])
    exact ⟨t, next, device ▸ State.watchEvent_asks (by simp [Device.takeInWatch, Device.takeHold, notHoldable, notHeld])⟩
  · obtain ⟨t, next, -, device⟩ := State.request_watch (k := .resume) (a := a) h watch (asked := .resume l) (w := .line l)
      (by simp [Request.asked])
    exact ⟨t, next, device ▸ State.watchEvent_asks (by simp only [Device.takeInWatch, Device.takeResume, State.requestArrived_line, if_neg notHeld])⟩
  · obtain ⟨t, next, -, device⟩ := State.request_watch (k := .stop) (a := a) h watch (asked := .stop l (a.getLsbD 0))
      (w := .line l) (by simp [Request.asked])
    exact ⟨t, next, device ▸ State.watchEvent_asks (by simp [Device.takeInWatch, Device.takeStop, inactive, notStopping])⟩
  · obtain ⟨t, next, -, device⟩ := State.request_watch (k := .stop) (a := a) h watch (asked := .stop l (a.getLsbD 0))
      (w := .line l) (by simp [Request.asked])
    have taken : (s.requestArrived (.line l) .stop a).takeInWatch (.stop l (a.getLsbD 0)) =
        (if a.getLsbD 0 = true then (s.requestArrived (.line l) .stop a).setLine l { s.device.line l with stripFlag := true }
          else s.requestArrived (.line l) .stop a).askResult .done := by
      simp [Device.takeInWatch, Device.takeStop, stopping, LineState.active]
    rw [State.watchEvent, taken] at device
    refine ⟨t, next, by rw [device]; exact Device.askResult_answered _ _ _ _, ?_⟩
    rw [device]
    cases strip : a.getLsbD 0 <;> simp [Device.SameOtherLines, State.requestArrived] <;> intro m hm <;> simp [hm]

end Sys2Proof.Machine

/-! SUPPORT. Reports that are not lost: how many an operation submits at most, and that with room for them each one waits at
the end of its event (R172, R173; log 29). -/

namespace Sys2Proof.Machine

open Sys2Proof

/-! ## Operations that submit at most so many reports -/

/-- At most K reports join the queue: with room for K, none that waits is lost, and none is counted as lost. -/
structure Device.Tells (k : Nat) (s t : Device) : Prop where
  usable : t.reports.usable = s.reports.usable
  told : s.reports.queue.length + k ≤ 16 →
    s.reports.queue ⊆ t.reports.queue ∧ t.reports.queue.length ≤ s.reports.queue.length + k ∧
      t.reports.overrun = s.reports.overrun

theorem Device.Tells.of_same {s t : Device} (h : t.reports = s.reports) : Device.Tells 0 s t :=
  ⟨by rw [h], fun _ => by rw [h]; exact ⟨List.Subset.refl _, Nat.le_refl _, rfl⟩⟩

theorem Device.Tells.refl (s : Device) : Device.Tells 0 s s := .of_same rfl

theorem Device.Tells.trans {j k : Nat} {s t u : Device} (h : Device.Tells j s t) (i : Device.Tells k t u) :
    Device.Tells (j + k) s u := by
  refine ⟨i.usable.trans h.usable, fun room => ?_⟩
  obtain ⟨sub, length, overrun⟩ := h.told (by omega)
  obtain ⟨sub', length', overrun'⟩ := i.told (by omega)
  exact ⟨List.Subset.trans sub sub', by omega, overrun'.trans overrun⟩

theorem Device.Tells.mono {j k : Nat} {s t : Device} (h : Device.Tells j s t) (le : j ≤ k) : Device.Tells k s t := by
  refine ⟨h.usable, fun room => ?_⟩
  obtain ⟨sub, length, overrun⟩ := h.told (by omega)
  exact ⟨sub, by omega, overrun⟩

theorem Device.Tells.ite {k : Nat} {s t u : Device} {p : Prop} [Decidable p] (h : p → Device.Tells k s t)
    (i : ¬p → Device.Tells k s u) : Device.Tells k s (if p then t else u) := by
  split
  · exact h ‹_›
  · exact i ‹_›

/-- With room for one more, a report submitted to a usable ring joins the end of the queue. -/
theorem Device.enqueueReport_queue (s : Device) (r : Report) (usable : s.reports.usable = true)
    (room : s.reports.queue.length + 1 ≤ 16) :
    (s.enqueueReport r).reports.queue = s.reports.queue ++ [r] ∧
      (s.enqueueReport r).reports.overrun = s.reports.overrun := by
  have : s.reports.queue.length < Config.reportQueueSize := room
  simp [Device.enqueueReport, usable, this]

/-- With room for one more, a report that goes ahead takes its place behind those placed. -/
theorem Device.enqueueAhead_queue (s : Device) (r : Report) (usable : s.reports.usable = true)
    (room : s.reports.queue.length + 1 ≤ 16) :
    (s.enqueueAhead r).reports.queue = s.reports.queue.take s.reports.placed ++ r :: s.reports.queue.drop s.reports.placed ∧
      (s.enqueueAhead r).reports.overrun = s.reports.overrun := by
  have length : (s.reports.queue.take s.reports.placed ++ r :: s.reports.queue.drop s.reports.placed).length =
      s.reports.queue.length + 1 := by
    simp only [List.length_append, List.length_take, List.length_cons, List.length_drop]
    omega
  have fits : (s.reports.queue.take s.reports.placed ++ r :: s.reports.queue.drop s.reports.placed).length ≤
      Config.reportQueueSize := by rw [length]; exact room
  simp only [Device.enqueueAhead, usable, if_pos fits, List.take_of_length_le fits]
  exact ⟨rfl, rfl⟩

theorem Device.enqueueReport_tells (s : Device) (r : Report) : Device.Tells 1 s (s.enqueueReport r) := by
  refine ⟨by simp, fun room => ?_⟩
  cases usable : s.reports.usable with
  | false => simp [Device.enqueueReport, usable]
  | true =>
    obtain ⟨queue, overrun⟩ := s.enqueueReport_queue r usable room
    rw [queue]
    exact ⟨List.subset_append_left _ _, by simp, overrun⟩

theorem Device.enqueueAhead_tells (s : Device) (r : Report) : Device.Tells 1 s (s.enqueueAhead r) := by
  refine ⟨by simp, fun room => ?_⟩
  cases usable : s.reports.usable with
  | false => simp [Device.enqueueAhead, usable]
  | true =>
    obtain ⟨queue, overrun⟩ := s.enqueueAhead_queue r usable room
    have whole := List.take_append_drop s.reports.placed s.reports.queue
    refine ⟨fun x waits => ?_, ?_, overrun⟩
    · rw [← whole] at waits
      rw [queue]
      simp only [List.mem_append, List.mem_cons] at waits ⊢
      obtain before | after := waits
      · exact .inl before
      · exact .inr (.inr after)
    · rw [queue]
      simp only [List.length_append, List.length_take, List.length_cons, List.length_drop]
      omega

theorem Device.submit_tells (s : Device) (k : ReportKind) (l n : Nat) (c : ReportCause) (a b : Word) :
    Device.Tells 1 s (s.submit k l n c a b) := s.enqueueReport_tells _

theorem Device.placeReports_tells (s : Device) : Device.Tells 0 s s.placeReports :=
  ⟨rfl, fun _ => ⟨List.Subset.refl _, Nat.le_refl _, rfl⟩⟩

/-- A report in the queue of a ring that is not full, none lost, waits at the end of the event (R173). -/
theorem Device.finish_reportWaits {d : Device} {r : Report} (waits : r ∈ d.reports.queue)
    (overrun : d.reports.overrun = 0) (full : d.reports.full = false) :
    d.finish.reportWaits r := by
  have reports : d.takeBusMode.startDueFrame.reports = d.reports := by simp
  generalize hx : d.takeBusMode.startDueFrame = x at reports
  have decided : x.decideReport.placeReports.reportWaits r := by
    unfold Device.decideReport
    split
    · exact .inl (by simpa [Device.placeReports, reports] using waits)
    · rw [if_neg (by simp [reports, overrun])]
      split
      case h_1 empty => rw [← reports, empty] at waits; cases waits
      case h_2 head rest queue =>
        rw [if_neg (by simp [reports, full])]
        rw [← reports, queue] at waits
        obtain rfl | waits := List.mem_cons.mp waits
        · exact .inr rfl
        · exact .inl waits
  simpa [Device.finish, hx] using decided

/-- From a state whose reports flow, an operation that submits at most 16 reports loses none of those in the queue at its
end. -/
theorem Device.Tells.reportWaits {k : Nat} {s d : Device} {r : Report} (h : Device.Tells k s d) (flow : s.reportsFlow)
    (le : k ≤ 16) (ring : d.reports.producer = s.reports.producer ∧ d.reports.consumer = s.reports.consumer)
    (waits : r ∈ d.reports.queue) : d.finish.reportWaits r := by
  obtain ⟨-, queue, overrun, full⟩ := flow
  obtain ⟨-, -, noneLost⟩ := h.told (by simpa [queue] using le)
  refine Device.finish_reportWaits waits (noneLost.trans overrun) ?_
  have same : d.reports.unconsumed = s.reports.unconsumed := by simp only [ReportUnit.unconsumed, ring]
  rw [← full, ReportUnit.full, ReportUnit.full, same]

/-! ## Reports of claims -/

theorem Device.Tells.of_reports {k : Nat} {s t : Device} (u : Device) (h : Device.Tells k s u) (same : t.reports = u.reports) :
    Device.Tells k s t :=
  ⟨by rw [same]; exact h.usable, fun room => by rw [same]; exact h.told room⟩

theorem Device.displaceQueued_tells (s : Device) (n : NodeNo) (o : Origin) : Device.Tells 1 s (s.displaceQueued n o) := by
  unfold Device.displaceQueued
  split
  · exact (Device.Tells.refl s).mono (by omega)
  · exact (Device.Tells.of_same (by simp)).trans (Device.enqueueAhead_tells _ _)

theorem Device.abandonInFlight_tells (s : Device) (n : NodeNo) : Device.Tells 1 s (s.abandonInFlight n) := by
  unfold Device.abandonInFlight
  split
  · exact (Device.Tells.refl s).mono (by omega)
  · exact (Device.Tells.of_same (by simp)).trans (Device.submit_tells _ _ _ _ _ _ _)

/-- A claim is reported at most twice: the claim it displaces or is dropped behind, and the MOVE it abandons (R125). -/
theorem Device.claim_tells (s : Device) (n : NodeNo) (c : Claim) : Device.Tells 2 s (s.claim n c) := by
  have displaced := s.displaceQueued_tells n c.origin
  unfold Device.claim
  split
  · exact (s.enqueueAhead_tells _).mono (by omega)
  · exact (displaced.of_reports _ (by simp)).mono (by omega)
  · exact displaced.mono (by omega)
  · exact (displaced.of_reports _ (by simp)).mono (by omega)
  · exact (displaced.of_reports _ (by simp)).mono (by omega)
  · exact (displaced.of_reports _ (by simp)).mono (by omega)
  · exact (displaced.trans (Device.abandonInFlight_tells _ n)).of_reports _ (by simp)

theorem Device.claimValve_tells (s : Device) (l : Line) (r : Role) (g : Target) (o : Origin) :
    Device.Tells 2 s (s.claimValve l r g o) := by
  unfold Device.claimValve
  split
  · exact (Device.Tells.refl s).mono (by omega)
  · exact s.claim_tells _ _

theorem Device.claimPump_tells (s : Device) (l : Line) (v : Nat) (o : Origin) :
    Device.Tells 2 s (s.claimPump l v o) := by
  unfold Device.claimPump
  split
  · exact (Device.Tells.refl s).mono (by omega)
  · exact s.claim_tells _ _

/-- The reports that a claim on a node makes, in the queue of the device after it. -/
def Device.claimTold (s t : Device) (n : NodeNo) (c : Claim) : Prop :=
  ∀ x, (s.node n).inFlight = some x →
    (∀ q, (s.node n).queued = some q →
      (if q.origin = .esd ∧ c.origin ≠ .esd ∧ (x.origin = .esd ∨ (s.node n).kind = .valve) then
        s.dropReport n c .esdAhead
      else s.dropReport n q (if c.origin = .esd ∧ q.origin ≠ .esd then .withdrawn else .replaced)) ∈ t.reports.queue) ∧
    ((s.node n).kind = .valve → c.origin = .esd → x.origin ≠ .esd → x.act ≠ c.act →
      (⟨.valveDone, s.nodeLine n, nodeAddress n, .outcome .abandoned, BitVec.ofNat 32 (actNumber x.act),
        BitVec.ofNat 32 (s.node n).readingA, s.time, .none⟩ : Report) ∈ t.reports.queue)

/-- A claim fits its node: a MOVE goes to a VALVE, a SPEED to another node. -/
def Node.Fits (nd : Node) (c : Claim) : Prop :=
  match c.act with
  | .move _ => nd.kind = .valve
  | .speed _ => nd.kind ≠ .valve

theorem Device.displaceQueued_told (s : Device) (n : NodeNo) (o : Origin) {q : Claim} (queued : (s.node n).queued = some q)
    (usable : s.reports.usable = true) (room : s.reports.queue.length + 1 ≤ 16) :
    s.dropReport n q (if o = .esd ∧ q.origin ≠ .esd then .withdrawn else .replaced) ∈
      (s.displaceQueued n o).reports.queue := by
  simp only [Device.displaceQueued, queued]
  generalize hu : s.setNode n { s.node n with queued := none } = u
  have reports : u.reports = s.reports := by rw [← hu]; simp
  obtain ⟨ahead, -⟩ := Device.enqueueAhead_queue u
    { kind := .claimDropped, line := u.nodeLine n, subject := nodeAddress n,
      cause := .dropped (if o = .esd ∧ q.origin ≠ .esd then .withdrawn else .replaced),
      valueA := BitVec.ofNat 32 (actNumber q.act), valueB := 0, time := u.time, detail := .none }
    (by rw [reports]; exact usable) (by rw [reports]; exact room)
  have line : u.nodeLine n = s.nodeLine n := by simp [← hu, Device.nodeLine]
  have time : u.time = s.time := by simp [← hu]
  rw [Device.reportDropped, ahead, Device.dropReport, line, time]
  simp

theorem Device.displaceQueued_keepsNode (s : Device) (n : NodeNo) (o : Origin) :
    ((s.displaceQueued n o).node n).inFlight = (s.node n).inFlight ∧
      ((s.displaceQueued n o).node n).readingA = (s.node n).readingA ∧
      ((s.displaceQueued n o).node n).line = (s.node n).line := by
  unfold Device.displaceQueued
  split
  · exact ⟨rfl, rfl, rfl⟩
  · simp [Device.reportDropped]

theorem Device.abandonInFlight_told (s : Device) (n : NodeNo) {x : Transaction} (flying : (s.node n).inFlight = some x)
    (usable : s.reports.usable = true) (room : s.reports.queue.length + 1 ≤ 16) :
    (⟨.valveDone, s.nodeLine n, nodeAddress n, .outcome .abandoned, BitVec.ofNat 32 (actNumber x.act),
        BitVec.ofNat 32 (s.node n).readingA, s.time, .none⟩ : Report) ∈ (s.abandonInFlight n).reports.queue := by
  simp only [Device.abandonInFlight, flying, Device.reportEnd, Device.submit]
  generalize hu : s.setNode n { s.node n with inFlight := none } = u
  have reports : u.reports = s.reports := by rw [← hu]; simp
  obtain ⟨queue, -⟩ := Device.enqueueReport_queue u
    { kind := .valveDone, line := u.nodeLine n, subject := nodeAddress n, cause := .outcome .abandoned,
      valueA := BitVec.ofNat 32 (actNumber x.act), valueB := BitVec.ofNat 32 (u.node n).readingA, time := u.time,
      detail := .none } (by rw [reports]; exact usable) (by rw [reports]; exact room)
  have line : u.nodeLine n = s.nodeLine n := by simp [← hu, Device.nodeLine]
  have time : u.time = s.time := by simp [← hu]
  have reading : (u.node n).readingA = (s.node n).readingA := by simp [← hu]
  rw [queue, line, time, reading]
  simp

/-- A claim's fate is to be dropped exactly when it meets a queued ESD claim that it cannot displace. -/
theorem claimFate_drop {nd : Node} {c : Claim} {x : Transaction} (flying : nd.inFlight = some x) (fits : nd.Fits c) :
    claimFate nd c = .drop ↔
      nd.queuedEsd = true ∧ c.origin ≠ .esd ∧ (x.origin = .esd ∨ nd.kind = .valve) := by
  obtain ⟨act, origin⟩ := c
  cases act with
  | move g =>
    have valve : nd.kind = .valve := fits
    simp only [claimFate, flying, valve]
    (repeat' split) <;> simp_all
  | speed v =>
    have pump : nd.kind ≠ .valve := fits
    simp only [claimFate, flying]
    (repeat' split) <;> simp_all

theorem claimFate_abandon {nd : Node} {c : Claim} {x : Transaction} (flying : nd.inFlight = some x)
    (esd : c.origin = .esd) (other : x.origin ≠ .esd) (differs : x.act ≠ c.act) (fits : nd.Fits c)
    (valve : nd.kind = .valve) : claimFate nd c = .abandon := by
  obtain ⟨act, origin⟩ := c
  cases act with
  | move g => simp_all [claimFate]
  | speed v => exact absurd valve fits

/-- With room for two reports, a claim that meets a transaction is reported as R121 to R125 give. -/
theorem Device.claim_told (s : Device) (n : NodeNo) (c : Claim) (fits : (s.node n).Fits c)
    (usable : s.reports.usable = true) (room : s.reports.queue.length + 2 ≤ 16) : s.claimTold (s.claim n c) n c := by
  intro x flying
  refine ⟨fun q queued => ?_, fun valve esd other differs => ?_⟩
  · have waits : (s.node n).queuedEsd = true ↔ q.origin = .esd := by simp [Node.queuedEsd, queued]
    by_cases drop : claimFate (s.node n) c = .drop
    · have cond := (claimFate_drop flying fits).mp drop
      rw [waits] at cond
      obtain ⟨ahead, -⟩ := Device.enqueueAhead_queue s (s.dropReport n c .esdAhead) usable (by omega)
      rw [if_pos cond]
      simp only [Device.claim, drop, Device.reportDropped]
      rw [Device.dropReport] at ahead ⊢
      rw [ahead]
      simp
    · rw [if_neg (by rw [← waits, ← claimFate_drop flying fits]; exact drop)]
      have displaced := s.displaceQueued_told n c.origin queued usable (by omega)
      have later : (s.displaceQueued n c.origin).reports.queue ⊆ (s.claim n c).reports.queue := by
        obtain ⟨-, length, -⟩ := (s.displaceQueued_tells n c.origin).told (by omega)
        unfold Device.claim
        split
        case h_1 fate => exact absurd fate drop
        case h_7 =>
          obtain ⟨sub, -⟩ := (Device.abandonInFlight_tells (s.displaceQueued n c.origin) n).told (by omega)
          simpa using sub
        all_goals simp
      exact later displaced
  · obtain ⟨-, length, -⟩ := (s.displaceQueued_tells n c.origin).told (by omega)
    obtain ⟨inFlight, reading, line⟩ := s.displaceQueued_keepsNode n c.origin
    have usable' := (s.displaceQueued_tells n c.origin).usable.trans usable
    have told := Device.abandonInFlight_told (s.displaceQueued n c.origin) n (inFlight.trans flying) usable' (by omega)
    simp only [Device.claim, claimFate_abandon flying esd other differs fits valve, Device.goInFlight_keeps]
    simpa [Device.nodeLine, line, reading] using told

/-- A claim on a node, if there is one, told in the queue of the device after it. -/
def Device.claimsTold (s t : Device) (node : Option NodeNo) (c : Claim) : Prop := ∀ n, node = some n → s.claimTold t n c

/-- A claim told in one part of an event stands for the whole of it: the node and the clock were as at its start, and no
report is lost later. -/
theorem Device.claimsTold_of {s d t u : Device} {node : Option NodeNo} {c : Claim} (h : s.claimsTold t node c)
    (same : ∀ n, node = some n → d.node n = s.node n) (time : d.time = s.time)
    (sub : t.reports.queue ⊆ u.reports.queue) : d.claimsTold u node c := by
  intro n at_n x flying
  have node := same n at_n
  have line : d.nodeLine n = s.nodeLine n := by rw [Device.nodeLine, Device.nodeLine, node]
  obtain ⟨queued, abandoned⟩ := h n at_n x (node ▸ flying)
  rw [node]
  refine ⟨fun q hq => sub ?_, fun valve esd other differs => sub ?_⟩
  · simpa only [Device.dropReport, line, time] using queued q hq
  · simpa only [line, time] using abandoned valve esd other differs

/-- Claims told among reports that flow are reported at the end of the event. -/
theorem Device.claimReported_of_told {s t : Device} {node : Option NodeNo} {c : Claim}
    (waits : ∀ r, r ∈ t.reports.queue → t.finish.reportWaits r) (told : s.claimsTold t node c) :
    s.claimReported t.finish node c := by
  intro n x at_n flying
  obtain ⟨queued, abandoned⟩ := told n at_n x flying
  refine ⟨fun q hq => ?_, fun valve esd other differs => waits _ (abandoned valve esd other differs)⟩
  have := queued q hq
  split at this
  case isTrue cond => rw [if_pos cond]; exact waits _ this
  case isFalse cond => rw [if_neg cond]; exact waits _ this

theorem Device.claimPump_told (s : Device) (l : Line) (v : Nat) (o : Origin) (usable : s.reports.usable = true)
    (room : s.reports.queue.length + 2 ≤ 16) :
    s.claimsTold (s.claimPump l v o) (s.deviceOf l .pump) ⟨.speed v, o⟩ := by
  intro n at_n
  have kind := (s.deviceOf_some l .pump n at_n).1
  simp only [Device.claimPump, at_n]
  exact s.claim_told n _ (by simp [Node.Fits, kind]) usable room

theorem Device.claimValve_told (s : Device) (l : Line) (r : Role) (g : Target) (o : Origin)
    (usable : s.reports.usable = true) (room : s.reports.queue.length + 2 ≤ 16) :
    s.claimsTold (s.claimValve l r g o) (s.valveOf l r) ⟨.move g, o⟩ := by
  intro n at_n
  have kind := (s.valveOf_some l r n at_n).1
  simp only [Device.claimValve, at_n]
  exact s.claim_told n _ kind usable room

end Sys2Proof.Machine

/-! SUPPORT. Devices that differ in what the station sees alone carry the same effects; with this, RESUME, STOP and TRIP_RESET
in WATCH, the station reset and the ship loop (O6, O7, O11, O12, O18). -/

namespace Sys2Proof.Machine

open Sys2Proof

/-! ## Devices that differ only at the station's side -/

/-- Two devices with the same plant, clock and charter: they can differ in the port, the jobs, the requests, the reports, the
refresh marks and the bus. -/
def Device.alike (s t : Device) : Prop := t.time = s.time ∧ s.SamePlant t ∧ t.charter = s.charter

/-- A device with the plant, the clock and the charter of another. -/
def Device.plantOf (s t : Device) : Device :=
  { t with time := s.time, lines := s.lines, memory := s.memory, governors := s.governors, hoses := s.hoses,
           tanks := s.tanks, topOffs := s.topOffs, shutdown := s.shutdown, nodes := s.nodes, targets := s.targets,
           link := s.link, charter := s.charter }

theorem Device.alike.eq_plantOf {s t : Device} (h : s.alike t) : t = s.plantOf t := by
  obtain ⟨time, ⟨⟨lines, memory, governors, hoses, topOffs⟩, tanks, shutdown, nodes, targets, link⟩, charter⟩ := h
  rw [Device.plantOf, ← time, ← lines, ← memory, ← governors, ← hoses, ← topOffs, ← tanks, ← shutdown, ← nodes, ← targets,
    ← link, ← charter]

theorem Device.alike.refl (s : Device) : s.alike s := by simp [Device.alike, Device.SamePlant, Device.SameLines]

section
variable {s t : Device}

theorem Device.alike.lines (h : s.alike t) : t.lines = s.lines := by rw [h.eq_plantOf]; rfl

theorem Device.alike.governors (h : s.alike t) : t.governors = s.governors := by rw [h.eq_plantOf]; rfl

theorem Device.alike.hoses (h : s.alike t) : t.hoses = s.hoses := by rw [h.eq_plantOf]; rfl

theorem Device.alike.topOffs (h : s.alike t) : t.topOffs = s.topOffs := by rw [h.eq_plantOf]; rfl

theorem Device.alike.tanks (h : s.alike t) : t.tanks = s.tanks := by rw [h.eq_plantOf]; rfl

theorem Device.alike.nodes (h : s.alike t) : t.nodes = s.nodes := by rw [h.eq_plantOf]; rfl

theorem Device.alike.shutdown (h : s.alike t) : t.shutdown = s.shutdown := by rw [h.eq_plantOf]; rfl

theorem Device.alike.charter (h : s.alike t) : t.charter = s.charter := by rw [h.eq_plantOf]; rfl

theorem Device.alike.stills (h : s.alike t) : t.stills = s.stills := by rw [h.eq_plantOf]; rfl

theorem Device.alike.valves (h : s.alike t) : t.valves = s.valves := by rw [h.eq_plantOf]; rfl

theorem Device.alike.tankStills (h : s.alike t) : s.tankStills = t.tankStills := by rw [h.eq_plantOf]; rfl

theorem Device.alike.symm (h : s.alike t) : t.alike s := by rw [h.eq_plantOf]; exact Device.alike.refl _

end

section
variable {s d t u : Device} {l : Line}

theorem Device.alike.stopTaken (start : s.alike d) (finish : t.alike u) {c : Cause} {b : Bool} (h : s.stopTaken t l c b) :
    d.stopTaken u l c b := by
  rw [start.eq_plantOf, finish.eq_plantOf]; exact h

theorem Device.alike.lineupStopped (start : s.alike d) (finish : t.alike u) {c : Cause} (h : s.lineupStopped t l c) :
    d.lineupStopped u l c := by
  have settings : s.agree d l := s.agree_of_nodes d l start.nodes
  have before (n : NodeNo) : d.node n = s.node n := Device.node_congr _ _ n start.nodes
  have after (n : NodeNo) : u.node n = t.node n := Device.node_congr _ _ n finish.nodes
  refine s.lineupStopped_of d t u l c h start.1 settings (Device.line_congr _ _ l finish.lines)
    (Device.hose_congr _ _ l finish.hoses) (fun k none => ?_) (fun n _ => by simp [before, after])
  rwa [Device.tankHas, Device.tank_congr u t k finish.tanks]

theorem Device.alike.closingTaken (start : s.alike d) (finish : t.alike u) {c : Option Cause} (h : s.closingTaken t l c) :
    d.closingTaken u l c := by
  rw [start.eq_plantOf, finish.eq_plantOf]; exact h

theorem Device.alike.holdTaken (start : s.alike d) (finish : t.alike u) {c : HoldCause} (h : s.holdTaken t l c) :
    d.holdTaken u l c := by
  rw [start.eq_plantOf, finish.eq_plantOf]; exact h

theorem Device.alike.holdCleared (start : s.alike d) (finish : t.alike u) {c : HoldCause} (h : s.holdCleared t l c) :
    d.holdCleared u l c := by
  rw [start.eq_plantOf, finish.eq_plantOf]; exact h

theorem Device.alike.latchSet (start : s.alike d) (finish : t.alike u) {c : Cause} {line subject : Nat}
    (h : s.latchSet t c line subject) : d.latchSet u c line subject := by
  rw [start.eq_plantOf, finish.eq_plantOf]; exact h

theorem Device.alike.moveClaimed (start : s.alike d) (finish : t.alike u) {r : Role} {g : Target} {o : Origin}
    (h : s.moveClaimed t l r g o) : d.moveClaimed u l r g o := by
  rw [start.eq_plantOf, finish.eq_plantOf]; exact h

theorem Device.alike.speedClaimed (start : s.alike d) (finish : t.alike u) {v : Nat} {o : Origin}
    (h : s.speedClaimed t l v o) : d.speedClaimed u l v o := by
  rw [start.eq_plantOf, finish.eq_plantOf]; exact h

theorem Device.alike.esdClosed (start : s.alike d) (finish : t.alike u) (h : s.esdClosed t l) : d.esdClosed u l := by
  rw [start.eq_plantOf, finish.eq_plantOf]; exact h

end

/-- The end of an event touches nothing of the plant. -/
theorem Device.finish_alike (d : Device) : d.alike d.finish := by simp [Device.alike, Device.SamePlant, Device.SameLines]

/-- The end of a request's event touches nothing of the plant. -/
theorem Device.askResult_alike (d : Device) (r : Result) (t : Treatment) (w : Word) :
    d.alike ((d.askResult r).reply t w).finish := by
  simp [Device.alike, Device.SamePlant, Device.SameLines]

/-- A request that arrives touches nothing of the plant. -/
theorem State.requestArrived_alike (s : State) (w : RequestWord) (k : RequestKind) (a : Byte) :
    (s.requestArrived w k a).alike s.device := by
  simp [Device.alike, Device.SamePlant, Device.SameLines]

/-! ## Requests in WATCH -/

/-- The device of a request's event is its operation's, on the request that arrived, with the result asked. -/
theorem State.watchEvent_of {s : State} {w : RequestWord} {k : RequestKind} {a : Byte} {asked : Asked} {d : Device}
    {r : Result} (h : (s.requestArrived w k a).takeInWatch asked = d.askResult r) :
    s.watchEvent w k a asked = ((d.askResult r).reply .rewrite 0).finish := by rw [State.watchEvent, h]

/-- Settles O11: the hold cause is cleared, and the line primes when it was the last. -/
theorem resumeRemovesStationHold : Obligations.ResumeRemovesStationHold := by
  unfold Obligations.ResumeRemovesStationHold
  intro l a s h watch held cause
  obtain ⟨t, next, stored, device⟩ := State.request_watch (k := .resume) (a := a) h watch (asked := .resume l)
    (w := .line l) (by simp [Request.asked])
  have has : (s.device.line l).hold.has .stationHold = true := cause
  rw [State.watchEvent_of (d := (s.requestArrived (.line l) .resume a).clearHold l .stationHold) (r := .done)
    (by simp [Device.takeInWatch, Device.takeResume, held, cause])] at device
  have cleared : s.device.holdCleared t.device l .stationHold :=
    device ▸ (s.requestArrived_alike _ _ _).holdCleared (Device.askResult_alike _ _ _ _)
      (Device.clearHold_cleared _ l .stationHold (by simpa using held) (by simpa using has))
  refine ⟨t, next, stored, ?_, cleared.1, ?_, cleared, fun m hm => ?_, ?_⟩
  · rw [device]
    exact Device.askResult_answered _ _ _ _
  · split
    case isTrue none =>
      obtain ⟨-, primes⟩ := cleared
      have empty : ((s.device.line l).hold.put .stationHold false).isEmpty = true := none
      rw [if_pos empty] at primes
      exact primes.1
    case isFalse other =>
      rw [device]
      simp [Device.clearHold, HoldSet.put, held, has, other]
  · simp [device, hm]
  · simp [device, Device.SameClock, Device.SameRing]

theorem LineState.active_of_running {st : LineState} (h : st.running = true) : st.active = true := by
  cases st <;> simp_all [LineState.running, LineState.active]

/-- A stop from a rate above 0 claims nothing and releases no tank: the line ramps down first (R21). -/
theorem Device.stopTrigger_ramps (s : Device) (l : Line) (c : Cause) (b : Bool) (running : (s.line l).state.running = true)
    (above : 0 < (s.governor l).allowed) :
    (s.stopTrigger l c b).nodes = s.nodes ∧ (s.stopTrigger l c b).tanks = s.tanks := by
  have lineup : (s.line l).state ≠ .lineup := fun h => by simp [h, LineState.running] at running
  generalize entered : (s.setLine l ((s.line l).stopped c b)).enterState l .stopping .ramp (.line c) = d
  have nodes := (s.setLine l ((s.line l).stopped c b)).enterState_nodes l .stopping .ramp (.line c) (by simp)
  have allowed := (s.setLine l ((s.line l).stopped c b)).enterState_allowed l .stopping .ramp (.line c)
  have ramps : (d.governor l).allowed ≠ 0 := by
    rw [← entered, allowed]
    simp [Governor.entering]
    omega
  have taken : s.stopTrigger l c b = d := by
    rw [Device.stopTrigger, if_neg lineup, if_pos running, Device.enterStopping]
    simp only [entered, if_neg ramps]
  rw [taken, ← entered]
  simpa using nodes.1

/-- Settles O12: the line stops as R18 to R21 give, on the line's side of the state in which the request arrives. -/
theorem stopRampsTheLineDown : Obligations.StopRampsTheLineDown := by
  unfold Obligations.StopRampsTheLineDown
  intro l a s h watch stoppable
  obtain ⟨t, next, stored, device⟩ := State.request_watch (k := .stop) (a := a) h watch (asked := .stop l (a.getLsbD 0))
    (w := .line l) (by simp [Request.asked])
  have active := stoppable.elim LineState.active_of_running (fun lineup => by rw [lineup]; rfl)
  rw [State.watchEvent_of (d := (s.requestArrived (.line l) .stop a).stopTrigger l .stationStop (a.getLsbD 0)) (r := .done)
    (by simp [Device.takeInWatch, Device.takeStop, active])] at device
  have before := s.requestArrived_alike (.line l) .stop a
  have after := Device.askResult_alike ((s.requestArrived (.line l) .stop a).stopTrigger l .stationStop (a.getLsbD 0))
    .done .rewrite 0
  rw [← device] at after
  refine ⟨t, next, stored, ?_, fun running => ⟨?_, fun above => ?_⟩, fun lineup => ?_, fun m hm => ?_, ?_, ?_⟩
  · rw [device]
    exact Device.askResult_answered _ _ _ _
  · exact before.stopTaken after (Device.stopTrigger_taken _ l _ _ (by simpa using running))
  · rw [after.nodes, after.tanks, before.nodes, before.tanks]
    exact Device.stopTrigger_ramps _ l _ _ (by simpa using running) (by simpa using above)
  · exact before.lineupStopped after (Device.stopTrigger_lineup _ l _ _ (by simpa using lineup))
  · simp [device, hm]
  · exact (after.tankStills.symm.trans (Device.stopTrigger_stills _ l .stationStop _)).trans before.tankStills
  · simp [device, Device.SameClock, Device.SameRing]

/-- Each TRIPPED line is sent to CLOSING by TRIP_RESET, with the claims of its valves (R24, R26). -/
theorem Device.clearLatch_taken (s : Device) (l : Line) (tripped : (s.line l).state = .tripped) :
    s.closingTaken s.clearLatch l (s.line l).stopCause := by
  have nodes : s.dropLatch.placeReports.nodes = s.nodes := by simp
  have line : s.dropLatch.placeReports.line l = s.line l := by simp
  have closed := s.dropLatch.placeReports.closeTripped_taken l (by rw [line, tripped])
  rw [line] at closed
  have closing := s.dropLatch.placeReports.closingTaken_from s _ l _ closed nodes.symm (by simp)
  exact s.closingTaken_of s _ _ l _ closing (fun _ => rfl) (s.carries_nodes s _ _ l rfl rfl (by simp [Device.clearLatch]))
    (by simp [Device.clearLatch]) (by simp [Device.clearLatch]) (fun k none => by simpa [Device.clearLatch, Device.tankHas] using none)

/-- Settles O18. -/
theorem tripResetClearsTheLatch : Obligations.TripResetClearsTheLatch := by
  unfold Obligations.TripResetClearsTheLatch
  intro a s h watch latch healthy noneTripping
  obtain ⟨t, next, stored, device⟩ := State.request_watch (k := .tripReset) (a := a) h watch (asked := .tripReset)
    (w := .general) (by simp [Request.asked])
  have result : (s.requestArrived .general .tripReset a).tripResetResult = .done := by
    simp [Device.tripResetResult, watch, latch, healthy, noneTripping]
  rw [State.watchEvent_of (d := (s.requestArrived .general .tripReset a).clearLatch) (r := .done)
    (by rw [Device.takeInWatch, Device.takeTripReset_eq _ (by simpa using watch), result, if_pos rfl])] at device
  have before := s.requestArrived_alike .general .tripReset a
  have after := Device.askResult_alike ((s.requestArrived .general .tripReset a).clearLatch) .done .rewrite 0
  rw [← device] at after
  obtain ⟨latch', first, firstLine, firstSubject, barge, alarm⟩ := (s.requestArrived .general .tripReset a).clearLatch_shutdown
  obtain ⟨-, ⟨-, -, shutdown, -⟩, -⟩ := id after
  refine ⟨t, next, stored, ?_⟩
  rw [shutdown]
  refine ⟨?_, latch', first, firstLine, firstSubject, ?_, fun l => ?_, ?_, ?_⟩
  · rw [device]
    exact Device.askResult_answered _ _ _ _
  · rw [barge, if_pos (by simpa using watch)]
  · have line := (s.requestArrived .general .tripReset a).clearLatch_line l
    split
    case isTrue tripped =>
      have taken := (s.requestArrived .general .tripReset a).clearLatch_taken l (by simpa using tripped)
      simpa using before.closingTaken after taken
    case isFalse stays =>
      rw [if_neg (by simpa using stays)] at line
      simpa [Device.line_congr _ _ l after.lines] using line
  · simpa using alarm
  · simp [device, Device.SameClock, Device.SameRing]

/-! ## The station reset (R27, R163, R176, R185) and the ship loop (R86) -/

/-- The request unit and the report unit restarted, before the stops of R27 (R163, R176, R185). -/
def Device.restarted (s : Device) : Device := s.resetRequests.resetReports

theorem Device.stationReset_eq (s : Device) : s.stationReset = s.restarted.stopActive .stationReset := rfl

/-- The restart of the blocks at the station's side touches nothing of the plant. -/
theorem Device.restarted_alike (s : Device) : s.alike s.restarted := by
  simp [Device.alike, Device.SamePlant, Device.SameLines, Device.restarted, Device.resetRequests, Device.resetReports]

@[simp] theorem Device.restarted_station (s : Device) :
    s.restarted.requests = ⟨[], .untaken⟩ ∧ s.restarted.jobs.result = none ∧ s.restarted.jobs.consumer = true ∧
    s.restarted.reports.usable = true ∧ s.restarted.reports.producer = 0 ∧ s.restarted.reports.consumer = 0 ∧
    s.restarted.reports.interrupt = false ∧ s.restarted.port.waiting = [] ∧
    s.restarted.port.writesOpen = (s.port.writesOpen || s.requests.loadEnded) ∧ s.restarted.time = s.time ∧
    s.restarted.half = s.half ∧ s.restarted.strap = s.strap := by
  simp [Device.restarted, Device.resetRequests, Device.resetReports]

/-- Settles O6: the stops of R27 follow the restart, each on the line as it was. -/
theorem stationResetStopsActiveLines : Obligations.StationResetStopsActiveLines := by
  unfold Obligations.StationResetStopsActiveLines
  intro s
  have before := s.device.restarted_alike
  have back : s.device.restarted.alike s.device := before.symm
  have after := (s.device.restarted.stopActive .stationReset).finish_alike
  have line (l : Line) := Device.line_congr _ s.device l before.lines
  have taken (l : Line) := s.device.restarted.stopActive_taken .stationReset l
  obtain ⟨tankStills, tanks⟩ := s.device.restarted.stopActive_tanks .stationReset
  refine ⟨({ s with device := s.device.restarted.stopActive .stationReset } : State).settle, rfl, rfl,
    by simp [State.settle], by simp [State.settle], by simp [State.settle], by simp [State.settle], by simp [State.settle],
    by simp [State.settle], by simp [State.settle], by simp [State.settle], by simp [State.settle], fun l inactive => ?_, fun l running => ?_, fun l lineup => ?_, fun l => ?_, fun k e held free => ?_, ?_, ?_⟩
  all_goals simp only [State.settle]
  · obtain ⟨-, -, -, -, line', governor, hose, topOff, -⟩ := (taken l).2.2 (by rw [line, inactive])
    simp [line', governor, hose, topOff, line, Device.governor_congr _ s.device l before.governors,
      Device.hose_congr _ s.device l before.hoses, Device.topOff_congr _ s.device l before.topOffs]
  · exact back.stopTaken after ((taken l).1 (by rw [line, running]))
  · exact back.lineupStopped after ((taken l).2.1 (by rw [line, lineup]))
  · simpa using (s.device.restarted.stopActive_lines .stationReset l).1
  · simpa using tanks k e (by rw [Device.tank_congr _ s.device k before.tanks, held]) (fun l at_l => by rw [line, free l at_l])
  · exact (after.tankStills.symm.trans tankStills).trans back.tankStills
  · simp [before.charter, before.shutdown, before.stills, before.valves, Device.SameClock]

/-- A change of the ship loop that is no break in WATCH only stores the condition (R86). -/
theorem Device.takeShipLoop_quiet (s : Device) (c : Loop) (quiet : c = .healthy ∨ s.charter.mode ≠ .watch) :
    (s.takeShipLoop c).shutdown = { s.shutdown with shipLoop := c } ∧ s.SameLines (s.takeShipLoop c) := by
  unfold Device.takeShipLoop Device.SameLines
  split
  case isTrue same => simp [same]
  case isFalse =>
    cases c with
    | healthy => simp
    | broken => simp_all

/-- A break of the ship loop in WATCH is an ESD trigger (R86). -/
theorem Device.takeShipLoop_breaks (s : Device) (watch : s.charter.mode = .watch) (healthy : s.shutdown.shipLoop = .healthy) :
    s.takeShipLoop .broken = (s.setShutdown { s.shutdown with shipLoop := .broken }).esdTrigger .shipLoop 0 0 0 := by
  simp [Device.takeShipLoop, healthy, watch]

/-- The ship loop's condition is stored at each change (R86). -/
theorem Device.takeShipLoop_shipLoop (s : Device) (c : Loop) : (s.takeShipLoop c).shutdown.shipLoop = c := by
  by_cases quiet : c = .healthy ∨ s.charter.mode ≠ .watch
  · rw [(s.takeShipLoop_quiet c quiet).1]
  · obtain ⟨notHealthy, watch⟩ : c ≠ .healthy ∧ s.charter.mode = .watch := by simpa using quiet
    cases c with
    | healthy => exact absurd rfl notHealthy
    | broken =>
      by_cases same : s.shutdown.shipLoop = .broken
      · simp [Device.takeShipLoop, same]
      · rw [s.takeShipLoop_breaks watch (by cases h : s.shutdown.shipLoop <;> simp_all)]
        simp

/-- Settles O7. -/
theorem shipLoopIsTaken : Obligations.ShipLoopIsTaken := by
  unfold Obligations.ShipLoopIsTaken
  intro c s
  refine ⟨_, rfl, ?_, rfl, ?_, ?_, ?_, ?_, ?_, fun quiet => ?_⟩
  all_goals simp only [State.settle]
  · simpa using s.device.takeShipLoop_shipLoop c
  · simp [Device.SameStation, Device.SameClock, Device.SameRing]
  · simp
  · simp
  · simp
  · simp
  · obtain ⟨shutdown, lines⟩ := s.device.takeShipLoop_quiet c quiet
    simpa [shutdown, Device.SameLines] using lines

end Sys2Proof.Machine

/-! SUPPORT. The claims of HELD and of the ESD sequence's start, as they are reported; with this, HOLD and TRIP in WATCH and a
break of the ship loop (O8, O10, O17). -/

namespace Sys2Proof.Machine

open Sys2Proof

/-! ## Reports of a change of line state -/

/-- A change of line state before it is handed to the governor: set, reported, and given to the ship link (R3). -/
def Device.stateReported (s : Device) (l : Line) (st : LineState) (p : Step) (c : ReportCause) : Device :=
  let old := (s.line l).state
  let s := s.setLine l { s.line l with state := st, step := p, entry := s.time, deadline := none }
  let s := s.submit .lineState (lineNumber l) 0 c (BitVec.ofNat 32 (lineStateCode st)) (BitVec.ofNat 32 (lineStateCode old))
  if sendsStopping old st then s.sendStopping l else s

theorem Device.enterState_eq (s : Device) (l : Line) (st : LineState) (p : Step) (c : ReportCause) :
    s.enterState l st p c =
      (((s.stateReported l st p c).governorEnters l st).setHose l
        ((((s.stateReported l st p c).governorEnters l st).hose l).entering (s.line l).state st)).recompute l := rfl

theorem Device.stateReported_tells (s : Device) (l : Line) (st : LineState) (p : Step) (c : ReportCause) :
    Device.Tells 1 s (s.stateReported l st p c) := by
  have told := (Device.Tells.of_same (s := s)
    (t := s.setLine l { s.line l with state := st, step := p, entry := s.time, deadline := none }) (by simp)).trans
    (Device.submit_tells _ .lineState (lineNumber l) 0 c (BitVec.ofNat 32 (lineStateCode st))
      (BitVec.ofNat 32 (lineStateCode (s.line l).state)))
  refine told.of_reports _ ?_
  unfold Device.stateReported
  dsimp only
  split <;> simp

@[simp] theorem Device.stateReported_keeps (s : Device) (l : Line) (st : LineState) (p : Step) (c : ReportCause) :
    (s.stateReported l st p c).nodes = s.nodes ∧ (s.stateReported l st p c).time = s.time := by
  unfold Device.stateReported
  dsimp only
  split <;> simp

theorem Device.governorEnters_tells (s : Device) (l : Line) (st : LineState) :
    Device.Tells (if st = .held then 2 else 0) s (s.governorEnters l st) := by
  unfold Device.governorEnters
  split
  · have claimed := (Device.Tells.of_same (s := s)
      (t := s.setGovernor l ((s.governor l).entering s.periodOn st)) (by simp)).trans (Device.claimPump_tells _ l 0 .sequence)
    exact (claimed.of_reports _ (by simp [Device.claimSpeed])).mono (by omega)
  · exact .of_same (by simp)

/-- A change of line state is reported, and so is the claim of SPEED 0 that HELD makes (R3, R13). -/
theorem Device.enterState_tells (s : Device) (l : Line) (st : LineState) (p : Step) (c : ReportCause) :
    Device.Tells (if st = .held then 3 else 1) s (s.enterState l st p c) := by
  have governed := (s.stateReported_tells l st p c).trans (Device.governorEnters_tells _ l st)
  refine (governed.of_reports _ ?_).mono (by split <;> simp)
  rw [Device.enterState_eq]
  simp

/-- HELD claims SPEED 0, reported as the claim meets the pump's slots (R13, R39). -/
theorem Device.enterState_heldTold (s : Device) (l : Line) (p : Step) (c : ReportCause) (usable : s.reports.usable = true)
    (room : s.reports.queue.length + 3 ≤ 16) :
    s.claimsTold (s.enterState l .held p c) (s.deviceOf l .pump) ⟨.speed 0, .sequence⟩ := by
  have tells := s.stateReported_tells l .held p c
  obtain ⟨-, length, -⟩ := tells.told (by omega)
  generalize ha : s.stateReported l .held p c = a at tells length
  generalize hb : a.setGovernor l ((a.governor l).entering a.periodOn .held) = b
  have reports : b.reports = a.reports := by rw [← hb]; simp
  have nodes : b.nodes = s.nodes := by rw [← hb, ← ha]; simp
  have time : b.time = s.time := by rw [← hb, ← ha]; simp
  have told := b.claimPump_told l 0 .sequence (by rw [reports, tells.usable, usable]) (by rw [reports]; omega)
  rw [s.deviceOf_congr b (s.sameSettings_of_nodes b nodes)] at told
  refine Device.claimsTold_of told (fun n _ => (Device.node_congr b s n nodes).symm) time.symm ?_
  rw [Device.enterState_eq, ha, Device.governorEnters, if_pos rfl]
  simp [Device.claimSpeed, hb]

/-- HELD claims SPEED 0 and RETURN OPEN, each reported as it meets its node's slots (R13). -/
theorem Device.enterHeld_told (s : Device) (l : Line) (c : HoldCause) (usable : s.reports.usable = true)
    (room : s.reports.queue.length + 5 ≤ 16) :
    Device.Tells 5 s (s.enterHeld l c) ∧
      s.claimsTold (s.enterHeld l c) (s.deviceOf l .pump) ⟨.speed 0, .sequence⟩ ∧
      s.claimsTold (s.enterHeld l c) (s.valveOf l .returnValve) ⟨.move .opened, .sequence⟩ := by
  generalize ha : s.setLine l { s.line l with hold := (s.line l).hold.put c true, holdStart := some s.time } = a
  have still : a.nodes = s.nodes ∧ a.time = s.time ∧ a.reports = s.reports := by rw [← ha]; simp
  obtain ⟨nodes, time, reports⟩ := still
  have pump := a.enterState_heldTold l .hold (.hold c) (by rw [reports, usable]) (by rw [reports]; omega)
  have entered := a.enterState_tells l .held .hold (.hold c)
  rw [if_pos rfl] at entered
  generalize hb : (a.enterState l .held .hold (.hold c)).setDeadline l
    ((a.enterState l .held .hold (.hold c)).secondsOn ((a.enterState l .held .hold (.hold c)).limits l).holdLimit) = b
  have reports' : b.reports = (a.enterState l .held .hold (.hold c)).reports := by rw [← hb]; simp [Device.setDeadline]
  have before := (Device.Tells.of_same reports).trans (entered.of_reports _ reports')
  obtain ⟨-, length, -⟩ := before.told (by omega)
  have valve := b.claimValve_tells l .returnValve .opened .sequence
  obtain ⟨sub, -⟩ := valve.told (by omega)
  have told := b.claimValve_told l .returnValve .opened .sequence (by rw [before.usable, usable]) (by omega)
  have settings : s.sameSettings b := s.sameSettings_of_stills b (by rw [← hb, ← ha]; simp [Device.setDeadline])
  have taken : s.enterHeld l c = b.claimValve l .returnValve .opened .sequence := by simp only [Device.enterHeld, ha, hb]
  rw [taken]
  refine ⟨before.trans valve, ?_, ?_⟩
  · rw [s.deviceOf_congr a (s.sameSettings_of_nodes a nodes)] at pump
    refine Device.claimsTold_of pump (fun n _ => (Device.node_congr a s n nodes).symm) time.symm ?_
    rw [← reports']
    exact sub
  · rw [s.valveOf_congr b settings] at told
    refine Device.claimsTold_of told (fun n at_n => ?_) (by rw [← hb, ← ha]; simp [Device.setDeadline]) (List.Subset.refl _)
    have kind := (s.valveOf_some l .returnValve n at_n).1
    have node := Device.node_congr a s n nodes
    have same := (a.enterState_held l .hold (.hold c)).2 n (by rw [node, kind]; decide)
    rw [← hb, ← node, ← same]
    exact (Device.node_congr _ _ n (by simp [Device.setDeadline])).symm

/-- A claim told in an event whose reports flow, with at most 16 of them, is reported at its end. -/
theorem Device.Tells.claimReported {k : Nat} {s t : Device} {node : Option NodeNo} {c : Claim} (tells : Device.Tells k s t)
    (le : k ≤ 16) (ring : t.reports.producer = s.reports.producer ∧ t.reports.consumer = s.reports.consumer)
    (flow : s.reportsFlow) (told : s.claimsTold t node c) : s.claimReported t.finish node c :=
  Device.claimReported_of_told (fun _ waits => tells.reportWaits flow le ring waits) told

/-- Settles O10: HELD is entered with its two claims, or the cause is put on a line that is HELD. -/
theorem holdHoldsTheLine : Obligations.HoldHoldsTheLine := by
  unfold Obligations.HoldHoldsTheLine
  intro l a s h watch holds
  obtain ⟨t, next, stored, device⟩ := State.request_watch (k := .hold) (a := a) h watch (asked := .hold l)
    (w := .line l) (by simp [Request.asked])
  generalize hd : s.requestArrived (.line l) .hold a = d
  have before : d.alike s.device := hd ▸ s.requestArrived_alike (.line l) .hold a
  have line : d.line l = s.device.line l := by simp [← hd]
  have reports : d.reports = s.device.reports := by simp [← hd]
  rw [State.watchEvent_of (d := d.holdTrigger l .stationHold) (r := .done)
    (by rw [hd]; simp only [Device.takeInWatch, Device.takeHold, line, if_pos holds])] at device
  have after := Device.askResult_alike (d.holdTrigger l .stationHold) .done .rewrite 0
  rw [← device] at after
  have taken := before.holdTaken after (d.holdTrigger_taken l .stationHold (by rw [line]; exact holds))
  obtain ⟨⟨held, hold, entered⟩, claimed⟩ := taken
  have context : (t.device.line l).stopCause = (s.device.line l).stopCause ∧
      (t.device.line l).nominated = (s.device.line l).nominated ∧ (t.device.line l).base = (s.device.line l).base := by
    rw [Device.line_congr _ _ l after.lines, ← line, Device.holdTrigger]
    obtain ⟨-, -, -, -, -, -, stopCause, nominated, base, -⟩ := d.enterHeld_line l .stationHold
    split
    · exact ⟨stopCause, nominated, base⟩
    · split <;> simp
  obtain ⟨stopCause, nominated, base⟩ := context
  refine ⟨t, next, stored, ?_, held, hold, stopCause, nominated, base, fun holdable => ?_, fun m hm => ?_, ?_⟩
  · rw [device]
    exact Device.askResult_answered _ _ _ _
  · obtain ⟨step, entry, deadline, allowed⟩ := entered holdable
    obtain ⟨pump, valve⟩ := claimed holdable
    have trigger : d.holdTrigger l .stationHold = d.enterHeld l .stationHold := by
      simp only [Device.holdTrigger, line, if_pos holdable]
    obtain ⟨-, -, -, holdStart, -⟩ := d.enterHeld_line l .stationHold
    refine ⟨step, ?_, entry, deadline, allowed, pump, valve, fun flow => ?_⟩
    · rw [Device.line_congr _ _ l after.lines, trigger, holdStart, before.1]
    · obtain ⟨usable, empty, -⟩ := id flow
      obtain ⟨tells, toldPump, toldValve⟩ := d.enterHeld_told l .stationHold (by rw [reports, usable])
        (by rw [reports, empty]; simp)
      have tells' : Device.Tells 5 s.device (((d.enterHeld l .stationHold).askResult .done).reply .rewrite 0) :=
        ((Device.Tells.of_same reports).trans tells).of_reports _ (by simp)
      have settings : s.device.sameSettings d := s.device.sameSettings_of_nodes d before.nodes.symm
      have node (n : NodeNo) : s.device.node n = d.node n := Device.node_congr _ _ n before.nodes
      rw [device, trigger]
      refine ⟨tells'.claimReported (by omega) (by simp [reports]) flow ?_, tells'.claimReported (by omega) (by simp [reports]) flow ?_⟩
      · rw [← s.device.deviceOf_congr d settings]
        exact Device.claimsTold_of toldPump (fun n _ => node n) before.1 (by simp)
      · rw [← s.device.valveOf_congr d settings]
        exact Device.claimsTold_of toldValve (fun n _ => node n) before.1 (by simp)
  · simp [device, hm, ← hd]
  · simp [device, ← hd, Device.SameClock, Device.SameRing]

/-! ## The latch (R89, R91) -/

theorem Device.claimUnlessAtRest_tells (s : Device) (l : Line) (r : Role) (g : Target) :
    Device.Tells 2 s (s.claimUnlessAtRest l r g) := by
  unfold Device.claimUnlessAtRest
  split
  · exact (Device.Tells.refl s).mono (by omega)
  · exact s.claimValve_tells l r g .esd

theorem Device.esdStart_tells (s : Device) (l : Line) : Device.Tells 4 s (s.esdStart l) := by
  have claims := (Device.Tells.of_same (t := s.setSequence l .esdPumpStop) (s := s) (by simp)).trans
    ((Device.claimPump_tells _ l 0 .esd).trans (Device.claimUnlessAtRest_tells _ l .returnValve .opened))
  exact claims.of_reports _ (by simp [Device.esdStart, Device.setPumpDeadline])

/-- The start of a line's ESD sequence, its claims reported as they meet the slots of the pump and RETURN (R91). -/
theorem Device.esdStart_told (s : Device) (l : Line) (usable : s.reports.usable = true)
    (room : s.reports.queue.length + 4 ≤ 16) :
    Device.Tells 4 s (s.esdStart l) ∧ s.claimsTold (s.esdStart l) (s.deviceOf l .pump) ⟨.speed 0, .esd⟩ ∧
      (s.atRest l .returnValve .opened = false →
        s.claimsTold (s.esdStart l) (s.valveOf l .returnValve) ⟨.move .opened, .esd⟩) := by
  generalize ha : s.setSequence l .esdPumpStop = a
  have still : a.nodes = s.nodes ∧ a.time = s.time ∧ a.reports = s.reports := by rw [← ha]; simp
  obtain ⟨nodes, time, reports⟩ := still
  have settings := s.sameSettings_of_nodes a nodes
  have back (n : NodeNo) : s.node n = a.node n := (Device.node_congr a s n nodes).symm
  have pump := a.claimPump_tells l 0 .esd
  have pumpTold := a.claimPump_told l 0 .esd (by rw [reports, usable]) (by rw [reports]; omega)
  generalize hb : a.claimPump l 0 .esd = b at pump pumpTold
  have before := (Device.Tells.of_same reports).trans pump
  obtain ⟨-, length, -⟩ := before.told (by omega)
  have valve := b.claimUnlessAtRest_tells l .returnValve .opened
  obtain ⟨sub, -⟩ := valve.told (by omega)
  have taken : (s.esdStart l).reports = (b.claimUnlessAtRest l .returnValve .opened).reports := by
    simp [Device.esdStart, Device.setPumpDeadline, ha, hb]
  refine ⟨s.esdStart_tells l, ?_, fun restless => ?_⟩
  · rw [s.deviceOf_congr a settings] at pumpTold
    exact Device.claimsTold_of pumpTold (fun n _ => back n) time.symm (by rw [taken]; exact sub)
  · have node (n : NodeNo) (at_n : s.valveOf l .returnValve = some n) : b.node n = s.node n := by
      have kind := (s.valveOf_some l .returnValve n at_n).1
      rw [back n, ← hb]
      exact a.claimPump_kind l 0 .esd n (by rw [← back n, kind]; decide)
    have settings' : s.sameSettings b := s.sameSettings_of_stills b (by rw [← hb, ← ha]; simp)
    have restless' : b.atRest l .returnValve .opened = false := by rw [s.atRest_congr b l _ _ settings' node, restless]
    have told := b.claimValve_told l .returnValve .opened .esd (by rw [before.usable, usable]) (by omega)
    rw [s.valveOf_congr b settings'] at told
    refine Device.claimsTold_of told (fun n at_n => (node n at_n).symm) (by rw [← hb]; simp [time]) ?_
    rw [taken, Device.claimUnlessAtRest, restless']
    simp

theorem Device.startSequences_tells (s : Device) (ls : List Line) : Device.Tells (4 * ls.length) s (s.startSequences ls) := by
  induction ls generalizing s with
  | nil => exact .refl s
  | cons l ls ih => exact ((s.esdStart_tells l).trans (ih (s.esdStart l))).mono (by rw [List.length_cons]; omega)

/-- The claims of one line's trip, told in the queue of the device after it (R91). -/
def Device.tripTold (s t : Device) (l : Line) : Prop :=
  s.claimsTold t (s.deviceOf l .pump) ⟨.speed 0, .esd⟩ ∧
  (s.atRest l .returnValve .opened = false → s.claimsTold t (s.valveOf l .returnValve) ⟨.move .opened, .esd⟩)

/-- What is told of a line's trip depends on the line's nodes and the clock before it, and stands while no report is lost. -/
theorem Device.tripTold_of {s d t u : Device} {l : Line} (h : s.tripTold t l) (time : d.time = s.time)
    (settings : s.sameSettings d) (nodes : ∀ n, (s.node n).line = some l → d.node n = s.node n)
    (sub : t.reports.queue ⊆ u.reports.queue) : d.tripTold u l := by
  obtain ⟨pump, valve⟩ := h
  have atRest := s.atRest_congr d l .returnValve .opened settings
    (fun n at_n => nodes n (s.valveOf_some l _ n at_n).2.1)
  refine ⟨?_, fun restless => ?_⟩
  · rw [s.deviceOf_congr d settings]
    exact Device.claimsTold_of pump (fun n at_n => nodes n (s.deviceOf_some l .pump n at_n).2) time sub
  · rw [s.valveOf_congr d settings]
    exact Device.claimsTold_of (valve (by rw [← atRest, restless]))
      (fun n at_n => nodes n (s.valveOf_some l _ n at_n).2.1) time sub

/-- The claims of every line whose ESD sequence is started are told (R91, R125). -/
theorem Device.startSequences_told (s : Device) (ls : List Line) (distinct : ls.Nodup) (l : Line) (listed : l ∈ ls)
    (usable : s.reports.usable = true) (room : s.reports.queue.length + 4 * ls.length ≤ 16) :
    s.tripTold (s.startSequences ls) l := by
  induction ls generalizing s with
  | nil => cases listed
  | cons m ls ih =>
    obtain ⟨notIn, distinct⟩ := List.nodup_cons.mp distinct
    rw [List.length_cons] at room
    obtain ⟨tells, told⟩ := s.esdStart_told m usable (by omega)
    obtain ⟨-, length, -⟩ := tells.told (by omega)
    obtain ⟨sub, -⟩ := ((s.esdStart m).startSequences_tells ls).told (by omega)
    by_cases here : l = m
    · subst here
      exact Device.tripTold_of told rfl (fun _ => ⟨rfl, rfl, rfl⟩) (fun _ _ => rfl) sub
    · have later := ih (s.esdStart m) distinct ((List.mem_cons.mp listed).resolve_left here)
        (by rw [tells.usable, usable]) (by omega)
      have settings := s.esdStart_settings m
      have off (n : NodeNo) (at_l : (s.node n).line = some l) : (s.esdStart m).node n = s.node n :=
        s.esdStart_off m n (by rw [at_l]; exact fun h => here (Option.some.inj h))
      refine Device.tripTold_of later (by simp) (fun n => ?_) (fun n at_l => ?_) (List.Subset.refl _)
      · obtain ⟨kind, line, role⟩ := settings n
        exact ⟨kind.symm, line.symm, role.symm⟩
      · exact (off n (by rw [← (settings n).2.1, at_l])).symm

theorem Device.tripLines_tells (s : Device) (c : Cause) : Device.Tells 3 s (s.tripLines c) := by
  have line (d : Device) (l : Line) : Device.Tells 1 d (if (d.line l).state.trips then d.tripLine l c else d) := by
    refine .ite (fun _ => ?_) (fun _ => (Device.Tells.refl d).mono (by omega))
    have entered := Device.enterState_tells ((d.setLine l
      { d.line l with stopCause := some c, hold := .empty, stripResult := trippedStripResult (d.line l) }).setSequenceMemory
        l .reset) l .tripping .none (.line c)
    have moved := (Device.Tells.of_same (s := d) (t := (d.setLine l
      { d.line l with stopCause := some c, hold := .empty, stripResult := trippedStripResult (d.line l) }).setSequenceMemory
        l .reset) (by simp)).trans entered
    exact moved
  exact ((line s .l1).trans (line _ .l2)).trans (line _ .l3)

/-- The latch set, reported, and each line that trips sent to TRIPPING, before the ESD sequences start (R89). -/
def Device.latched (s : Device) (c : Cause) (line subject v : Nat) : Device :=
  let s := s.setShutdown { s.shutdown with
    latch := true, first := some ⟨c, s.time⟩, firstLine := line, firstSubject := subject }
  ((s.driveBargeLoop.alarmEvent.reportEsd c line subject v 1).tripLines c).placeReports

theorem Device.setLatch_eq (s : Device) (c : Cause) (line subject v : Nat) :
    s.setLatch c line subject v = (s.latched c line subject v).startSequences s.trippingLines := rfl

@[simp] theorem Device.latched_keeps (s : Device) (c : Cause) (line subject v : Nat) :
    (s.latched c line subject v).time = s.time ∧ (s.latched c line subject v).nodes = s.nodes := by
  simp [Device.latched, Device.driveBargeLoop, Device.alarmEvent, Device.tripLines_nodes]

/-- The latch's own report and one for each line that trips (R89). -/
theorem Device.latched_tells (s : Device) (c : Cause) (line subject v : Nat) :
    Device.Tells 4 s (s.latched c line subject v) := by
  generalize hd : (s.setShutdown { s.shutdown with
    latch := true, first := some ⟨c, s.time⟩, firstLine := line, firstSubject := subject }).driveBargeLoop.alarmEvent = d
  have set : Device.Tells 0 s d := .of_same (by rw [← hd]; simp [Device.driveBargeLoop, Device.alarmEvent])
  have tripped := (set.trans (d.submit_tells .esd line subject (.line c) (BitVec.ofNat 32 v) (BitVec.ofNat 32 1))).trans
    (Device.tripLines_tells _ c)
  have placed := tripped.trans (Device.placeReports_tells _)
  rw [Device.latched, hd]
  exact placed

/-- The setting of the latch submits one report of its own, one of each line's change to TRIPPING, and at most four of each
line's claims: 16 in all (R89, R91). -/
theorem Device.setLatch_told (s : Device) (c : Cause) (line subject v : Nat) (usable : s.reports.usable = true)
    (empty : s.reports.queue = []) :
    Device.Tells 16 s (s.setLatch c line subject v) ∧
      ∀ l, (s.line l).state.trips = true → s.tripTold (s.setLatch c line subject v) l := by
  have tells := s.latched_tells c line subject v
  obtain ⟨-, length, -⟩ := tells.told (by simp [empty])
  rw [empty, List.length_nil] at length
  have few : s.trippingLines.length ≤ 3 := List.length_filter_le _ allLines
  have distinct : s.trippingLines.Nodup := List.Nodup.sublist List.filter_sublist (by decide)
  have nodes : (s.latched c line subject v).nodes = s.nodes := by simp
  rw [Device.setLatch_eq]
  refine ⟨(tells.trans (Device.startSequences_tells _ _)).mono (by omega), fun l trips => ?_⟩
  have told := Device.startSequences_told _ _ distinct l ((s.mem_trippingLines l).mpr trips)
    (by rw [tells.usable, usable]) (by omega)
  exact Device.tripTold_of told (by simp) (Device.sameSettings_of_nodes _ _ nodes.symm)
    (fun n _ => Device.node_congr _ _ n nodes.symm) (List.Subset.refl _)

/-- Trips told in an event whose reports flow are reported at its end. -/
theorem Device.Tells.tripsReported {s t : Device} (tells : s.reportsFlow → Device.Tells 16 s t)
    (ring : t.reports.producer = s.reports.producer ∧ t.reports.consumer = s.reports.consumer)
    (told : s.reportsFlow → ∀ l, (s.line l).state.trips = true → s.tripTold t l) : s.tripsReported t.finish := by
  intro flow l trips
  obtain ⟨pump, valve⟩ := told flow l trips
  exact ⟨(tells flow).claimReported (by omega) ring flow pump,
    fun restless => (tells flow).claimReported (by omega) ring flow (valve restless)⟩

/-- The latch set on a device that has the nodes, the lines, the clock and the reports of the one before the event. -/
theorem Device.setLatch_tripsReported {s d u : Device} (c : Cause) (line subject v : Nat) (time : d.time = s.time)
    (nodes : d.nodes = s.nodes) (lines : d.lines = s.lines) (reports : d.reports = s.reports)
    (finish : u.reports = (d.setLatch c line subject v).reports) : s.tripsReported u.finish := by
  have told (flow : s.reportsFlow) := d.setLatch_told c line subject v (by rw [reports]; exact flow.1)
    (by rw [reports]; exact flow.2.1)
  refine Device.Tells.tripsReported (fun flow => ?_) (by rw [finish, ← reports]; simp) (fun flow l trips => ?_)
  · exact (((Device.Tells.of_same reports).trans (told flow).1).of_reports _ finish).mono (by omega)
  · refine Device.tripTold_of ((told flow).2 l (by rw [Device.line_congr _ _ l lines, trips])) time.symm
      (Device.sameSettings_of_nodes _ _ nodes.symm) (fun n _ => Device.node_congr _ _ n nodes.symm) ?_
    rw [finish]
    exact List.Subset.refl _

/-- Settles O17: with the latch CLEAR the trigger sets it; SET, it is a further cause. -/
theorem tripSetsTheLatch : Obligations.TripSetsTheLatch := by
  unfold Obligations.TripSetsTheLatch
  intro a s h watch
  obtain ⟨t, next, stored, device⟩ := State.request_watch (k := .trip) (a := a) h watch (asked := .trip)
    (w := .general) (by simp [Request.asked])
  generalize hd : s.requestArrived .general .trip a = d
  have before : d.alike s.device := hd ▸ s.requestArrived_alike .general .trip a
  have reports : s.device.reports = d.reports := by simp [← hd]
  rw [State.watchEvent_of (d := d.esdTrigger .stationTrip 0 0 0) (r := .done) (by rw [hd]; rfl)] at device
  have after := Device.askResult_alike (d.esdTrigger .stationTrip 0 0 0) .done .rewrite 0
  rw [← device] at after
  refine ⟨t, next, stored, ?_, ?_, ?_⟩
  · rw [device]
    exact Device.askResult_answered _ _ _ _
  · split
    case isTrue latch =>
      rw [device]
      simp [Device.esdTrigger, latch, ← hd, Device.SameLines]
    case isFalse clear =>
      have sets : d.esdTrigger .stationTrip 0 0 0 = d.setLatch .stationTrip 0 0 0 := by
        rw [Device.esdTrigger, before.shutdown.symm, if_neg clear]
      rw [sets] at after device
      refine ⟨before.latchSet after (d.setLatch_latchSet .stationTrip 0 0 0), ?_⟩
      rw [device]
      exact Device.setLatch_tripsReported .stationTrip 0 0 0 before.1.symm before.nodes.symm before.lines.symm reports.symm
        (by simp)
  · simp [device, ← hd, Device.SameClock, Device.SameRing]

/-- Settles O8. -/
theorem shipLoopBreakSetsTheLatch : Obligations.ShipLoopBreakSetsTheLatch := by
  unfold Obligations.ShipLoopBreakSetsTheLatch
  intro s watch healthy clear
  generalize hd : s.device.setShutdown { s.device.shutdown with shipLoop := .broken } = d
  have nodes : d.nodes = s.device.nodes := by simp [← hd]
  have sets : s.device.takeShipLoop .broken = d.setLatch .shipLoop 0 0 0 := by
    rw [s.device.takeShipLoop_breaks watch healthy, hd, Device.esdTrigger, ← hd]
    simp [clear]
  have shipLoop := s.device.takeShipLoop_shipLoop .broken
  have set := d.setLatch_latchSet .shipLoop 0 0 0
  have set' : s.device.latchSet (d.setLatch .shipLoop 0 0 0).finish .shipLoop 0 0 := by
    refine d.latchSet_of s.device _ _ _ _ _ set (by simp [← hd]) (by simp [← hd]) (by simp) (by simp)
      (fun l => d.carries_nodes _ _ _ l (by simp [← hd]) nodes.symm (by simp)) (fun l => ?_)
    exact d.atRest_congr s.device l _ _ (d.sameSettings_of_nodes _ nodes.symm) (fun n _ => Device.node_congr _ _ n nodes.symm)
  refine ⟨_, rfl, ?_, ?_, ?_, rfl, ?_, ?_⟩
  all_goals simp only [State.settle]
  · simpa using shipLoop
  · rw [sets]
    exact set'
  · rw [sets]
    exact Device.setLatch_tripsReported .shipLoop 0 0 0 (by simp [← hd]) nodes (by simp [← hd]) (by simp [← hd]) rfl
  · simp [Device.SameStation, Device.SameClock, Device.SameRing]
  · simp

end Sys2Proof.Machine

/-! SUPPORT. Upstream accesses by their treatment: demand words, the consumer index, reads and judged writes (O21, O22, O24 to
O28). -/

namespace Sys2Proof.Machine

open Sys2Proof

/-! ## An upstream write by its treatment (R152) -/

/-- A granted upstream write that is judged to D, with a treatment, ends in the event of the access answered. -/
theorem State.access_write {s : State} {a : Access} {d : Device} {treatment : Treatment} {data : Word}
    (free : s.device.upstreamFree = true) (write : a.write = true)
    (judged : s.device.countGrant.judgeWrite a = ⟨d, treatment, data⟩) :
    ∃ t, s.access a = .next t ∧ t.device = (d.reply treatment 0).finish ∧ t.mem = treatMemory s.mem a ⟨d, treatment, data⟩ := by
  refine ⟨_, s.access_free a free, ?_, ?_⟩
  · simp only [State.grantAccess, write, if_true, State.grantWrite, judged, State.settle]
  · simp only [State.grantAccess, write, if_true, State.grantWrite, judged, State.settle]

@[simp] theorem Device.reply_shown (d : Device) (treatment : Treatment) (data : Word) :
    (d.reply treatment data).port.reply = some ⟨treatment, data⟩ := rfl

/-- A full write of a window word is judged in WATCH by the word's area. -/
theorem Device.judgeWrite_watch {d : Device} {off : Nat} (data : Word) (watch : d.charter.mode = .watch)
    (room : off + 4 ≤ 16384 ∧ off % 4 = 0) :
    d.judgeWrite (fullWrite d.strap off data) = d.judgeInWatch off (fullWrite d.strap off data) (areaOf off) := by
  rw [d.judgeWrite_full off data (by omega) room.2, watch]

/-- A full write of a window word with its data stores the word. -/
theorem storesOnly_fullWrite {s : State} {off : Nat} (data : Word) (wf : s.mem.wf = true)
    (room : off + 4 ≤ 16384 ∧ off % 4 = 0) :
    storesOnly s.mem (s.mem.writeEnabled (wordAddress (fullWrite s.device.strap off data).addr) 15 data)
      (s.device.address off) [data] := by
  have stores := storesOnly_writeWord s.mem (s.device.address off) data (s.device.address_room _ _ room.1) wf
  rwa [fullWrite, windowAddress s.device.strap off (by omega) room.2]

/-! ## Rate demands (R43) -/

/-- Settles O21. -/
theorem rateDemandIsTaken : Obligations.RateDemandIsTaken := by
  unfold Obligations.RateDemandIsTaken
  intro l v s wf free watch fitted
  have room := rateOffset_room l
  have judged : s.device.countGrant.judgeWrite (fullWrite s.device.strap (rateOffset l) v) =
      ⟨s.device.countGrant.takeRateDemand l v, .rewrite, BitVec.ofNat 32 ((s.device.limits l).clampRate v)⟩ := by
    have strap : s.device.strap = s.device.countGrant.strap := by simp
    rw [strap, Device.judgeWrite_watch v (by simpa using watch) room, areaOf_rate]
    simp [Device.judgeInWatch, Device.judgeFull, fullWrite, Device.rateWrite, fitted, Judgement.rewritten, Device.limits]
  obtain ⟨t, next, device, mem⟩ := State.access_write free rfl judged
  refine ⟨t, next, ?_, ?_, by simp [device], fun m hm => ?_, ?_⟩
  · rw [device]
    simp [Device.takeRateDemand, Device.limits]
  · rw [mem, treatMemory, fullWrite, windowAddress s.device.strap _ (by omega) room.2]
    exact storesOnly_writeWord _ _ _ (s.device.address_room _ _ room.1) wf
  · simp [device, Device.takeRateDemand, hm]
  · simp [device, Device.takeRateDemand, Device.SameClock, Device.SameRing]

/-! ## Refused demands (R43, R170) -/

/-- A write that is suppressed with a report leaves memory and the plant, and its report waits at the end. -/
theorem State.access_refused {s : State} {a : Access} {r : Report} (free : s.device.upstreamFree = true)
    (write : a.write = true)
    (judged : s.device.countGrant.judgeWrite a = ⟨s.device.countGrant.enqueueReport r, .suppress, 0⟩) :
    ∃ t, s.access a = .next t ∧ t.mem = s.mem ∧ t.device.port.reply = some ⟨.suppress, 0⟩ ∧ s.device.SamePlant t.device ∧
      t.device.charter = s.device.charter ∧ t.device.requests = s.device.requests ∧ s.device.SameRing t.device ∧
      (s.device.reportsFlow → t.device.reportWaits r) := by
  obtain ⟨t, next, device, mem⟩ := State.access_write free write judged
  have same : (s.device.countGrant.enqueueReport r).reports = (s.device.enqueueReport r).reports := by
    simp only [Device.enqueueReport, Device.countGrant_keeps]
    split
    · simp
    · split <;> simp [Device.countOverrun, Device.markStatus]
  refine ⟨t, next, mem, by simp [device], ?_, ?_, ?_, ?_, fun flow => ?_⟩
  · simp [device, Device.SamePlant, Device.SameLines]
  · simp [device]
  · simp [device]
  · simp [device, Device.SameRing]
  · rw [device]
    exact s.device.reportWaits_finish _ r flow (by simpa using same)

/-- Settles O22: each refusal is suppressed with its DEMAND_REFUSED. -/
theorem refusedDemandsAreSuppressed : Obligations.RefusedDemandsAreSuppressed := by
  unfold Obligations.RefusedDemandsAreSuppressed
  intro l r v s free watch flow
  have strap : s.device.strap = s.device.countGrant.strap := by simp
  have watch' : s.device.countGrant.charter.mode = .watch := by simpa using watch
  have time : s.device.countGrant.time = s.device.time := by simp
  refine ⟨fun unfitted => ?_, fun cause refused => ?_⟩
  · have judged : s.device.countGrant.judgeWrite (fullWrite s.device.strap (rateOffset l) v) =
        ⟨s.device.countGrant.enqueueReport
          ⟨.demandRefused, lineNumber l, 0, .refusal .notFitted, v, 0, s.device.time, .none⟩, .suppress, 0⟩ := by
      rw [strap, Device.judgeWrite_watch v watch' (rateOffset_room l), areaOf_rate, ← time]
      simp [Device.judgeInWatch, Device.judgeFull, fullWrite, Device.rateWrite, unfitted, Judgement.suppressed, Device.submit]
    obtain ⟨t, next, mem, reply, plant, charter, -, -, waits⟩ := State.access_refused free rfl judged
    exact ⟨t, next, mem, reply, plant, charter, waits flow⟩
  · have judged : s.device.countGrant.judgeWrite (fullWrite s.device.strap (valveOffset l r) v) =
        ⟨s.device.countGrant.enqueueReport ⟨.demandRefused, lineNumber l, s.device.valveSubject l r, .refusal cause, v,
          s.device.shownTarget l r, s.device.time, .none⟩, .suppress, 0⟩ := by
      have refused' : s.device.countGrant.valveRefusal l v = some cause := by simpa [Device.valveRefusal] using refused
      have subject : s.device.countGrant.valveSubject l r = s.device.valveSubject l r := by
        simp [Device.valveSubject, Device.valveOf]
      have target : s.device.countGrant.shownTarget l r = s.device.shownTarget l r := by
        simp [Device.shownTarget, Device.valveOf]
      rw [strap, Device.judgeWrite_watch v watch' (valveOffset_room l r), areaOf_valve, ← time, ← subject, ← target]
      simp [Device.judgeInWatch, Device.judgeFull, fullWrite, Device.valveWrite, refused', Judgement.suppressed, Device.submit]
    obtain ⟨t, next, mem, reply, plant, charter, -, -, waits⟩ := State.access_refused free rfl judged
    exact ⟨t, next, mem, reply, plant, charter, waits flow⟩

/-! ## Writes that are passed or suppressed as they are (R152 to R155) -/

/-- A write that is judged without effect leaves everything but the port and, when passed, the enabled bytes. -/
theorem State.access_judged {s : State} {a : Access} {treatment : Treatment} (free : s.device.upstreamFree = true)
    (write : a.write = true) (judged : s.device.countGrant.judgeWrite a = ⟨s.device.countGrant, treatment, 0⟩) :
    ∃ t, s.access a = .next t ∧ t.mem = treatMemory s.mem a ⟨s.device.countGrant, treatment, 0⟩ ∧
      t.device.port.reply = some ⟨treatment, 0⟩ ∧ s.device.SamePlant t.device ∧ t.device.charter = s.device.charter ∧
      t.device.requests = s.device.requests ∧ s.device.SameClock t.device ∧ s.device.SameRing t.device := by
  obtain ⟨t, next, device, mem⟩ := State.access_write free write judged
  refine ⟨t, next, mem, by simp [device], ?_⟩
  simp [device, Device.SamePlant, Device.SameLines, Device.SameClock, Device.SameRing]

/-- A line's OPEN is being handled whatever the port's wait count. -/
theorem Device.countGrant_openHandled (d : Device) (l : Line) : d.countGrant.openHandled l = d.openHandled l := by
  simp [Device.openHandled]

/-- Settles O26: each of the areas passes the write, and outside the window it is not judged. -/
theorem passedWritesStoreTheEnabledBytes : Obligations.PassedWritesStoreTheEnabledBytes := by
  unfold Obligations.PassedWritesStoreTheEnabledBytes
  intro a s write wf free area
  have judged : s.device.countGrant.judgeWrite a = ⟨s.device.countGrant, .pass, 0⟩ := by
    have strap : s.device.countGrant.strap = s.device.strap := by simp
    have mode : s.device.countGrant.charter.mode = s.device.charter.mode := by simp
    unfold Device.judgeWrite
    rw [strap, mode]
    split
    case h_1 => rfl
    case h_2 off offset =>
      rw [offset] at area
      dsimp only at area
      cases kind : areaOf off <;> rw [kind] at area <;> cases watch : s.device.charter.mode <;>
        simp_all [Device.judgeInWatch, Device.judgeQuiet, Judgement.passed, Device.countGrant_openHandled]
  obtain ⟨t, next, mem, reply, plant, charter, requests, clock, ring⟩ := State.access_judged free write judged
  refine ⟨t, next, reply, fun b => ?_, plant, charter, requests, clock, ring⟩
  rw [mem, treatMemory]
  exact Memory.read_writeEnabled _ _ _ _ _ (wordAddress_room a.addr) wf

/-- Settles O27. -/
theorem suppressedWritesStoreNothing : Obligations.SuppressedWritesStoreNothing := by
  unfold Obligations.SuppressedWritesStoreNothing
  intro a off s write free offset area
  have judged : s.device.countGrant.judgeWrite a = ⟨s.device.countGrant, .suppress, 0⟩ := by
    have strap : s.device.countGrant.strap = s.device.strap := by simp
    have mode : s.device.countGrant.charter.mode = s.device.charter.mode := by simp
    unfold Device.judgeWrite
    rw [strap, mode, offset]
    cases kind : areaOf off <;> rw [kind] at area <;> cases watch : s.device.charter.mode <;>
      simp_all [Device.judgeInWatch, Device.judgeQuiet, Judgement.suppressed, Device.countGrant_openHandled]
  obtain ⟨t, next, mem, reply, plant, charter, requests, clock, ring⟩ := State.access_judged free write judged
  exact ⟨t, next, mem, reply, plant, charter, requests, clock, ring⟩

/-- Settles O28: a partial write is refused before it reaches its block. -/
theorem partialWritesAreRefused : Obligations.PartialWritesAreRefused := by
  unfold Obligations.PartialWritesAreRefused
  intro a off s write part free flow offset area
  have judged : s.device.countGrant.judgeWrite a = ⟨s.device.countGrant.enqueueReport
      ⟨.badWrite, 0, 0, .none, BitVec.ofNat 32 off, BitVec.ofNat 32 (activeEnables a.enables), s.device.time, .none⟩,
      .suppress, 0⟩ := by
    have strap : s.device.countGrant.strap = s.device.strap := by simp
    have mode : s.device.countGrant.charter.mode = s.device.charter.mode := by simp
    have time : s.device.countGrant.time = s.device.time := by simp
    have refused (j : Judgement) : s.device.countGrant.judgeFull off a.enables j =
        .suppressed (s.device.countGrant.badWrite off (activeEnables a.enables)) := if_neg part
    unfold Device.judgeWrite
    rw [strap, mode, offset, ← time]
    cases kind : areaOf off <;> rw [kind] at area <;> cases watch : s.device.charter.mode <;>
      simp_all [Device.judgeInWatch, Device.judgeQuiet, Judgement.suppressed, Device.badWrite, Device.submit]
  obtain ⟨t, next, mem, reply, plant, charter, requests, ring, waits⟩ := State.access_refused free write judged
  exact ⟨t, next, mem, reply, plant, charter, requests, ring, waits flow⟩

end Sys2Proof.Machine

/-! SUPPORT. The consumer index, and upstream reads granted at once, waiting, and at the end of a burst (O24, O25). -/

namespace Sys2Proof.Machine

open Sys2Proof

/-! ## The consumer index (R174, R175) -/

theorem consumerOffset_room : consumerOffset + 4 ≤ 16384 ∧ consumerOffset % 4 = 0 := by decide

theorem ReportUnit.acceptable_iff {r : ReportUnit} {v : Nat} : r.acceptable v = true ↔
    v < 64 ∧ (v + 64 - r.consumer) % 64 ≤ (r.producer + 64 - r.consumer) % 64 := by
  rw [ReportUnit.acceptable, Bool.and_eq_true]
  exact and_congr decide_eq_true_iff decide_eq_true_iff

/-- A full write of the consumer index in WATCH is judged by its value. -/
theorem Device.judgeWrite_consumer (d : Device) (v : Word) (watch : d.charter.mode = .watch) :
    d.judgeWrite (fullWrite d.strap consumerOffset v) =
      if d.reports.acceptable v.toNat then
        ⟨({ d with reports := { d.reports with consumer := v.toNat } }).setInterrupt, .pass, 0⟩
      else ⟨d.enqueueReport ⟨.badWrite, 0, 0, .none, 0x1240, 4, d.time, .none⟩, .suppress, 0⟩ := by
  rw [Device.judgeWrite_watch v watch consumerOffset_room, areaOf_consumer]
  simp only [Device.judgeInWatch, Device.judgeFull, fullWrite, Device.consumerWrite, Judgement.passed,
    Judgement.suppressed, Device.badWrite, Device.submit]
  rfl

/-- A full write of the consumer index outside WATCH is passed. -/
theorem Device.judgeWrite_consumerQuiet (d : Device) (v : Word) (quiet : d.charter.mode ≠ .watch) :
    d.judgeWrite (fullWrite d.strap consumerOffset v) = ⟨d, .pass, 0⟩ := by
  rw [d.judgeWrite_full consumerOffset v (by decide) (by decide), areaOf_consumer]
  cases mode : d.charter.mode with
  | watch => exact absurd mode quiet
  | passive => rfl
  | loading => rfl

/-- Settles O24. -/
theorem consumerIndexIsJudged : Obligations.ConsumerIndexIsJudged := by
  unfold Obligations.ConsumerIndexIsJudged
  intro v c p s wf free consumer producer
  subst consumer producer
  have strap : s.device.strap = s.device.countGrant.strap := by simp
  have stores := storesOnly_fullWrite (s := s) v wf consumerOffset_room
  refine ⟨fun watch within => ?_, fun watch outside flow => ?_, fun quiet => ?_⟩
  · have watch' : s.device.countGrant.charter.mode = .watch := by simpa using watch
    have judged := s.device.countGrant.judgeWrite_consumer v watch'
    rw [if_pos (by simpa [ReportUnit.acceptable_iff] using within), ← strap] at judged
    obtain ⟨t, next, device, mem⟩ := State.access_write free rfl judged
    refine ⟨t, next, ?_, ?_, ?_, by simp [device], ?_, ?_⟩
    · simp [device, Device.setInterrupt]
    · simp [device, Device.setInterrupt, Device.interruptLevel, watch]
    · rw [mem]
      exact stores
    · simp [device, Device.setInterrupt]
    · simp [device, Device.setInterrupt, Device.SamePlant, Device.SameLines]
  · have watch' : s.device.countGrant.charter.mode = .watch := by simpa using watch
    have judged := s.device.countGrant.judgeWrite_consumer v watch'
    rw [if_neg (by simpa [ReportUnit.acceptable_iff] using outside), ← strap] at judged
    obtain ⟨t, next, mem, reply, plant, charter, -, ring, waits⟩ := State.access_refused free rfl judged
    refine ⟨t, next, mem, ring, reply, plant, charter, ?_⟩
    simpa using waits flow
  · have judged := s.device.countGrant.judgeWrite_consumerQuiet v (by simpa using quiet)
    rw [← strap] at judged
    obtain ⟨t, next, mem, reply, plant, charter, requests, -, ring⟩ := State.access_judged free rfl judged
    refine ⟨t, next, ring, ?_, reply, plant, charter, requests⟩
    rw [mem]
    exact stores

theorem Device.SamePlant.trans {s t u : Device} (h : s.SamePlant t) (k : t.SamePlant u) : s.SamePlant u := by
  obtain ⟨⟨lines, memory, governors, hoses, topOffs⟩, tanks, shutdown, nodes, targets, link⟩ := h
  obtain ⟨⟨lines', memory', governors', hoses', topOffs'⟩, tanks', shutdown', nodes', targets', link'⟩ := k
  exact ⟨⟨lines'.trans lines, memory'.trans memory, governors'.trans governors, hoses'.trans hoses, topOffs'.trans topOffs⟩,
    tanks'.trans tanks, shutdown'.trans shutdown, nodes'.trans nodes, targets'.trans targets, link'.trans link⟩

/-! ## Reads, and accesses that wait (R152, R157, R158) -/

/-- A granted read changes only the port. -/
theorem State.grantRead_event {s : State} {a : Access} (read : a.write = false) :
    (s.grantAccess a).settle.mem = s.mem ∧
      (s.grantAccess a).settle.device.port.reply = some ⟨.pass, s.mem.readWord (wordAddress a.addr)⟩ ∧
      (s.grantAccess a).settle.device.port.waitCount = s.device.countGrant.port.waitCount ∧
      s.device.SamePlant (s.grantAccess a).settle.device ∧ (s.grantAccess a).settle.device.charter = s.device.charter ∧
      (s.grantAccess a).settle.device.requests = s.device.requests ∧ s.device.SameClock (s.grantAccess a).settle.device ∧
      s.device.SameRing (s.grantAccess a).settle.device := by
  simp [State.grantAccess, read, State.grantRead, State.settle, Device.SamePlant, Device.SameLines, Device.SameClock,
    Device.SameRing]
  rfl

/-- An internal job is pending when the producer index write is asked and writes are taken (R159). -/
theorem Device.internalWaits_of_producer {d : Device} (writesOpen : d.port.writesOpen = true) (producer : d.jobs.producer = true) :
    d.internalWaits = true := by
  simp [Device.internalWaits, Device.nextJob, writesOpen, Device.firstJob, producer]

/-- The arbiter's choice falls to a waiting station access exactly when no burst holds the port, and no internal job waits or
the wait count is below its bound (R157). -/
theorem Device.stationFirst_iff (d : Device) :
    d.stationFirst = true ↔ d.port.burst = none ∧ (d.nextJob = none ∨ d.port.waitCount ≠ 4) := by
  simp only [Device.stationFirst, Bool.and_eq_true, Bool.not_eq_true', Bool.and_eq_false_iff, Option.isNone_iff_eq_none,
    Device.internalWaits, Option.isSome_eq_false_iff]
  exact and_congr Iff.rfl (or_congr Iff.rfl decide_eq_false_iff_not)

/-- Settles O25. -/
theorem upstreamReadsArePassedOrWait : Obligations.UpstreamReadsArePassedOrWait := by
  unfold Obligations.UpstreamReadsArePassedOrWait
  refine ⟨fun a s => ⟨rfl, fun internal => ?_, fun read free => ?_⟩,
    fun s => ⟨fun quiet => ?_, fun a rest waits first => s.arbitrate_next a rest waits first, s.device.stationFirst_iff⟩,
    fun a s burst waits read count writesOpen => ?_⟩
  · exact congrArg Host.Outcome.next (State.arbitrate_kept _ internal)
  · obtain ⟨mem, reply, -, rest⟩ := State.grantRead_event (s := s) read
    exact ⟨_, s.access_free a free, mem, reply, rest⟩
  · exact quiet.elim s.arbitrate_none s.arbitrate_kept
  · generalize ended : ({ s with device := s.device.entryDone } : State).settle = e
    have mem : e.mem = s.mem := by rw [← ended]; rfl
    have port : e.device.port = s.device.endBurst.port := by rw [← ended]; simp [State.settle, Device.entryDone]
    have producer : e.device.jobs.producer = true := by rw [← ended]; simp [State.settle, Device.entryDone]
    have internal := Device.internalWaits_of_producer (d := e.device) (by rw [port]; exact writesOpen) producer
    have first : e.device.stationFirst = true := by
      rw [Device.stationFirst_iff, port]
      exact ⟨rfl, .inr (Nat.ne_of_lt count)⟩
    have waits' : e.device.port.waiting = [a] := by rw [port]; exact waits
    have granted : exec .reportEntryDone s = .next ((e.withWaiting []).grantAccess a).settle := by
      have none : ((e.withWaiting []).grantAccess a).settle.device.port.waiting = [] := State.grantAccess_waiting _ a
      have run : exec .reportEntryDone s = s.portEvent Device.entryDone := by
        simp only [exec, execReportEntryDone, burst]
      rw [run, State.portEvent, ended, e.arbitrate_next a [] waits' first, State.arbitrate_none _ none]
    obtain ⟨mem', reply, counted, plant, charter, requests, clock, -⟩ := State.grantRead_event (s := e.withWaiting []) read
    have same : s.device.SamePlant e.device ∧ e.device.charter = s.device.charter ∧ e.device.requests = s.device.requests ∧
        s.device.SameClock e.device := by
      rw [← ended]
      simp [State.settle, Device.entryDone, Device.endBurst, Device.SamePlant, Device.SameLines, Device.SameClock]
    refine ⟨_, granted, mem'.trans mem, ?_, ?_, ?_, ?_⟩
    · exact State.grantAccess_waiting _ a
    · rw [reply, ← mem]; rfl
    · have grants : (e.withWaiting []).device.internalWaits = true := internal
      rw [counted, Device.countGrant, if_pos grants, ← show e.device.port.waitCount = s.device.port.waitCount by rw [port]; rfl]
      rfl
    · obtain ⟨plant', charter', requests', time, half, strap⟩ := same
      obtain ⟨time', half', strap'⟩ := clock
      exact ⟨plant'.trans plant, charter.trans charter', requests.trans requests', time'.trans time, half'.trans half,
        strap'.trans strap⟩

end Sys2Proof.Machine

/-! SUPPORT. The grants of the internal master and the ends of its entry, plan and charter bursts (O29, O30, O32, O33, O35,
O36). -/

namespace Sys2Proof.Machine

open Sys2Proof

/-! ## The status record's mark at the end of an event (R160; log 19) -/

theorem Device.takeBusMode_status (d : Device) :
    d.takeBusMode.marks.status = (d.marks.status || decide (d.takeBusMode.bus.mode ≠ d.bus.mode)) := by
  unfold Device.takeBusMode
  dsimp only
  split
  · simp
  · split <;> simp [Device.setBusMode, Device.markStatus]

theorem Device.decideReport_status (d : Device) :
    d.decideReport.marks.status = (d.marks.status || decide (d.decideReport.reports.overrun ≠ d.reports.overrun)) := by
  unfold Device.decideReport
  split
  · simp
  · split
    case isTrue given =>
      have some : (0 : Nat) ≠ d.reports.overrun := (Nat.ne_of_gt given.1).symm
      simp [Device.giveOverrun, Device.giveEntry, Device.markStatus, some]
    case isFalse =>
      split
      · simp
      · split
        · simp [Device.dropReports, Device.countOverrun, Device.markStatus]
        · simp [Device.giveHead, Device.giveEntry]

/-- The end of an event marks the status record exactly when it changes the bus mode or the overrun count. -/
theorem Device.finish_status (d : Device) : d.finish.marks.status = true ↔
    d.marks.status = true ∨ d.finish.bus.mode ≠ d.bus.mode ∨ d.finish.reports.overrun ≠ d.reports.overrun := by
  have decided := d.takeBusMode.startDueFrame.decideReport_status
  have marks : d.takeBusMode.startDueFrame.marks = d.takeBusMode.marks := by simp
  rw [marks, d.takeBusMode_status] at decided
  have mode : d.finish.bus.mode = d.takeBusMode.bus.mode := by simp [Device.finish]
  rw [mode, show d.finish.marks = d.takeBusMode.startDueFrame.decideReport.marks from rfl, decided]
  simp [Device.finish, Device.placeReports, or_assoc]

/-! ## Grants (R157 to R161) -/

/-- The grant of a job ends in its event, after which the arbiter chooses. -/
theorem exec_internalJobGrant {s : State} {j : Job} (h : s.device.grantable = some j) :
    exec .internalJobGrant s = .next (s.grantJob j).settle.arbitrate := by
  simp only [exec, execInternalJobGrant, h, State.grant]

/-- Settles O29: the unit's words are one burst, its mark is cleared, and the end of the event can only mark the status
record again. -/
theorem refreshWritesTheUnit : Obligations.RefreshWritesTheUnit := by
  unfold Obligations.RefreshWritesTheUnit
  intro u s wf granted
  have stores := storesOnly_writeWords s.mem (s.device.address (unitOffset u)) (s.device.unitWords u)
    (s.device.address_room _ _ (s.device.unitWords_room u)) wf
  refine ⟨(s.grantJob (.refresh u)).settle, exec_internalJobGrant granted, stores, fun other => ⟨?_, ?_⟩, fun status => ?_, ?_⟩
  · rw [State.settle, Device.finish_marks _ u other]
    cases u <;> simp_all [State.grantJob, State.grantRefresh, Device.refreshed, Marks.clearOne, Marks.get]
  · cases u <;> simp_all [State.settle, State.grantJob, State.grantRefresh, Device.refreshed]
  · subst status
    refine ⟨?_, ?_, ?_⟩
    · have marked := (s.grantJob (.refresh .status)).device.finish_status
      have cleared : (s.grantJob (.refresh .status)).device.marks.status ≠ true := Bool.false_ne_true
      rw [Bool.eq_iff_iff, decide_eq_true_iff]
      exact ⟨fun set => (marked.mp set).resolve_left cleared, fun changed => marked.mpr (.inr changed)⟩
    · simp [State.settle, State.grantJob, State.grantRefresh, Device.refreshed]
    · simp [State.settle, State.grantJob, State.grantRefresh, Device.refreshed, Device.setInterrupt, Device.interruptLevel]
  · cases u <;> simp [State.settle, State.grantJob, State.grantRefresh, Device.refreshed, Device.SamePlant, Device.SameLines,
      Device.SameClock]

/-- Settles O32. -/
theorem producerIndexWriteShowsTheEntries : Obligations.ProducerIndexWriteShowsTheEntries := by
  unfold Obligations.ProducerIndexWriteShowsTheEntries
  intro s wf granted
  have stores := storesOnly_writeWord s.mem (s.device.address producerOffset) (BitVec.ofNat 32 s.device.reports.producer)
    (s.device.address_room _ _ (by decide)) wf
  refine ⟨(s.grantJob .producer).settle, ?_, stores, ?_⟩
  · simp only [exec, execProducerIndexWrite, granted, Option.filter_some, Job.isProducer, if_true, State.grant]
  · simp [State.settle, State.grantJob, State.grantProducer, Device.setInterrupt, Device.interruptLevel, Device.SamePlant,
      Device.SameLines, Device.SameClock]

/-- An internal burst holds the port: no station access goes first. -/
theorem Device.stationFirst_burst {d : Device} {b : Burst} (h : d.port.burst = some b) : d.stationFirst = false := by
  simp [Device.stationFirst, h]

theorem ringOffset_room {slot : Nat} (h : slot < Config.ringSlots) : ringOffset slot + 4 * 8 ≤ 16384 := by
  simp only [ringOffset, Config.ringSlots] at *
  omega

/-- Settles O30. -/
theorem grantsStartTheirBursts : Obligations.GrantsStartTheirBursts := by
  unfold Obligations.GrantsStartTheirBursts
  intro s wf slot
  refine ⟨fun r granted => ?_, fun j granted => ?_, fun granted => ?_⟩
  · have burst : (s.grantJob (.entry r)).settle.device.port.burst = some (.entry false) := by
      simp [State.settle, State.grantJob, State.grantEntry]
    have stores := storesOnly_writeWords s.mem (s.device.address (ringOffset s.device.reports.producer)) r.words
      (s.device.address_room _ _ (ringOffset_room slot)) wf
    have pending : (s.grantJob (.entry r)).device.entryPending = true := by
      simp [Device.entryPending, State.grantJob, State.grantEntry]
    refine ⟨(s.grantJob (.entry r)).settle, ?_, ?_, burst, ?_, ?_⟩
    · rw [exec_internalJobGrant granted, State.arbitrate_kept _ (Device.stationFirst_burst burst)]
    · simpa only [State.settle, State.grantJob, State.grantEntry, Device.address] using stores
    · rw [State.settle, (Device.finish_entry _ pending).1]
      rfl
    · simp [State.settle, State.grantJob, State.grantEntry, Device.SamePlant, Device.SameLines]
  · have burst : (s.grantJob (.read j)).settle.device.port.burst = some (.read j) := by
      simp [State.settle, State.grantJob, State.grantReadJob]
    refine ⟨(s.grantJob (.read j)).settle, ?_, rfl, burst, ?_⟩
    · rw [exec_internalJobGrant granted, State.arbitrate_kept _ (Device.stationFirst_burst burst)]
    · simp [State.settle, State.grantJob, State.grantReadJob, Device.SamePlant, Device.SameLines]
  · have stores := storesOnly_writeWord s.mem (s.device.address consumerOffset) (BitVec.ofNat 32 s.device.reports.consumer)
      (s.device.address_room _ _ consumerOffset_room.1) wf
    refine ⟨(s.grantJob .consumer).settle, exec_internalJobGrant granted, stores, ?_⟩
    simp [State.settle, State.grantJob, State.grantConsumer, Device.SamePlant, Device.SameLines]

/-! ## The ends of bursts (R158, R161 to R163) -/

/-- The end of a burst, in which nothing but the port's burst is touched. -/
theorem State.endBurst_settle (s : State) :
    (({ s with device := s.device.endBurst } : State).settle).device.port = { s.device.port with burst := none } ∧
      s.device.SameRing ({ s with device := s.device.endBurst } : State).settle.device ∧
      s.device.SamePlant ({ s with device := s.device.endBurst } : State).settle.device ∧
      ({ s with device := s.device.endBurst } : State).settle.device.charter = s.device.charter ∧
      ({ s with device := s.device.endBurst } : State).settle.device.requests = s.device.requests ∧
      ({ s with device := s.device.endBurst } : State).settle.device.jobs.result = s.device.jobs.result ∧
      s.device.SameClock ({ s with device := s.device.endBurst } : State).settle.device := by
  simp [State.settle, Device.endBurst, Device.SameRing, Device.SamePlant, Device.SameLines, Device.SameClock]

/-- Settles O33. -/
theorem reportEntryDoneAdvancesTheProducer : Obligations.ReportEntryDoneAdvancesTheProducer := by
  unfold Obligations.ReportEntryDoneAdvancesTheProducer
  refine ⟨fun s burst => ⟨({ s with device := s.device.entryDone } : State).settle, ?_, rfl, ?_⟩,
    fun s burst => ⟨({ s with device := s.device.endBurst } : State).settle, ?_, rfl, ?_⟩⟩
  · simp only [exec, execReportEntryDone, burst, State.portEvent]
  · simp [State.settle, Device.entryDone, Device.endBurst, Config.ringSlots, Device.SamePlant, Device.SameLines,
      Device.SameClock]
  · simp only [exec, execReportEntryDone, burst, State.portEvent]
  · obtain ⟨port, ring, plant, charter, requests, -, clock⟩ := s.endBurst_settle
    exact ⟨port, ring, plant, charter, requests, clock⟩

/-- Settles O35. -/
theorem aRefusedOrDroppedOpenChangesNothing : Obligations.ARefusedOrDroppedOpenChangesNothing := by
  unfold Obligations.ARefusedOrDroppedOpenChangesNothing
  refine fun l s => ⟨fun r burst refused =>
    ⟨({ s with device := s.device.endBurst.judgeOpen l (s.planRead l) } : State).settle, ?_, rfl, ?_⟩,
    fun burst => ⟨({ s with device := s.device.endBurst } : State).settle, ?_, rfl, ?_⟩⟩
  · simp only [exec, execPlanReadDone, burst, State.portEvent]
  · have asked : s.device.endBurst.judgeOpen l (s.planRead l) = s.device.endBurst.askResult r := by
      have refused' : s.device.endBurst.openRefusal l (s.planRead l) = some r := refused
      simp only [Device.judgeOpen, refused']
    rw [asked]
    refine ⟨?_, ?_⟩
    · simp [State.settle, Device.answered, Device.askResult]
    · simp [State.settle, Device.endBurst, Device.SameRing, Device.SamePlant, Device.SameLines, Device.SameClock]
  · simp only [exec, execPlanReadDone, burst, State.portEvent]
  · obtain ⟨port, -, plant, charter, requests, result, clock⟩ := s.endBurst_settle
    exact ⟨port, plant, charter, requests, result, clock⟩

/-- Settles O36. -/
theorem aCharterReadFillsTheWorkingCopy : Obligations.ACharterReadFillsTheWorkingCopy := by
  unfold Obligations.ACharterReadFillsTheWorkingCopy
  intro i s burst early
  refine ⟨({ s with device := s.device.endBurst.charterRead i (s.charterWords i) } : State).settle, ?_, rfl, ?_⟩
  · simp only [exec, execCharterReadDone, burst, State.portEvent]
  · have fewer : i + 1 < Config.charterJobs := early
    simp [State.settle, Device.endBurst, Device.charterRead, Device.storeCharter, State.charterWords, fewer, Device.SameRing,
      Device.SamePlant, Device.SameLines, Device.SameClock]

end Sys2Proof.Machine

/-! SUPPORT. The step deadlines of a line and of the ESD sequence (O51 to O54). -/

namespace Sys2Proof.Machine

open Sys2Proof

/-! ## The events of expiries -/

theorem Device.deadlineDue_eq {d : Device} {l : Line} (h : d.due (d.line l).deadline = true) : d.deadlineDue l = true := h

theorem Device.expires_of {d : Device} {l : Line} {st : LineState} {p : Step} (state : (d.line l).state = st)
    (step : (d.line l).step = p) (due : d.due (d.line l).deadline = true) : d.expires l st p = true := by
  simp [Device.expires, state, step, Device.deadlineDue_eq due]

/-- An event that happens on a condition that holds. -/
theorem State.eventIf_true {s : State} {c : Bool} (f : Device → Device) (h : c = true) :
    s.eventIf c f = .next ({ s with device := f s.device } : State).settle := by
  rw [State.eventIf, if_pos h]
  rfl

/-- An event changes the device alone. -/
theorem State.event_mem (s : State) (d : Device) : ({ s with device := d } : State).settle.mem = s.mem := rfl

theorem State.event_device (s : State) (d : Device) : ({ s with device := d } : State).settle.device = d.finish := rfl

/-- A stop is handed to a line by its limit: what O12 gives of the line, and the frame of the event. -/
theorem Device.stopTrigger_settled (d : Device) (l : Line) (c : Cause) :
    d.SameOtherLines l (d.stopTrigger l c false).finish ∧ (d.stopTrigger l c false).finish.stills = d.stills ∧
      (d.stopTrigger l c false).finish.valves = d.valves ∧ (d.stopTrigger l c false).finish.shutdown = d.shutdown ∧
      d.SameStation (d.stopTrigger l c false).finish ∧ (d.stopTrigger l c false).finish.charter = d.charter := by
  refine ⟨fun m hm => ?_, ?_⟩
  · simp [hm]
  · simp [Device.SameStation, Device.SameClock, Device.SameRing]

/-! ## The lineup limit (R7) -/

/-- Settles O51: a FAILED valve is an ESD trigger, and without one the line is stopped. -/
theorem lineupLimitEndsTheLineup : Obligations.LineupLimitEndsTheLineup := by
  unfold Obligations.LineupLimitEndsTheLineup
  intro l s lineup due
  have run : exec (.lineupLimitExpiry l) s = .next ({ s with device := s.device.lineupExpired l } : State).settle :=
    State.eventIf_true _ (by simp [lineup, Device.deadlineDue_eq due])
  refine ⟨_, run, rfl, fun n failed clear => ?_, fun none => ?_, ?_⟩
  · have taken : s.device.lineupExpired l = s.device.setLatch .valveFailed (lineNumber l) (nodeAddress n) 0 := by
      simp [Device.lineupExpired, failed, Device.esdTrigger, clear]
    rw [State.settle, taken]
    exact (Device.alike.refl _).latchSet (Device.finish_alike _) (Device.setLatch_latchSet _ _ _ _ _)
  · have taken : s.device.lineupExpired l = s.device.stopTrigger l .lineupFailed false := by
      simp only [Device.lineupExpired, none]
    rw [State.settle, taken]
    obtain ⟨others, -, -, shutdown, -⟩ := s.device.stopTrigger_settled l .lineupFailed
    exact ⟨(Device.alike.refl _).lineupStopped (Device.finish_alike _) (Device.stopTrigger_lineup _ l _ _ lineup), others,
      congrArg Shutdown.latch shutdown⟩
  · simp [State.settle, Device.SameStation, Device.SameClock, Device.SameRing]

/-! ## The prime limit and the hold limit (R10, R16) -/

/-- A stop above rate 0 takes a running line to step RAMP, and claims and releases nothing (R21). -/
theorem Device.stopTrigger_ramped (d : Device) (l : Line) (c : Cause) (running : (d.line l).state.running = true)
    (above : 0 < (d.governor l).allowed) :
    ((d.stopTrigger l c false).finish.line l).state = .stopping ∧ ((d.stopTrigger l c false).finish.line l).step = .ramp ∧
      ((d.stopTrigger l c false).finish.line l).stopCause = some c ∧
      ((d.stopTrigger l c false).finish.line l).stripFlag = false ∧
      ((d.stopTrigger l c false).finish.line l).deadline = none ∧
      (d.stopTrigger l c false).finish.nodes = d.nodes ∧ (d.stopTrigger l c false).finish.tanks = d.tanks := by
  obtain ⟨-, taken⟩ := d.stopTrigger_taken l c false running
  rw [if_pos above] at taken
  obtain ⟨state, step, cause, strip, -, -, deadline⟩ := taken
  obtain ⟨nodes, tanks⟩ := d.stopTrigger_ramps l c false running above
  simp [state, step, cause, strip, deadline, nodes, tanks]

/-- While the pump has a claim, step PUMP_STOPPING waits for it (R21). -/
theorem Device.enterPumpStopping_waits (d : Device) (l : Line) (busy : d.idleNode (d.deviceOf l .pump) = false) :
    d.enterPumpStopping l = (d.setStep l .pumpStopping).setDeadline l (d.secondsOn (d.limits l).pumpStop) := by
  generalize waits : (d.setStep l .pumpStopping).setDeadline l (d.secondsOn (d.limits l).pumpStop) = e
  have nodes : e.nodes = d.nodes := by simp [← waits, Device.setStep, Device.setDeadline]
  have busy' : e.idleNode (e.deviceOf l .pump) = false := by rw [d.agree_pump e l (d.agree_of_nodes e l nodes), busy]
  have taken : d.enterPumpStopping l = if e.idleNode (e.deviceOf l .pump) then e.leaveStopping l else e := by
    rw [← waits]
    rfl
  rw [taken, busy', if_neg Bool.false_ne_true]

/-- A stop at rate 0 claims and releases nothing while the pump has a claim (R21). -/
theorem Device.stopTrigger_waits (d : Device) (l : Line) (c : Cause) (running : (d.line l).state.running = true)
    (zero : (d.governor l).allowed = 0) (busy : d.idleNode (d.deviceOf l .pump) = false) :
    (d.stopTrigger l c false).nodes = d.nodes ∧ (d.stopTrigger l c false).tanks = d.tanks := by
  have lineup : (d.line l).state ≠ .lineup := fun h => by simp [h, LineState.running] at running
  generalize entered : (d.setLine l ((d.line l).stopped c false)).enterState l .stopping .ramp (.line c) = e
  have nodes : e.nodes = d.nodes := by
    rw [← entered, ((d.setLine l ((d.line l).stopped c false)).enterState_nodes l .stopping .ramp (.line c) (by simp)).1]
    simp
  have tanks : e.tanks = d.tanks := by simp [← entered]
  have allowed : (e.governor l).allowed = 0 := by
    rw [← entered, Device.enterState_allowed]
    simpa [Governor.entering] using zero
  have busy' : e.idleNode (e.deviceOf l .pump) = false := by
    rw [d.agree_pump e l (d.agree_of_nodes e l nodes), busy]
  have taken : d.stopTrigger l c false = e.enterPumpStopping l := by
    rw [Device.stopTrigger, if_neg lineup, if_pos running, Device.enterStopping]
    simp only [entered, allowed, if_true]
  rw [taken, e.enterPumpStopping_waits l busy']
  simp [Device.setStep, Device.setDeadline, nodes, tanks]

/-- Settles O52. -/
theorem primeAndHoldLimitsStopTheLine : Obligations.PrimeAndHoldLimitsStopTheLine := by
  unfold Obligations.PrimeAndHoldLimitsStopTheLine
  intro l s due
  refine ⟨fun priming step above => ?_, fun held step zero busy => ?_, fun held step zero idle => ?_⟩
  · have run : exec (.primeLimitExpiry l) s = .next ({ s with device := s.device.stopTrigger l .primeFailed false } : State).settle :=
      State.eventIf_true _ (Device.expires_of priming step due)
    obtain ⟨state, step, cause, strip, deadline, nodes, tanks⟩ :=
      s.device.stopTrigger_ramped l .primeFailed (by rw [priming]; rfl) above
    obtain ⟨others, -, -, shutdown, station, charter⟩ := s.device.stopTrigger_settled l .primeFailed
    exact ⟨_, run, rfl, state, step, cause, strip, deadline, others, nodes, tanks, shutdown, station, charter⟩
  · have run : exec (.holdLimitExpiry l) s = .next ({ s with device := s.device.stopTrigger l .holdTooLong false } : State).settle :=
      State.eventIf_true _ (Device.expires_of held step due)
    have running : (s.device.line l).state.running = true := by rw [held]; rfl
    obtain ⟨-, taken⟩ := s.device.stopTrigger_taken l .holdTooLong false running
    rw [if_neg (by omega), if_pos busy] at taken
    obtain ⟨nodes, tanks⟩ := s.device.stopTrigger_waits l .holdTooLong running zero busy
    obtain ⟨others, -, -, shutdown, station, charter⟩ := s.device.stopTrigger_settled l .holdTooLong
    obtain ⟨state, step, cause, strip, hold, -, deadline⟩ := taken
    refine ⟨_, run, rfl, ?_, ?_, ?_, ?_, ?_, ?_, others, ?_, ?_, shutdown, station, charter⟩
    all_goals simp [State.settle, state, step, cause, strip, hold, deadline, nodes, tanks]
  · have run : exec (.holdLimitExpiry l) s = .next ({ s with device := s.device.stopTrigger l .holdTooLong false } : State).settle :=
      State.eventIf_true _ (Device.expires_of held step due)
    obtain ⟨allowed, taken⟩ := s.device.stopTrigger_taken l .holdTooLong false (by rw [held]; rfl)
    rw [if_neg (by omega), if_neg (by simp [idle]), if_neg (by simp)] at taken
    obtain ⟨others, stills, valves, shutdown, station, charter⟩ := s.device.stopTrigger_settled l .holdTooLong
    have after := (s.device.stopTrigger l .holdTooLong false).finish_alike
    refine ⟨_, run, rfl, (Device.alike.refl _).closingTaken after taken, ?_, others, stills, valves, ?_, shutdown, station, charter⟩
    · simpa [State.settle, zero] using allowed
    · exact after.tankStills.symm.trans (s.device.stopTrigger_stills l .holdTooLong false)

/-! ## The pump stop and the strip limit (R22, R23) -/

/-- STRIPPING entered (R23). -/
theorem Device.enterStripping_line (d : Device) (l : Line) :
    ((d.enterStripping l).line l).step = .strip ∧ ((d.enterStripping l).line l).entry = d.time ∧
      ((d.enterStripping l).line l).deadline = some (d.secondsOn (d.limits l).stripLimit) ∧
      ((d.enterStripping l).governor l).allowed = 0 := by
  simp [Device.enterStripping, Device.setDeadline, Device.secondsOn, Device.limits, Governor.entering]

/-- CLOSING keeps the line's stripping result until the line goes on to FREE (R24, R28). -/
theorem Device.closeManifold_stripResult (d : Device) (l : Line) :
    ((d.closeManifold l).line l).state = .free ∨ ((d.closeManifold l).line l).stripResult = (d.line l).stripResult := by
  have valves (e : Device) : ((e.closeValves l).line l).state = .free ∨
      ((e.closeValves l).line l).stripResult = (e.line l).stripResult := by
    unfold Device.closeValves
    dsimp only
    split
    · exact .inl (Device.enterFree_state _ l)
    · exact .inr (by simp [Device.setStep])
  unfold Device.closeManifold
  dsimp only
  split
  · simpa [Device.setStep] using valves (d.setStep l .manifoldClosing)
  · split
    · simpa [Device.setStep] using valves ((d.setStep l .manifoldClosing).claimValve l .manifold .closed .sequence)
    · exact .inr (by simp [Device.setStep])

/-- Settles O53. -/
theorem pumpStopAndStripLimitsCloseTheLine : Obligations.PumpStopAndStripLimitsCloseTheLine := by
  unfold Obligations.PumpStopAndStripLimitsCloseTheLine
  intro l s due
  refine ⟨fun stopping step => ?_, fun stripping step => ?_⟩
  · have run : exec (.pumpStopExpiry l) s = .next ({ s with device := s.device.leaveStopping l } : State).settle :=
      State.eventIf_true _ (Device.expires_of stopping step due)
    refine ⟨_, run, rfl, ?_, ?_, fun m hm => ?_, ?_⟩
    · split
      case isTrue strip =>
        have taken : s.device.leaveStopping l = s.device.enterStripping l := if_pos strip
        obtain ⟨step, entry, deadline, -⟩ := s.device.enterStripping_line l
        have state := s.device.enterStripping_state l
        rw [State.settle, taken]
        refine ⟨?_, ?_, ?_, ?_, ?_, (Device.alike.refl _).moveClaimed (Device.finish_alike _) (s.device.enterStripping_claimed l)⟩
        all_goals simp [state, step, entry, deadline]
      case isFalse direct =>
        have taken : s.device.leaveStopping l = s.device.enterClosing l := if_neg direct
        rw [State.settle, taken]
        exact (Device.alike.refl _).closingTaken (Device.finish_alike _) (s.device.enterClosing_taken l)
    · have zero : ((s.device.leaveStopping l).governor l).allowed = 0 := by
        unfold Device.leaveStopping
        split
        · exact (s.device.enterStripping_line l).2.2.2
        · exact s.device.enterClosing_allowed l
      simpa [State.settle] using zero
    · simp [State.settle, hm]
    · simp [State.settle, Device.SameStation, Device.SameClock, Device.SameRing]
  · have run : exec (.stripLimitExpiry l) s = .next ({ s with device := s.device.stripExpired l } : State).settle :=
      State.eventIf_true _ (Device.expires_of stripping step due)
    generalize hd : s.device.setLine l { s.device.line l with stripResult := .incomplete } = d
    have line : d.line l = { s.device.line l with stripResult := .incomplete } := by simp [← hd]
    have taken : s.device.stripExpired l = d.enterClosing l := by rw [Device.stripExpired, hd]
    have closing := d.closingTaken_from s.device _ l _ (d.enterClosing_taken l) (by simp [← hd]) (by simp [← hd])
    rw [line] at closing
    have after := (d.enterClosing l).finish_alike
    have result := (d.enterState l .closing .manifoldClosing .none).closeManifold_stripResult l
    refine ⟨_, run, rfl, ?_, fun stays => ?_, fun m hm => ?_, ?_⟩
    · rw [State.settle, taken]
      exact (Device.alike.refl _).closingTaken after closing
    · rw [State.settle, taken] at stays ⊢
      simp only [Device.finish_reads] at stays ⊢
      rw [Device.enterClosing] at stays ⊢
      rw [result.resolve_left (by rw [stays]; simp)]
      simp [line]
    · simp [State.settle, taken, ← hd, hm]
    · simp [State.settle, Device.SameStation, Device.SameClock, Device.SameRing]

/-! ## The pump deadline of an ESD sequence (R92) -/

/-- The summary of a line (R28). -/
def Device.summaryOf (d : Device) (l : Line) : Report :=
  ⟨.lineSummary, lineNumber l, 0, (match (d.line l).stopCause with | none => .none | some k => .line k),
    (d.line l).nominated, (d.governor l).delivered, d.time, (d.line l).stripResult⟩

theorem Device.lineSummary_eq (d : Device) (l : Line) : d.lineSummary l = d.enqueueReport (d.summaryOf l) := rfl

/-- The summary of a line depends on its context, the volume it delivered and the time. -/
theorem Device.summaryOf_congr {d e : Device} {l : Line} (cause : (e.line l).stopCause = (d.line l).stopCause)
    (nominated : (e.line l).nominated = (d.line l).nominated) (result : (e.line l).stripResult = (d.line l).stripResult)
    (delivered : (e.governor l).delivered = (d.governor l).delivered) (time : e.time = d.time) :
    e.summaryOf l = d.summaryOf l := by
  rw [Device.summaryOf, Device.summaryOf, cause, nominated, result, delivered, time]

/-- The end of an ESD sequence reports the change to TRIPPED and the line's summary (R28, R93). -/
theorem Device.esdFinish_told (d : Device) (l : Line) (usable : d.reports.usable = true)
    (room : d.reports.queue.length + 2 ≤ 16) :
    Device.Tells 2 d (d.esdFinish l) ∧ d.summaryOf l ∈ (d.esdFinish l).reports.queue := by
  generalize he : (d.setSequence l .none).enterState l .tripped .none .none = e
  have entered : Device.Tells 1 d e := by
    have moved := Device.Tells.of_same (s := d) (t := d.setSequence l .none) (by simp)
    exact he ▸ moved.trans (Device.enterState_tells _ l .tripped .none .none)
  obtain ⟨-, length, -⟩ := entered.told (by omega)
  have summary : e.summaryOf l = d.summaryOf l := Device.summaryOf_congr (by simp [← he, Device.setSequence, Device.setStep])
    (by simp [← he, Device.setSequence, Device.setStep]) (by simp [← he, Device.setSequence, Device.setStep])
    (by simp [← he]) (by simp [← he])
  have taken : d.esdFinish l = e.enqueueReport (d.summaryOf l) := by
    rw [← summary, ← Device.lineSummary_eq, ← he]
    rfl
  rw [taken]
  refine ⟨entered.trans (e.enqueueReport_tells _), ?_⟩
  rw [(e.enqueueReport_queue _ (by rw [entered.usable, usable]) (by omega)).1]
  exact List.mem_append_right _ (List.mem_singleton.mpr rfl)

/-- With MANIFOLD and DISCHARGE at rest CLOSED the end of step ESD_PUMP_STOP ends the ESD sequence, and the line's summary is
told, after the reports of STRIP's claim and of the change to TRIPPED (R28, R92, R93). -/
theorem Device.esdManifold_told (d : Device) (l : Line) (manifold : d.atRest l .manifold .closed = true)
    (discharge : d.atRest l .discharge .closed = true) (usable : d.reports.usable = true)
    (room : d.reports.queue.length + 4 ≤ 16) :
    Device.Tells 4 d (d.esdManifold l) ∧ d.summaryOf l ∈ (d.esdManifold l).reports.queue := by
  generalize ha : (d.setPumpDeadline l none).setSequence l .esdManifold = a
  have nodes : a.nodes = d.nodes := by simp [← ha]
  have rests (r : Role) : a.atRest l r .closed = d.atRest l r .closed :=
    d.atRest_congr a l r .closed (d.sameSettings_of_nodes a nodes) (fun n _ => Device.node_congr a d n nodes)
  generalize hb : a.claimUnlessAtRest l .strip .closed = b
  have claimed : Device.Tells 2 d b := by
    have moved := Device.Tells.of_same (s := d) (t := a) (by simp [← ha])
    exact hb ▸ moved.trans (a.claimUnlessAtRest_tells l .strip .closed)
  have settings : a.sameSettings b := a.sameSettings_of_stills b (by simp [← hb])
  have rests' (r : Role) (other : r ≠ .strip) : b.atRest l r .closed = d.atRest l r .closed := by
    rw [← rests r, a.atRest_congr b l r .closed settings (fun n at_n => ?_)]
    rw [← hb]
    exact a.claimUnlessAtRest_role l .strip .closed n (.inr (by rw [(a.valveOf_some l r n at_n).2.2]; exact other))
  obtain ⟨-, length, -⟩ := claimed.told (by omega)
  generalize hc : b.setSequence l .esdDischarge = c
  have reports : c.reports = b.reports := by simp [← hc]
  have rests'' : c.atRest l .discharge .closed = true := by
    have nodes' : c.nodes = b.nodes := by simp [← hc]
    rw [b.atRest_congr c l _ _ (b.sameSettings_of_nodes c nodes') (fun n _ => Device.node_congr c b n nodes'),
      rests' .discharge (by simp), discharge]
  have taken : d.esdManifold l = c.esdFinish l := by
    have held : a.claimUnlessAtRest l .manifold .closed = a := by
      rw [Device.claimUnlessAtRest, rests .manifold, manifold, if_pos rfl]
    simp only [Device.esdManifold, ha, held, hb, rests' .manifold (by simp), manifold, if_true, Device.esdDischarge, hc, rests'']
  have told := c.esdFinish_told l (by rw [reports, claimed.usable, usable]) (by rw [reports]; omega)
  have summary : c.summaryOf l = d.summaryOf l := by
    have context : c.line l = { d.line l with step := .esdDischarge } := by
      simp [← hc, ← hb, ← ha, Device.setSequence, Device.setStep, Device.setPumpDeadline]
    exact Device.summaryOf_congr (by rw [context]) (by rw [context]) (by rw [context]) (by simp [← hc, ← hb, ← ha])
      (by simp [← hc, ← hb, ← ha])
  rw [taken, ← summary]
  exact ⟨(claimed.of_reports b reports).trans told.1, told.2⟩

/-- Where both valves are at rest CLOSED and reports flow, the line's summary waits at the end of the event. -/
theorem Device.esdManifold_summary (d : Device) (l : Line) (manifold : d.atRest l .manifold .closed = true)
    (discharge : d.atRest l .discharge .closed = true) (flow : d.reportsFlow) :
    (d.esdManifold l).finish.reportWaits (d.summaryOf l) := by
  obtain ⟨usable, empty, -⟩ := id flow
  obtain ⟨tells, told⟩ := d.esdManifold_told l manifold discharge usable (by rw [empty]; simp)
  exact tells.reportWaits flow (by omega) (by simp) told

/-- The end of step ESD_PUMP_STOP clears the pump deadline (R92). -/
theorem Device.esdManifold_deadline (d : Device) (l : Line) : (d.esdManifold l).shutdown.pumpDeadline.get l = none := by
  simp only [Device.esdManifold]
  split <;> simp [Device.setPumpDeadline]

theorem Device.esdManifold_settled (d : Device) (l : Line) : d.esdClosed (d.esdManifold l).finish l := by
  have closed := d.esdManifold_closed l
  generalize d.esdManifold l = e at closed
  exact (Device.alike.refl d).esdClosed e.finish_alike closed

/-- Settles O54. -/
theorem esdPumpDeadlineClosesTheManifold : Obligations.EsdPumpDeadlineClosesTheManifold := by
  unfold Obligations.EsdPumpDeadlineClosesTheManifold
  intro l s sequence due
  have run : exec (.esdPumpDeadlineExpiry l) s = .next ({ s with device := s.device.esdManifold l } : State).settle :=
    State.eventIf_true _ (by simp [sequence, due])
  refine ⟨_, run, State.event_mem s _, ?_⟩
  rw [State.event_device]
  refine ⟨?_, s.device.esdManifold_settled l, s.device.esdManifold_summary l, ?_, ?_, fun m hm => ?_, ?_⟩
  · simpa using s.device.esdManifold_deadline l
  · simp
  · simp
  · simp [hm]
  · simp [Device.SameStation, Device.SameClock, Device.SameRing]

end Sys2Proof.Machine

/-! SUPPORT. The receiver of the ship link byte by byte, and the frames it discards (R138, R139; O45). -/

namespace Sys2Proof.Machine

open Sys2Proof

/-! ## Events -/

/-- An event at the device, with the device that it ends in. -/
theorem State.event_taken (s : State) (f : Device → Device) :
    ∃ t, s.event f = .next t ∧ t.mem = s.mem ∧ t.device = (f s.device).finish := ⟨_, rfl, rfl, rfl⟩

theorem State.eventIf_taken (s : State) {c : Bool} (f : Device → Device) (h : c = true) :
    ∃ t, s.eventIf c f = .next t ∧ t.mem = s.mem ∧ t.device = (f s.device).finish := by
  rw [State.eventIf, if_pos h]
  exact s.event_taken f

/-! ## The receiver (R138) -/

theorem Device.takeBytes_append (d : Device) (bs cs : List Byte) : d.takeBytes (bs ++ cs) = (d.takeBytes bs).takeBytes cs := by
  induction bs generalizing d with
  | nil => rfl
  | cons b bs ih => exact ih (d.takeByte b)

theorem Device.setPartial_setPartial (d : Device) (p q : Option PartialFrame) :
    (d.setPartial p).setPartial q = d.setPartial q := rfl

theorem Device.setPartial_same (d : Device) (h : d.link.partialFrame = none) : d.setPartial none = d := by
  rw [Device.setPartial, ← h]

/-- A lead byte starts a frame. -/
theorem Device.takeByte_lead (d : Device) (h : d.link.partialFrame = none) :
    d.takeByte leadByte = d.setPartial (some ⟨d.link.taking, [leadByte]⟩) := by
  simp [Device.takeByte, h]

/-- A kind that is not received ends the frame. -/
theorem Device.takeByte_unknown (d : Device) (k : Bool) {kind : Byte} (h : receivedLength kind = none) :
    (d.setPartial (some ⟨k, [leadByte]⟩)).takeByte kind = d.setPartial none := by
  simp [Device.takeByte, Device.setPartial, h]

/-- A received kind has room for more than its two first bytes. -/
theorem receivedLength_long {kind : Byte} {n : Nat} (h : receivedLength kind = some n) : 2 < n := by
  unfold receivedLength at h
  split at h
  · cases h; omega
  · split at h
    · cases h; omega
    · cases h

/-- The kind byte of a received frame is kept. -/
theorem Device.takeByte_kind (d : Device) (k : Bool) {kind : Byte} {n : Nat} (h : receivedLength kind = some n) :
    (d.setPartial (some ⟨k, [leadByte]⟩)).takeByte kind = d.setPartial (some ⟨k, [leadByte, kind]⟩) := by
  have long := receivedLength_long h
  have more : n ≠ 2 := by omega
  simp [Device.takeByte, Device.setPartial, h, frameComplete, more]

/-- A later byte of a frame that does not complete it is kept. -/
theorem Device.takeByte_more (d : Device) (k : Bool) {kind : Byte} {n : Nat} (h : receivedLength kind = some n)
    (bs : List Byte) (b : Byte) (room : bs.length + 3 < n) :
    (d.setPartial (some ⟨k, leadByte :: kind :: bs⟩)).takeByte b = d.setPartial (some ⟨k, leadByte :: kind :: (bs ++ [b])⟩) := by
  have more : n ≠ bs.length + 3 := by omega
  simp [Device.takeByte, Device.setPartial, h, frameComplete, more]

/-- The bytes of a frame before its last are kept. -/
theorem Device.takeBytes_more (d : Device) (k : Bool) {kind : Byte} {n : Nat} (h : receivedLength kind = some n)
    (bs cs : List Byte) (room : bs.length + cs.length + 2 < n) :
    (d.setPartial (some ⟨k, leadByte :: kind :: bs⟩)).takeBytes cs = d.setPartial (some ⟨k, leadByte :: kind :: (bs ++ cs)⟩) := by
  induction cs generalizing bs with
  | nil => rw [List.append_nil]; rfl
  | cons c cs ih =>
    rw [List.length_cons] at room
    rw [Device.takeBytes, d.takeByte_more k h bs c (by omega), ih (bs ++ [c]) (by simp; omega)]
    simp

/-- The last byte of a frame completes it: it is taken when the receiver took every byte of it. -/
theorem Device.takeByte_last (d : Device) (k : Bool) {kind : Byte} {n : Nat} (h : receivedLength kind = some n)
    (bs : List Byte) (b : Byte) (whole : bs.length + 3 = n) :
    (d.setPartial (some ⟨k, leadByte :: kind :: bs⟩)).takeByte b =
      if k = true ∧ d.link.taking = true then (d.setPartial none).takeFrame (leadByte :: kind :: (bs ++ [b]))
      else d.setPartial none := by
  have whole' : n = bs.length + 3 := by omega
  simp [Device.takeByte, Device.setPartial, h, frameComplete, whole'] <;> rfl

/-- The bytes of a complete frame, from its lead byte on, are taken as the frame. -/
theorem Device.takeBytes_complete (d : Device) (h : d.link.partialFrame = none) {bytes : List Byte}
    (complete : completeFrame bytes = true) : d.takeBytes bytes = if d.link.taking = true then d.takeFrame bytes else d := by
  match bytes, complete with
  | lead :: kind :: rest, complete =>
    simp only [completeFrame, Bool.and_eq_true, decide_eq_true_eq, List.length_cons] at complete
    obtain ⟨rfl, length⟩ := complete
    have long := receivedLength_long length
    obtain ⟨bs, b, rfl⟩ : ∃ bs b, rest = bs ++ [b] := by
      refine ⟨rest.dropLast, rest.getLast (fun empty => ?_), (List.dropLast_concat_getLast _).symm⟩
      rw [empty, List.length_nil] at long
      omega
    rw [List.length_append, List.length_singleton] at length
    have kept := d.takeBytes_more d.link.taking length [] bs (by rw [List.length_nil]; omega)
    rw [List.nil_append] at kept
    rw [Device.takeBytes, Device.takeBytes, d.takeByte_lead h, d.takeByte_kind _ length, Device.takeBytes_append, kept,
      Device.takeBytes, Device.takeBytes, d.takeByte_last _ length bs b (by omega), d.setPartial_same h]
    simp

/-- The first bytes of a frame leave it incomplete. -/
theorem Device.takeBytes_partial (d : Device) (h : d.link.partialFrame = none) {bytes : List Byte}
    (first : isPartialFrame bytes = true) : d.takeBytes bytes = d.setPartial (some ⟨d.link.taking, bytes⟩) := by
  match bytes, first with
  | [lead], first =>
    simp only [isPartialFrame, decide_eq_true_eq] at first
    subst first
    exact d.takeByte_lead h
  | lead :: kind :: rest, first =>
    simp only [isPartialFrame, Bool.and_eq_true, decide_eq_true_eq] at first
    obtain ⟨rfl, short⟩ := first
    cases length : receivedLength kind with
    | none => simp [length] at short
    | some n =>
      rw [length] at short
      have room : rest.length + 2 < n := by simpa using short
      rw [Device.takeBytes, Device.takeBytes, d.takeByte_lead h, d.takeByte_kind _ length]
      simpa using d.takeBytes_more d.link.taking length [] rest (by rw [List.length_nil]; omega)

/-- Bytes that are discarded, and bytes that stay incomplete and are followed by a gap, leave the device as it was. -/
theorem Device.takeBytes_discarded (d : Device) (h : d.link.partialFrame = none) {bytes : List Byte}
    (discarded : isDiscardedFrame bytes = true) : d.takeBytes bytes = d := by
  unfold isDiscardedFrame at discarded
  rw [Bool.or_eq_true, Bool.and_eq_true] at discarded
  obtain ⟨complete, invalid⟩ | unknown := discarded
  · have none : decodeShipFrame bytes = none := Option.isNone_iff_eq_none.mp invalid
    rw [d.takeBytes_complete h complete, Device.takeFrame, none]
    exact ite_self d
  · split at unknown
    case h_2 => cases unknown
    case h_1 lead kind =>
      simp only [Bool.and_eq_true, decide_eq_true_eq, Option.isNone_iff_eq_none] at unknown
      obtain ⟨rfl, unknown⟩ := unknown
      rw [Device.takeBytes, Device.takeBytes, Device.takeBytes, d.takeByte_lead h, d.takeByte_unknown _ unknown,
        d.setPartial_same h]

/-- Settles O45: the receiver ends as it began, with no frame taken. -/
theorem discardedFramesChangeNothing : Obligations.DiscardedFramesChangeNothing := by
  unfold Obligations.DiscardedFramesChangeNothing
  intro bytes s h c named formed
  have event : ∃ t, exec c s = .next t ∧ t.mem = s.mem ∧ t.device = s.device.finish := by
    obtain rfl | rfl := named
    · obtain ⟨t, run, mem, device⟩ := s.event_taken (fun d => d.takeBytes bytes)
      exact ⟨t, run, mem, by rw [device, s.device.takeBytes_discarded h formed]⟩
    · obtain ⟨t, run, mem, device⟩ := s.event_taken (fun d => (d.takeBytes bytes).byteGap)
      refine ⟨t, run, mem, ?_⟩
      rw [device, s.device.takeBytes_partial h formed, Device.byteGap, Device.setPartial_setPartial, s.device.setPartial_same h]
  obtain ⟨t, run, mem, device⟩ := event
  refine ⟨t, run, mem, ?_⟩
  rw [device]
  simp [Device.SamePlant, Device.SameLines, Device.SameStation, Device.SameClock, Device.SameRing]

end Sys2Proof.Machine

/-! SUPPORT. The transmitter, and the expiries of the ship link and of tanks (O46 to O49). -/

namespace Sys2Proof.Machine

open Sys2Proof

/-! ## The transmitter (R146, R148) -/

theorem Device.setLink_bargeStatus (d : Device) (k : Link) : (d.setLink k).bargeStatus = d.bargeStatus := by
  simp [Device.bargeStatus, Device.bargeLine]

/-- The link after the transmitter's choice (R146). -/
theorem Device.transmit_choice (d : Device) :
    d.transmit.link = d.link.handing d.charter.mode d.bargeStatus d.link.queue := by
  unfold Device.transmit Link.handing
  by_cases silent : d.charter.mode ≠ .watch ∨ d.link.sending.isSome = true
  · rw [if_pos silent, if_pos silent]
  · rw [if_neg silent, if_neg silent]
    cases takeLeaving d.link.state d.link.queue with
    | none =>
      dsimp only
      by_cases due : d.link.statusDue = true
      · rw [if_pos due, if_pos due, Device.setLink_link]
      · rw [if_neg due, if_neg due]
    | some x =>
      dsimp only
      rw [Device.setLink_link]

/-- The link after the transmitter's choice, when the link was set in the event. -/
theorem Device.setLink_transmit (d : Device) (k : Link) :
    (d.setLink k).transmit.link = k.handing d.charter.mode d.bargeStatus k.queue := by
  rw [Device.transmit_choice, Device.setLink_bargeStatus]
  simp

/-- On a free line in WATCH the oldest entry that may leave is sent, else a due status (R146). -/
theorem Link.handing_free (k : Link) (barge : List Byte) (free : k.sending = none) :
    k.handing .watch barge k.queue = match takeLeaving k.state k.queue with
      | some (e, rest) => { k with queue := rest, sending := some e.frame }
      | none => if k.statusDue = true then { k with statusDue := false, sending := some barge } else k := by
  unfold Link.handing
  refine (if_neg (by simp [free])).trans ?_
  cases takeLeaving k.state k.queue with
  | none => rfl
  | some x => rfl

/-- The link when a status falls due, before the transmitter's choice (R148). -/
def Link.statusFalls (k : Link) (d : Time) : Link :=
  { k with statusDue := true, statusExpiry := some (d + BitVec.ofNat 32 Config.statusPeriod) }

/-- Settles O47. -/
theorem framesAreSent : Obligations.FramesAreSent := by
  unfold Obligations.FramesAreSent
  intro d s watch
  refine ⟨fun expiry due => ?_, fun sending => ?_⟩
  · obtain ⟨t, run, mem, device⟩ := s.eventIf_taken (fun x => x.statusFallsDue d) due
    have link : t.device.link = (s.device.link.statusFalls d).handing .watch s.device.bargeStatus s.device.link.queue := by
      have falls : s.device.statusFallsDue d = (s.device.setLink (s.device.link.statusFalls d)).transmit := rfl
      rw [device, ← watch, falls]
      simpa [Link.statusFalls] using s.device.setLink_transmit (s.device.link.statusFalls d)
    refine ⟨t, ?_, mem, ?_⟩
    · simpa only [exec, execStatusExpiry, expiry] using run
    · have rest : s.device.SameLines t.device ∧ t.device.tanks = s.device.tanks ∧ t.device.nodes = s.device.nodes ∧
          t.device.shutdown = s.device.shutdown ∧ s.device.SameStation t.device ∧
          t.device.charter = s.device.charter := by
        simp [device, Device.statusFallsDue, Device.SameLines, Device.SameStation, Device.SameClock, Device.SameRing]
      refine ⟨?_, ?_, rest⟩
      · rw [link]
        unfold Link.handing
        split
        · rfl
        · split
          · rfl
          · rfl
      · rw [link]
        split
        case isTrue busy =>
          rw [Link.handing_busy (s.device.link.statusFalls d) _ _ _ busy]
          exact ⟨rfl, rfl, rfl⟩
        case isFalse free =>
          have none : s.device.link.sending = none := by simpa using free
          have chosen := Link.handing_free (s.device.link.statusFalls d) s.device.bargeStatus none
          have queue : (s.device.link.statusFalls d).queue = s.device.link.queue := rfl
          have state : (s.device.link.statusFalls d).state = s.device.link.state := rfl
          rw [queue, state] at chosen
          rw [chosen]
          cases takeLeaving s.device.link.state s.device.link.queue with
          | some x => exact ⟨rfl, rfl, rfl⟩
          | none => exact ⟨rfl, rfl, rfl⟩
  · obtain ⟨t, run, mem, device⟩ := s.event_taken Device.frameLeft
    have left : s.device.frameLeft = (s.device.setLink { s.device.link with sending := none }).transmit := if_pos sending
    have link : t.device.link = ({ s.device.link with sending := none } : Link).handing .watch s.device.bargeStatus
        s.device.link.queue := by
      rw [device, ← watch, left]
      simpa using s.device.setLink_transmit { s.device.link with sending := none }
    refine ⟨t, run, mem, ?_, ?_⟩
    · have chosen := Link.handing_free { s.device.link with sending := none } s.device.bargeStatus rfl
      rw [link, chosen]
      dsimp only
      cases takeLeaving s.device.link.state s.device.link.queue with
      | some x => exact ⟨rfl, rfl, rfl⟩
      | none => cases due : s.device.link.statusDue <;> simp
    · simp [device, left, Device.SameLines, Device.SameStation, Device.SameClock, Device.SameRing]

end Sys2Proof.Machine

/-! SUPPORT. The expiries of the ship link and of a tank (O46, O48, O49). -/

namespace Sys2Proof.Machine

open Sys2Proof

/-! ## The causes of topping (R11, R69 to R71) -/

@[simp] theorem Device.setTopOff_limits (s : Device) (l m : Line) (w : TopOff) : (s.setTopOff l w).limits m = s.limits m := rfl

/-- The causes stored are those of the tanks, the nomination and the link as they are. -/
theorem Device.recompute_topping (s : Device) (l : Line) (busy : (s.line l).state ≠ .free) :
    ∃ head, ((s.recompute l).line l).topping = s.toppingCauses l head := by
  refine ⟨s.headTime (s.topOffOrder l), ?_⟩
  unfold Device.recompute
  dsimp only
  rw [if_neg (by simpa using busy)]
  simp [Device.toppingCauses, Device.tanksOf, Device.tankHas] <;> rfl

theorem Device.toppingCauses_shipSilent (s : Device) (l : Line) (head : Option Nat) :
    (s.toppingCauses l head).shipSilent = decide (s.link.state = .silent) := rfl

/-- A SILENT tank with an open valve is a cause of its line. -/
theorem Device.toppingCauses_tankSilent (s : Device) (l : Line) (head : Option Nat) {k : TankNo} {e : Tank}
    (at_k : s.tank k = some e) (assigned : e.assigned = some l) (silent : e.freshness ≠ .fresh) (opened : e.openValve = true) :
    (s.toppingCauses l head).tankSilent = true := by
  have member : k ∈ s.tanksOf l := by simp [Device.tanksOf, at_k, assigned, mem_allTanks]
  exact List.any_eq_true.mpr ⟨k, member, by simp [Device.tankHas, at_k, silent, opened]⟩

/-- A cause takes a delivering line to TOPPING. -/
theorem Device.handTopping_delivering (s : Device) (l : Line) (delivering : (s.line l).state = .delivering)
    (caused : ∀ head, (s.toppingCauses l head).isEmpty = false) : ((s.handTopping l).line l).state = .topping := by
  obtain ⟨head, topping⟩ := s.recompute_topping l (by simp [delivering])
  have empty : ((s.recompute l).line l).topping.isEmpty = false := by rw [topping, caused]
  simp [Device.handTopping, delivering, empty]

/-- With a cause, or outside DELIVERING and TOPPING, a line that does not deliver stays. -/
theorem Device.handTopping_state (s : Device) (l : Line) (stays : (s.line l).state ≠ .delivering)
    (caused : (s.line l).state = .topping → ∀ head, (s.toppingCauses l head).isEmpty = false) :
    s.handTopping l = s.recompute l := by
  unfold Device.handTopping
  dsimp only
  rw [(s.recompute_context l).1]
  split
  case h_1 delivering => exact absurd delivering stays
  case h_2 at_topping =>
    obtain ⟨head, topping⟩ := s.recompute_topping l (by simp [at_topping])
    rw [if_neg (by rw [topping, caused at_topping]; exact Bool.false_ne_true)]
  case h_3 => rfl

theorem Device.recompute_shipSilent (s : Device) (l : Line) (busy : (s.line l).state ≠ .free) :
    ((s.recompute l).line l).topping.shipSilent = decide ((s.recompute l).link.state = .silent) := by
  obtain ⟨head, topping⟩ := s.recompute_topping l busy
  rw [topping, s.toppingCauses_shipSilent]
  simp

theorem Device.enterState_shipSilent (s : Device) (l : Line) (st : LineState) (p : Step) (c : ReportCause)
    (busy : st ≠ .free) : ((s.enterState l st p c).line l).topping.shipSilent =
      decide ((s.enterState l st p c).link.state = .silent) := by
  have entered := (s.enterState_context l st p c).1
  rw [Device.enterState_eq] at entered ⊢
  rw [(Device.recompute_context _ l).1] at entered
  exact Device.recompute_shipSilent _ l (by rw [entered]; exact busy)

/-- A line that is not FREE ends with the cause SHIP_SILENT while the link is SILENT. -/
theorem Device.handTopping_shipSilent (s : Device) (l : Line) (silent : s.link.state = .silent)
    (busy : (s.line l).state ≠ .free) : ((s.handTopping l).line l).topping.shipSilent = true := by
  have caused (head : Option Nat) : (s.toppingCauses l head).isEmpty = false := by
    simp [ToppingSet.isEmpty, s.toppingCauses_shipSilent, silent]
  have link := s.handTopping_link l
  by_cases delivering : (s.line l).state = .delivering
  · have enters : s.handTopping l = (s.recompute l).enterState l .topping .none .none := by
      obtain ⟨head, topping⟩ := s.recompute_topping l busy
      have empty : ((s.recompute l).line l).topping.isEmpty = false := by rw [topping, caused]
      simp [Device.handTopping, delivering, empty]
    rw [enters] at link ⊢
    rw [Device.enterState_shipSilent _ l _ _ _ (by simp), link]
    simp [silent]
  · rw [s.handTopping_state l delivering (fun _ => caused)] at link ⊢
    rw [s.recompute_shipSilent l busy, link]
    simp [silent]

/-! ## Silence and loss of the ship (R144, R145) -/

/-- What the watch of the ship holds of the link, which no handing touches. -/
def Link.SameWatch (k j : Link) : Prop :=
  j.state = k.state ∧ j.silenceExpiry = k.silenceExpiry ∧ j.lossExpiry = k.lossExpiry ∧ j.status = k.status ∧
    j.lastStatus = k.lastStatus

theorem Link.SameWatch.refl (k : Link) : k.SameWatch k := ⟨rfl, rfl, rfl, rfl, rfl⟩

theorem Link.SameWatch.trans {i j k : Link} (h : i.SameWatch j) (h' : j.SameWatch k) : i.SameWatch k := by
  obtain ⟨state, silence, loss, status, last⟩ := h
  obtain ⟨state', silence', loss', status', last'⟩ := h'
  exact ⟨state'.trans state, silence'.trans silence, loss'.trans loss, status'.trans status, last'.trans last⟩

theorem Link.handing_sameWatch (k : Link) (m : Mode) (b : List Byte) (q : List SendEntry) : k.SameWatch (k.handing m b q) := by
  unfold Link.handing
  split
  · exact ⟨rfl, rfl, rfl, rfl, rfl⟩
  · split
    · exact ⟨rfl, rfl, rfl, rfl, rfl⟩
    · split <;> exact ⟨rfl, rfl, rfl, rfl, rfl⟩

theorem Device.stopTrigger_sameWatch (s : Device) (l : Line) (c : Cause) (b : Bool) :
    s.link.SameWatch (s.stopTrigger l c b).link := by
  rw [s.stopTrigger_link l c b]
  split
  · exact s.link.handing_sameWatch _ _ _
  · exact .refl _

theorem Device.stopActive_sameWatch (s : Device) (c : Cause) : s.link.SameWatch (s.stopActive c).link := by
  have one (l : Line) (d : Device) : d.link.SameWatch (if (d.line l).state.active then d.stopTrigger l c false else d).link := by
    split
    · exact d.stopTrigger_sameWatch l c false
    · exact .refl _
  exact ((one .l1 s).trans (one .l2 _)).trans (one .l3 _)

theorem Device.handTopping_nodes (s : Device) (l : Line) : (s.handTopping l).nodes = s.nodes := by
  unfold Device.handTopping
  dsimp only
  split
  · split
    · simp
    · rw [(Device.enterState_nodes _ l .topping _ _ (by simp)).1]
      simp
  · split
    · rw [(Device.enterState_nodes _ l .delivering _ _ (by simp)).1]
      simp
    · simp
  · simp

/-- The topping causes taken by one line, unless it is FREE. -/
def Device.handToppingBusy (s : Device) (l : Line) : Device := if (s.line l).state = .free then s else s.handTopping l

theorem Device.handToppingAll_eq (s : Device) :
    s.handToppingAll = ((s.handToppingBusy .l1).handToppingBusy .l2).handToppingBusy .l3 := rfl

theorem Device.handToppingBusy_other (s : Device) (l m : Line) (h : m ≠ l) : (s.handToppingBusy l).line m = s.line m := by
  unfold Device.handToppingBusy
  split
  · rfl
  · exact (s.handTopping_other l m h).1

theorem Device.handToppingBusy_link (s : Device) (l : Line) : (s.handToppingBusy l).link = s.link := by
  unfold Device.handToppingBusy
  split
  · rfl
  · exact s.handTopping_link l

theorem Device.handToppingBusy_nodes (s : Device) (l : Line) : (s.handToppingBusy l).nodes = s.nodes := by
  unfold Device.handToppingBusy
  split
  · rfl
  · exact s.handTopping_nodes l

theorem Device.handToppingAll_link (s : Device) : s.handToppingAll.link = s.link := by
  simp only [Device.handToppingAll_eq, Device.handToppingBusy_link]

theorem Device.handToppingAll_nodes (s : Device) : s.handToppingAll.nodes = s.nodes := by
  simp only [Device.handToppingAll_eq, Device.handToppingBusy_nodes]

/-- Each line takes its causes as it stands, with the link as it is. -/
theorem Device.handToppingAll_at (s : Device) (l : Line) :
    ∃ d : Device, d.link = s.link ∧ d.line l = s.line l ∧ s.handToppingAll.line l = (d.handToppingBusy l).line l := by
  rw [Device.handToppingAll_eq]
  cases l with
  | l1 =>
    refine ⟨s, rfl, rfl, ?_⟩
    rw [Device.handToppingBusy_other _ _ _ (by decide), Device.handToppingBusy_other _ _ _ (by decide)]
  | l2 =>
    refine ⟨s.handToppingBusy .l1, s.handToppingBusy_link .l1, s.handToppingBusy_other .l1 .l2 (by decide), ?_⟩
    rw [Device.handToppingBusy_other _ _ _ (by decide)]
  | l3 =>
    refine ⟨(s.handToppingBusy .l1).handToppingBusy .l2, ?_, ?_, rfl⟩
    · rw [Device.handToppingBusy_link, Device.handToppingBusy_link]
    · rw [Device.handToppingBusy_other _ _ _ (by decide), Device.handToppingBusy_other _ _ _ (by decide)]

/-- A line that takes no topping causes, or none of whose causes can move it, keeps the rest of its context. -/
theorem Device.handToppingBusy_idle (s : Device) (l : Line) (delivering : (s.line l).state ≠ .delivering)
    (topping : (s.line l).state ≠ .topping) : ((s.handToppingBusy l).line l).state = (s.line l).state ∧
      ((s.handToppingBusy l).line l).step = (s.line l).step ∧
      ((s.handToppingBusy l).line l).stopCause = (s.line l).stopCause := by
  unfold Device.handToppingBusy
  split
  · exact ⟨rfl, rfl, rfl⟩
  · rw [s.handTopping_state l delivering (fun at_topping => absurd at_topping topping)]
    simp

/-- With the link SILENT a delivering line goes to TOPPING, and no other line moves. -/
theorem Device.handToppingBusy_silent (s : Device) (l : Line) (silent : s.link.state = .silent) :
    ((s.handToppingBusy l).line l).state = if (s.line l).state = .delivering then .topping else (s.line l).state := by
  have caused (head : Option Nat) : (s.toppingCauses l head).isEmpty = false := by
    simp [ToppingSet.isEmpty, s.toppingCauses_shipSilent, silent]
  unfold Device.handToppingBusy
  split
  case isTrue free => simp [free]
  case isFalse =>
    split
    case isTrue delivering => exact s.handTopping_delivering l delivering caused
    case isFalse stays => rw [s.handTopping_state l stays (fun _ => caused), (s.recompute_context l).1]

/-- Settles O46. -/
theorem silenceAndLossOfTheShipAreTaken : Obligations.SilenceAndLossOfTheShipAreTaken := by
  unfold Obligations.SilenceAndLossOfTheShipAreTaken
  refine fun s => ⟨fun active due => ?_, fun silent due => ?_⟩
  · obtain ⟨t, run, mem, device⟩ := s.eventIf_taken Device.shipSilence
      (c := decide (s.device.link.state = .active) && s.device.due s.device.link.silenceExpiry) (by simp [active, due])
    generalize before : (s.device.setLink { s.device.link with state := .silent, silenceExpiry := none }).submit .shipSilent 0 0
      (.link .active) (s.device.link.lastStatus.getD 0) 0 = d
    have link : d.link = { s.device.link with state := .silent, silenceExpiry := none } := by simp [← before]
    have line (l : Line) : d.line l = s.device.line l := by simp [← before]
    have taken : s.device.shipSilence = d.handToppingAll := by rw [← before]; rfl
    refine ⟨t, run, mem, ?_⟩
    rw [device, taken]
    simp only [Device.finish_keeps, Device.finish_reads, Device.handToppingAll_link, Device.handToppingAll_nodes, link]
    refine ⟨trivial, trivial, trivial, trivial, trivial, fun l => ?_, fun l busy => ?_, ?_⟩
    · obtain ⟨e, link', line', all⟩ := d.handToppingAll_at l
      have moved := e.handToppingBusy_silent l (by rw [link', link])
      rw [all, moved, line', line]
    · obtain ⟨e, link', line', all⟩ := d.handToppingAll_at l
      have busy' : (e.line l).state ≠ .free := by rw [line', line]; exact busy
      have caused := e.handTopping_shipSilent l (by rw [link', link]) busy'
      simpa [all, Device.handToppingBusy, busy'] using caused
    · simp [← before, Device.SameStation, Device.SameClock, Device.SameRing]
  · obtain ⟨t, run, mem, device⟩ := s.eventIf_taken Device.shipLoss
      (c := decide (s.device.link.state = .silent) && s.device.due s.device.link.lossExpiry) (by simp [silent, due])
    generalize before : ((s.device.setLink { s.device.link with state := .lost, lossExpiry := none }).submit .shipLost 0 0
      (.link .silent) (s.device.link.lastStatus.getD 0) 0).placeReports = d
    have link : d.link = { s.device.link with state := .lost, lossExpiry := none } := by simp [← before]
    have line (l : Line) : d.line l = s.device.line l := by simp [← before]
    have governor (l : Line) : d.governor l = s.device.governor l := by simp [← before]
    have taken : s.device.shipLoss = (d.stopActive .shipLost).handToppingAll := by rw [← before]; rfl
    obtain ⟨state, -, loss, status, -⟩ := d.stopActive_sameWatch .shipLost
    have context (l : Line) : ((d.stopActive .shipLost).handToppingAll.line l).state = ((d.stopActive .shipLost).line l).state ∧
        ((d.stopActive .shipLost).handToppingAll.line l).step = ((d.stopActive .shipLost).line l).step ∧
        ((d.stopActive .shipLost).handToppingAll.line l).stopCause = ((d.stopActive .shipLost).line l).stopCause := by
      obtain ⟨stopped, -⟩ := d.stopActive_lines .shipLost l
      obtain ⟨e, -, line', all⟩ := (d.stopActive .shipLost).handToppingAll_at l
      rw [← line'] at stopped ⊢
      rw [all]
      exact e.handToppingBusy_idle l (fun h => by simp [h, LineState.active] at stopped)
        (fun h => by simp [h, LineState.active] at stopped)
    refine ⟨t, run, mem, ?_⟩
    rw [device, taken]
    simp only [Device.finish_keeps, Device.finish_reads, Device.handToppingAll_link, state, loss, status, link, context]
    refine ⟨trivial, trivial, trivial, fun l => ?_, fun l inactive => ?_, fun l running above => ?_, ?_⟩
    · exact (d.stopActive_lines .shipLost l).1
    · rw [((d.stopActive_lines .shipLost l).2 (by rw [line, inactive])).1, line]
    · obtain ⟨-, stopped⟩ := (d.stopActive_taken .shipLost l).1 (by rw [line, running])
      rw [governor, if_pos above] at stopped
      obtain ⟨state, step, cause, -⟩ := stopped
      exact ⟨state, step, cause⟩
    · simp [← before, Device.SameStation, Device.SameClock, Device.SameRing]

/-! ## Silence, loss and the close deadline of a tank (R55, R56, R59) -/

/-- A release leaves the freshness of a tank and its expiry of loss, and no close deadline of a tank that had none. -/
theorem Tank.releasedFrom_watch (l : Line) (e : Tank) :
    (Tank.releasedFrom l e).freshness = e.freshness ∧ (Tank.releasedFrom l e).lostExpiry = e.lostExpiry ∧
      (e.closeDeadline = none → (Tank.releasedFrom l e).closeDeadline = none) := by
  unfold Tank.releasedFrom
  split
  · exact ⟨rfl, rfl, fun _ => rfl⟩
  · exact ⟨rfl, rfl, id⟩

/-- What a stop trigger leaves of the watch of a tank. -/
theorem Device.stopTrigger_tankWatch (s : Device) (l : Line) (c : Cause) (b : Bool) {k : TankNo} {e : Tank}
    (at_k : s.tank k = some e) :
    ∃ e', (s.stopTrigger l c b).tank k = some e' ∧ e'.freshness = e.freshness ∧ e'.lostExpiry = e.lostExpiry ∧
      (e.closeDeadline = none → e'.closeDeadline = none) := by
  obtain same | released := s.stopTrigger_tank l c b k
  · exact ⟨e, by rw [same, at_k], rfl, rfl, id⟩
  · exact ⟨Tank.releasedFrom l e, by rw [released, at_k, Option.map_some], Tank.releasedFrom_watch l e⟩

/-- Taking the topping causes moves a line between DELIVERING and TOPPING alone, and not its rate. -/
theorem Device.handTopping_running (s : Device) (l : Line) :
    ((s.handTopping l).line l).state.running = (s.line l).state.running ∧
      ((s.handTopping l).governor l).allowed = (s.governor l).allowed := by
  have state := (s.recompute_context l).1
  unfold Device.handTopping
  dsimp only
  split
  case h_1 delivering =>
    rw [state] at delivering
    split <;> simp [delivering, LineState.running, Governor.entering]
  case h_2 topping =>
    rw [state] at topping
    split <;> simp [topping, LineState.running, Governor.entering]
  case h_3 => simp

theorem Device.handToppingOf_assigned (s : Device) {e : Tank} {l : Line} (assigned : e.assigned = some l) :
    s.handToppingOf e = s.handTopping l := by
  rw [Device.handToppingOf, assigned]

theorem Device.handToppingOf_unassigned (s : Device) {e : Tank} {l : Line} (other : e.assigned ≠ some l) :
    (s.handToppingOf e).line l = s.line l := by
  cases assigned : e.assigned with
  | none => rw [Device.handToppingOf, assigned]
  | some m =>
    rw [s.handToppingOf_assigned assigned]
    exact (s.handTopping_other m l (fun h => other (by rw [assigned, h]))).1

theorem Device.handToppingOf_nodes (s : Device) (e : Tank) : (s.handToppingOf e).nodes = s.nodes := by
  cases assigned : e.assigned with
  | none => rw [Device.handToppingOf, assigned]
  | some m => rw [s.handToppingOf_assigned assigned, s.handTopping_nodes m]

/-- The stop of a lost tank's line, where its valve is open (R17, R56). -/
def Device.lostStop (s : Device) (e : Tank) : Device :=
  match e.assigned with
  | none => s
  | some l => if e.openValve then s.stopTrigger l .tankLost false else s

/-- The loss of a tank, before its line is told. -/
def Device.lostTold (s : Device) (k : TankNo) (e : Tank) : Device :=
  ((s.setTank k { e with freshness := .lost, lostExpiry := none }).reportTank k
    { e with freshness := .lost, lostExpiry := none } (.freshness .lost)).handToppingOf
    { e with freshness := .lost, lostExpiry := none }

theorem Device.tankLost_eq (s : Device) (k : TankNo) {e : Tank} (stands : e.freshness ≠ .lost) :
    s.tankLost k e = (s.lostTold k e).lostStop { e with freshness := .lost, lostExpiry := none } := if_neg stands

/-- A loss stops no line but the tank's, and leaves the watch of every tank. -/
theorem Device.lostStop_leaves (s : Device) (e : Tank) :
    (∀ l, e.assigned ≠ some l → (s.lostStop e).line l = s.line l) ∧
      ∀ k, s.tank k = some e → ∃ e', (s.lostStop e).tank k = some e' ∧ e'.freshness = e.freshness ∧
        e'.lostExpiry = e.lostExpiry := by
  unfold Device.lostStop
  split
  case h_1 => exact ⟨fun _ _ => rfl, fun k at_k => ⟨e, at_k, rfl, rfl⟩⟩
  case h_2 m assigned =>
    split
    · refine ⟨fun l other => ?_, fun k at_k => ?_⟩
      · exact (s.stopTrigger_other m .tankLost false l (fun h => other (by rw [h, assigned]))).1
      · obtain ⟨e', stored, freshness, lost, -⟩ := s.stopTrigger_tankWatch m .tankLost false at_k
        exact ⟨e', stored, freshness, lost⟩
    · exact ⟨fun _ _ => rfl, fun k at_k => ⟨e, at_k, rfl, rfl⟩⟩

theorem Device.lostStop_keeps (s : Device) (e : Tank) : (s.lostStop e).stills = s.stills ∧ (s.lostStop e).valves = s.valves ∧
    s.SameStation (s.lostStop e) ∧ (s.lostStop e).charter = s.charter := by
  unfold Device.lostStop
  split
  · simp [Device.SameStation, Device.SameClock, Device.SameRing]
  · split <;> simp [Device.SameStation, Device.SameClock, Device.SameRing]

theorem SameStation.trans {s t u : Device} (h : s.SameStation t) (h' : t.SameStation u) : s.SameStation u := by
  simp_all [Device.SameStation, Device.SameClock, Device.SameRing]

/-- Settles O48: the tank is stored, its line takes its topping causes, and a loss then stops the line. -/
theorem tankExpiriesAreTaken : Obligations.TankExpiriesAreTaken := by
  unfold Obligations.TankExpiriesAreTaken
  refine fun k e s at_k => ⟨fun fresh due => ?_, fun stands due => ?_⟩
  · obtain ⟨t, run, mem, device⟩ := s.eventIf_taken (fun d => d.tankSilent k e) due
    generalize after : ({ e with freshness := .silent, silenceExpiry := none } : Tank) = e'
    have assigned : e'.assigned = e.assigned := by rw [← after]
    have opened : e'.openValve = e.openValve := by rw [← after]; rfl
    have silent : e'.freshness = .silent := by rw [← after]
    generalize told : (s.device.setTank k e').reportTank k e' (.freshness .silent) = d
    have line (l : Line) : d.line l = s.device.line l := by simp [← told]
    have stored : d.tank k = some e' := by simp [← told]
    have taken : s.device.tankSilent k e = d.handToppingOf e' := by
      rw [← told, ← after]
      exact if_pos fresh
    refine ⟨t, by simpa only [exec, execTankSilenceExpiry, at_k] using run, mem, ?_⟩
    rw [device, taken]
    refine ⟨by simpa using stored, fun j other => ?_, fun l at_l opens delivering => ?_, fun l other => ?_, ?_⟩
    · simp [← told, other]
    · simp only [d.handToppingOf_assigned (assigned.trans at_l), Device.finish_reads]
      refine d.handTopping_delivering l (by rw [line, delivering]) (fun head => ?_)
      have caused := d.toppingCauses_tankSilent l head stored (assigned.trans at_l) (by simp [silent]) (opened.trans opens)
      simp [ToppingSet.isEmpty, caused]
    · simp only [Device.finish_reads]
      rw [d.handToppingOf_unassigned (by rw [assigned]; exact other), line]
    · simp only [Device.finish_keeps, Device.handToppingOf_nodes]
      simp [← told, Device.SameStation, Device.SameClock, Device.SameRing]
  · obtain ⟨t, run, mem, device⟩ := s.eventIf_taken (fun d => d.tankLost k e) due
    have taken := s.device.tankLost_eq k stands
    generalize after : ({ e with freshness := .lost, lostExpiry := none } : Tank) = e' at taken
    have assigned : e'.assigned = e.assigned := by rw [← after]
    have opened : e'.openValve = e.openValve := by rw [← after]; rfl
    generalize stored : (s.device.setTank k e').reportTank k e' (.freshness .lost) = a
    have told : s.device.lostTold k e = a.handToppingOf e' := by rw [← stored, ← after]; rfl
    rw [told] at taken
    obtain ⟨others, tank⟩ := (a.handToppingOf e').lostStop_leaves e'
    refine ⟨t, by simpa only [exec, execTankLostExpiry, at_k] using run, mem, ?_⟩
    rw [device, taken]
    refine ⟨?_, fun l other => ?_, fun l at_l opens running above => ?_, ?_⟩
    · obtain ⟨f, at_k', freshness, lost⟩ := tank k (by simp [← stored])
      exact ⟨f, by simpa using at_k', by rw [freshness, ← after], by rw [lost, ← after]⟩
    · simp only [Device.finish_reads]
      rw [others l (by rw [assigned]; exact other), a.handToppingOf_unassigned (by rw [assigned]; exact other), ← stored]
      simp
    · have here := assigned.trans at_l
      have stops : (a.handToppingOf e').lostStop e' = (a.handTopping l).stopTrigger l .tankLost false := by
        rw [a.handToppingOf_assigned here, Device.lostStop, here]
        exact if_pos (opened.trans opens)
      obtain ⟨running', above'⟩ := a.handTopping_running l
      obtain ⟨state, step, cause, -⟩ := (a.handTopping l).stopTrigger_ramped l .tankLost
        (by rw [running', ← stored]; simpa using running) (by rw [above', ← stored]; simpa using above)
      rw [stops]
      exact ⟨state, step, cause⟩
    · obtain ⟨stills, valves, station, charter⟩ := (a.handToppingOf e').lostStop_keeps e'
      have before : s.device.SameStation (a.handToppingOf e') := by
        simp [← stored, Device.SameStation, Device.SameClock, Device.SameRing]
      have finished : ((a.handToppingOf e').lostStop e').SameStation ((a.handToppingOf e').lostStop e').finish := by
        simp [Device.SameStation, Device.SameClock, Device.SameRing]
      have unchanged : a.stills = s.device.stills ∧ a.valves = s.device.valves ∧ a.charter = s.device.charter := by
        simp [← stored]
      refine ⟨?_, ?_, SameStation.trans (SameStation.trans before station) finished, ?_⟩
      · simp [stills, unchanged]
      · simp [valves, unchanged]
      · simp [charter, unchanged]

/-- Settles O49. -/
theorem closeDeadlineStopsTheLine : Obligations.CloseDeadlineStopsTheLine := by
  unfold Obligations.CloseDeadlineStopsTheLine
  intro k e l s at_k due assigned
  obtain ⟨t, run, mem, device⟩ := s.eventIf_taken (fun d => d.closeOverdue k e) due
  generalize stored : s.device.setTank k { e with closeDeadline := none } = a
  have at_k' : a.tank k = some { e with closeDeadline := none } := by simp [← stored]
  have taken : s.device.closeOverdue k e = if e.valve = .closed then a else a.stopTrigger l .closeOverdue false := by
    rw [← stored, Device.closeOverdue, assigned]
  refine ⟨t, by simpa only [exec, execCloseDeadlineExpiry, at_k] using run, mem, ?_⟩
  rw [device, taken]
  by_cases closed : e.valve = .closed
  · rw [if_pos closed]
    refine ⟨⟨_, by simpa using at_k', rfl⟩, fun _ => ⟨by simpa using at_k', ?_⟩, fun notClosed => absurd closed notClosed,
      fun m other => ?_, ?_⟩
    · simp [← stored, Device.SameLines]
    · simp [← stored]
    · simp [← stored, Device.SameStation, Device.SameClock, Device.SameRing]
  · rw [if_neg closed]
    refine ⟨?_, fun h => absurd h closed, fun _ running above => ?_, fun m other => ?_, ?_⟩
    · obtain ⟨e', stored', -, -, deadline⟩ := a.stopTrigger_tankWatch l .closeOverdue false at_k'
      exact ⟨e', by simpa using stored', deadline rfl⟩
    · obtain ⟨state, step, cause, -, -, -, tanks⟩ := a.stopTrigger_ramped l .closeOverdue
        (by rw [← stored]; simpa using running) (by rw [← stored]; simpa using above)
      refine ⟨state, step, cause, ?_, fun j other => ?_, ?_⟩
      · rw [Device.tank_congr _ a k tanks, at_k']
      · rw [Device.tank_congr _ a j tanks, ← stored]
        simp [other]
      · simp [← stored]
    · simp [other, ← stored]
    · simp [← stored, Device.SameStation, Device.SameClock, Device.SameRing]

end Sys2Proof.Machine

/-! SUPPORT. The steps of the rate governor (O50). -/

namespace Sys2Proof.Machine

open Sys2Proof

/-! ## What a rate, a speed and a judgement leave of the governor's items (R35, R40, R42) -/

theorem Device.limits_congr_charter {s t : Device} (h : t.charter = s.charter) (l : Line) : t.limits l = s.limits l := by
  rw [Device.limits, Device.limits, h]

theorem Device.general_congr_charter {s t : Device} (h : t.charter = s.charter) : t.general = s.general := by
  rw [Device.general, Device.general, h]

@[simp] theorem Device.setGovernor_limits (s : Device) (l m : Line) (g : Governor) : (s.setGovernor l g).limits m = s.limits m :=
  rfl

/-- The rate-low flag follows the rate (R42). -/
theorem Device.judgeRateLow_governor (s : Device) (l : Line) : (s.judgeRateLow l).governor l =
    { s.governor l with rateLow := decide ((s.governor l).allowed < (s.limits l).lowThreshold) } := by
  have same (b : Bool) (flag : (s.governor l).rateLow = b) : s.governor l = { s.governor l with rateLow := b } := by
    rw [← flag]
  unfold Device.judgeRateLow
  dsimp only
  split
  case isTrue low =>
    rw [decide_eq_true low]
    split
    case isTrue flag => exact same _ flag
    case isFalse => simp
  case isFalse high =>
    rw [decide_eq_false high]
    split
    case isTrue => simp
    case isFalse flag => exact same _ (by simpa using flag)

theorem Device.claimSpeed_governor (s : Device) (l : Line) (v : Nat) :
    (s.claimSpeed l v).governor l = { s.governor l with lastSpeed := v, reclaim := false } := by
  simp [Device.claimSpeed]

/-- A speed is recorded whether or not R40 claims it. -/
theorem Device.claimIfChanged_governor (s : Device) (l : Line) (v : Nat) :
    (s.claimIfChanged l v).governor l = { s.governor l with lastSpeed := v, reclaim := false } := by
  unfold Device.claimIfChanged
  split
  case isTrue => exact s.claimSpeed_governor l v
  case isFalse unchanged =>
    obtain ⟨speed, reclaim⟩ : v = (s.governor l).lastSpeed ∧ (s.governor l).reclaim = false := by simpa using unchanged
    rw [speed, ← reclaim]

/-- The governor's items after the rate is applied (R35, R40, R42). -/
theorem Device.applyRate_governor (s : Device) (l : Line) : (s.applyRate l).governor l =
    { s.governor l with
      lastSpeed := speedFor (s.governor l).allowed (s.limits l).peak, reclaim := false,
      rateLow := decide ((s.governor l).allowed < (s.limits l).lowThreshold) } := by
  have limits : (s.claimIfChanged l (speedFor (s.governor l).allowed (s.limits l).peak)).limits l = s.limits l :=
    Device.limits_congr_charter (by simp) l
  simp only [Device.applyRate, Device.judgeRateLow_governor, Device.claimIfChanged_governor, limits]

theorem Device.nextStep_governor (s : Device) (l : Line) (due : Time) : (s.nextStep l due).governor l =
    { s.governor l with expiry := some (due + BitVec.ofNat 32 s.general.governorPeriod) } := by
  simp [Device.nextStep]

theorem Device.deliveryStep_governor (s : Device) (l : Line) (rate : Nat)
    (governed : governed (s.limits l) (s.governor l).allowed (s.ceilingOf l) (s.reduceIndication l) = rate) :
    (s.deliveryStep l).governor l =
      { s.governor l with
        ceiling := s.ceilingOf l, allowed := rate, lastSpeed := speedFor rate (s.limits l).peak, reclaim := false,
        rateLow := decide (rate < (s.limits l).lowThreshold) } := by
  rw [Device.deliveryStep, Device.applyRate_governor]
  simp [governed]

theorem Device.rampStep_governor (s : Device) (l : Line) : (s.rampStep l).governor l =
    { s.governor l with
      allowed := s.rampRate l, lastSpeed := speedFor (s.rampRate l) (s.limits l).peak, reclaim := false,
      rateLow := decide (s.rampRate l < (s.limits l).lowThreshold) } := by
  rw [Device.rampStep, Device.applyRate_governor]
  simp

theorem Device.rampEnd_governor (s : Device) (l : Line) : (s.rampEnd l).governor l =
    { s.governor l with
      allowed := 0, lastSpeed := 0, reclaim := false, expiry := none, rateLow := decide (0 < (s.limits l).lowThreshold) } := by
  have limits : ((s.setGovernor l { s.governor l with allowed := 0 }).claimSpeed l 0).limits l = s.limits l :=
    Device.limits_congr_charter (by simp) l
  simp [Device.rampEnd, Device.judgeRateLow_governor, Device.claimSpeed_governor, limits]

theorem atLeast1_eq_max (n : Nat) : atLeast1 n = max 1 n := by
  unfold atLeast1
  split <;> omega

/-- The step of R35 in the terms of the limits. -/
theorem governed_eq (lim : Limits) (a c : Nat) (reduce : Bool) : governed lim a c reduce =
    if c < a then
      if reduce = true then min (max c (a - max 1 (lim.peak * lim.fallLimit / 64)))
        (max lim.floor (a - max 1 (a * lim.cutFraction / 16)))
      else max c (a - max 1 (lim.peak * lim.fallLimit / 64))
    else if reduce = true then max lim.floor (a - max 1 (a * lim.cutFraction / 16))
    else min c (a + max 1 (lim.peak * lim.riseStep / 64)) := by
  simp only [governed, Limits.fall, Limits.cut, Limits.rise, atLeast1_eq_max]

theorem Device.rampRate_eq (s : Device) (l : Line) : s.rampRate l =
    max (s.limits l).floor ((s.governor l).allowed - max 1 ((s.limits l).peak * (s.limits l).fallLimit / 64)) := by
  rw [Device.rampRate, Limits.fall, atLeast1_eq_max]

/-! ## The claim of a speed on the pump (R36, R38, R40) -/

/-- A speed claimed: the pump is busy then, carries it when it was idle, and no other node is touched. -/
theorem Device.claimSpeed_pump (s : Device) (l : Line) (v : Nat) {n : NodeNo} (pump : s.deviceOf l .pump = some n) :
    ((s.claimSpeed l v).node n).idle = false ∧
      ((s.node n).idle = true →
        ((s.claimSpeed l v).node n).inFlight = some ⟨.speed v, .sequence, .send, 0, s.time, none, none⟩) ∧
      ∀ m, m ≠ n → (s.claimSpeed l v).node m = s.node m := by
  have nodes : (s.claimSpeed l v).nodes = (s.claim n ⟨.speed v, .sequence⟩).nodes := by
    simp [Device.claimSpeed, Device.claimPump, pump]
  have node (m : NodeNo) := Device.node_congr _ _ m nodes
  refine ⟨by rw [node, s.claim_busy n], fun idle => ?_, fun m other => ?_⟩
  · rw [node]
    exact s.claim_idle n _ idle
  · rw [node]
    exact s.claim_node n m _ other

/-- The end of the ramp claims SPEED 0. -/
theorem Device.rampEnd_pump (s : Device) (l : Line) {n : NodeNo} (pump : s.deviceOf l .pump = some n) :
    ((s.rampEnd l).node n).idle = false ∧
      ((s.node n).idle = true →
        ((s.rampEnd l).node n).inFlight = some ⟨.speed 0, .sequence, .send, 0, s.time, none, none⟩) ∧
      ∀ m, m ≠ n → (s.rampEnd l).node m = s.node m := by
  have claimed := (s.setGovernor l { s.governor l with allowed := 0 }).claimSpeed_pump l 0 (n := n) (by rw [← pump]; rfl)
  have nodes : (s.rampEnd l).nodes = ((s.setGovernor l { s.governor l with allowed := 0 }).claimSpeed l 0).nodes := by
    simp [Device.rampEnd]
  have node (m : NodeNo) := Device.node_congr _ _ m nodes
  simp only [node]
  simpa using claimed

/-- The pump has the SPEED 0 then, so the line waits for its end. -/
theorem Device.finishRamp_waits (s : Device) (l : Line) {n : NodeNo} (pump : s.deviceOf l .pump = some n) :
    s.finishRamp l = ((s.rampEnd l).setStep l .pumpStopping).setDeadline l (s.secondsOn (s.limits l).pumpStop) := by
  obtain ⟨busy, -⟩ := s.rampEnd_pump l pump
  have device : (s.rampEnd l).deviceOf l .pump = some n := by
    rw [← pump]
    exact s.deviceOf_congr _ (s.sameSettings_of_stills _ (by simp)) l .pump
  have waits := (s.rampEnd l).enterPumpStopping_waits l (by rw [device]; exact busy)
  have limits : (s.rampEnd l).limits l = s.limits l := Device.limits_congr_charter (by simp) l
  have seconds (n : Nat) : (s.rampEnd l).secondsOn n = s.secondsOn n := by simp [Device.secondsOn]
  rw [Device.finishRamp, waits, limits, seconds]

/-! ## The steps (R31) -/

/-- Settles O50. -/
theorem governorStepsMoveTheRate : Obligations.GovernorStepsMoveTheRate := by
  unfold Obligations.GovernorStepsMoveTheRate
  refine ⟨?_, ?_⟩
  · intro l due a c peak floor rise fall cut s expiry reached ha hc hpeak hfloor hrise hfall hcut rate moves
    obtain ⟨t, run, mem, device⟩ := s.eventIf_taken (fun d => d.governorStep l due) reached
    refine ⟨t, by simpa only [exec, execGovernorStep, expiry] using run, mem, ?_⟩
    obtain ⟨delivers, governs⟩ | ⟨stops, above, ramps, landed⟩ := moves
    · have step : s.device.governorStep l due = (s.device.deliveryStep l).nextStep l due := by
        obtain delivering | topping := delivers
        · simp only [Device.governorStep, delivering]
        · simp only [Device.governorStep, topping]
      have notStopping : (s.device.line l).state ≠ .stopping := fun h => by simp [h] at delivers
      subst ha hc hpeak hfloor hrise hfall hcut
      have governor := s.device.deliveryStep_governor l rate (by rw [governed_eq, governs])
      have general := Device.general_congr_charter (s := s.device) (t := s.device.deliveryStep l) (by simp)
      have others : s.device.SameOtherLines l ((s.device.deliveryStep l).nextStep l due).finish :=
        fun m other => by simp [other]
      rw [device, step]
      simpa [Device.nextStep_governor, governor, general, notStopping, Device.SameStation, Device.SameClock,
        Device.SameRing] using others
    · subst ha hc hpeak hfloor hrise hfall hcut
      have rate' : s.device.rampRate l = rate := by rw [ramps, s.device.rampRate_eq l]
      have continues : s.device.rampEnds l = false := by
        rw [Bool.eq_false_iff]
        intro ends
        obtain below | ⟨zero, claims⟩ := (s.device.rampEnds_iff l).mp ends
        · omega
        · obtain ⟨speed, reclaim⟩ := landed (by rw [← rate', zero])
          simp [speed, reclaim] at claims
      have step : s.device.governorStep l due = (s.device.rampStep l).nextStep l due := by
        simp only [Device.governorStep, stops, continues, Bool.false_eq_true, if_false]
      have governor := s.device.rampStep_governor l
      have general := Device.general_congr_charter (s := s.device) (t := s.device.rampStep l) (by simp)
      have others : s.device.SameOtherLines l ((s.device.rampStep l).nextStep l due).finish := fun m other => by simp [other]
      rw [device, step]
      simpa [Device.nextStep_governor, governor, general, stops, rate', Device.SameStation, Device.SameClock,
        Device.SameRing] using others
  · intro l due n fall s expiry reached pump hfall
    obtain ⟨t, run, mem, device⟩ := s.eventIf_taken (fun d => d.governorStep l due) reached
    refine ⟨fun stops ends => ?_, fun priming => ?_⟩
    · have ends' : s.device.rampEnds l = true := by
        refine (s.device.rampEnds_iff l).mpr (ends.imp_right fun ⟨floor, low, claims⟩ => ⟨?_, claims⟩)
        rw [s.device.rampRate_eq l, ← hfall]
        omega
      have step : s.device.governorStep l due = s.device.finishRamp l := by
        simp only [Device.governorStep, stops, ends', if_true]
      refine ⟨t, by simpa only [exec, execGovernorStep, expiry] using run, mem, ?_⟩
      obtain ⟨-, claimed, others⟩ := s.device.rampEnd_pump l pump
      have otherLines : s.device.SameOtherLines l (s.device.finishRamp l).finish := fun m other => by simp [other]
      rw [device, step]
      rw [s.device.finishRamp_waits l pump] at otherLines ⊢
      refine ⟨?_, ?_, ?_, ?_, otherLines, ?_, ?_⟩
      · simp [Device.setStep, Device.setDeadline, s.device.rampEnd_governor l]
      · simp [Device.setStep, Device.setDeadline]
      · simpa [Device.setStep, Device.setDeadline] using claimed
      · simp [Device.setStep, Device.setDeadline]
      · simpa [Device.setStep, Device.setDeadline] using others
      · simp [Device.setStep, Device.setDeadline, Device.SameStation, Device.SameClock, Device.SameRing]
    · refine ⟨t, by simpa only [exec, execGovernorStep, expiry] using run, mem, ?_⟩
      have step : s.device.governorStep l due = (s.device.primingStep l).nextStep l due := by
        simp only [Device.governorStep, priming]
      have otherLines : s.device.SameOtherLines l ((s.device.primingStep l).nextStep l due).finish :=
        fun m other => by simp [other]
      have general := Device.general_congr_charter (s := s.device) (t := s.device.primingStep l) (by simp)
      rw [device, step]
      by_cases reclaim : (s.device.governor l).reclaim = true
      · have primes : s.device.primingStep l =
            s.device.claimSpeed l (speedFor (s.device.limits l).prime (s.device.limits l).peak) := if_pos reclaim
        obtain ⟨-, claimed, others⟩ := s.device.claimSpeed_pump l (speedFor (s.device.limits l).prime (s.device.limits l).peak) pump
        rw [primes] at otherLines general ⊢
        refine ⟨?_, fun clear => absurd reclaim (by simp [clear]), fun _ => ?_, ?_, ?_, otherLines, ?_, ?_⟩
        · simp [Device.nextStep_governor, Device.claimSpeed_governor, general, reclaim]
        · simpa [Device.nextStep] using claimed
        · simp
        · simp
        · simpa [Device.nextStep] using others
        · simp [Device.SameStation, Device.SameClock, Device.SameRing]
      · have primes : s.device.primingStep l = s.device := if_neg reclaim
        rw [primes] at otherLines ⊢
        refine ⟨?_, fun _ => ?_, fun marked => absurd marked reclaim, ?_, ?_, otherLines, ?_, ?_⟩
        · simp [Device.nextStep_governor, reclaim]
        · simp
        · simp
        · simp
        · simp
        · simp [Device.SameStation, Device.SameClock, Device.SameRing]

end Sys2Proof.Machine

/-! SUPPORT. A valve demand that is taken (O23). -/

namespace Sys2Proof.Machine

open Sys2Proof

/-! ## The targets in force after a claim (R119 to R121) -/

theorem Device.goInFlight_targets (s : Device) (n : NodeNo) (g : Target) (o : Origin) (m : NodeNo) :
    (s.goInFlight n ⟨.move g, o⟩).targets.get m = if m = n then ⟨g, false⟩ else s.targets.get m := by
  have noted (d : Device) : (d.noteEntered n).targets = d.targets := by simp
  rw [Device.goInFlight, noted, Device.takeTarget]
  simp

theorem Device.displaceQueued_targets (s : Device) (n : NodeNo) (o : Origin) : (s.displaceQueued n o).targets = s.targets := by
  simp

/-- A STATION MOVE claim gives the target in force when it goes in flight, which it does with both slots empty. -/
theorem Device.claim_stationTargets (s : Device) (n : NodeNo) (g : Target) (m : NodeNo)
    (waits : (s.node n).inFlight = none → (s.node n).queued = none) :
    (s.claim n ⟨.move g, .station⟩).targets.get m =
      if m = n ∧ (s.node n).inFlight = none then ⟨g, false⟩ else s.targets.get m := by
  cases flying : (s.node n).inFlight with
  | none =>
    have none : (s.node n).queuedEsd = false := by simp [Node.queuedEsd, waits flying]
    have fate : claimFate (s.node n) ⟨.move g, .station⟩ = .start := by simp [claimFate, flying, none]
    rw [Device.claim, fate]
    simp [Device.goInFlight_targets]
  | some x =>
    have fate : claimFate (s.node n) ⟨.move g, .station⟩ = .drop ∨ claimFate (s.node n) ⟨.move g, .station⟩ = .merge ∨
        claimFate (s.node n) ⟨.move g, .station⟩ = .queue := by
      simp only [claimFate, flying]
      repeat' split
      all_goals simp_all
    rw [if_neg (by simp)]
    obtain drop | merge | queue := fate
    · simp [Device.claim, drop, Device.reportDropped]
    · simp [Device.claim, merge]
    · simp [Device.claim, queue]

/-! ## The demand (R170) -/

/-- Settles O23. -/
theorem valveDemandIsTaken : Obligations.ValveDemandIsTaken := by
  unfold Obligations.ValveDemandIsTaken
  intro l r v n g s wf free watch fitted idle value valve waits target
  have room := valveOffset_room l r
  generalize counted : s.device.countGrant = d
  have before : s.device.alike d := by simp [← counted, Device.alike, Device.SamePlant, Device.SameLines]
  have strap : s.device.strap = d.strap := by simp [← counted]
  have node (m : NodeNo) : d.node m = s.device.node m := by simp [← counted]
  have valve' : d.valveOf l r = some n := by rw [← valve, ← counted]; simp [Device.valveOf]
  have refusal : d.valveRefusal l v = none := by
    have fitted' : (d.line l).fitted = true := by simpa [← counted] using fitted
    have idle' : (d.line l).state = .free := by simpa [← counted] using idle
    obtain zero | ⟨hundred, clear⟩ := value
    · simp [Device.valveRefusal, fitted', idle', zero]
    · have clear' : d.shutdown.latch = false := by simpa [← counted] using clear
      simp [Device.valveRefusal, fitted', idle', hundred, clear']
  have claims : d.claimValve l r g .station = d.claim n ⟨.move g, .station⟩ := by rw [Device.claimValve, valve']
  have accepts : ∃ b, d.acceptValve l r v = (d.claimValve l r g .station).markValves b := by
    rw [target]
    exact ⟨_, rfl⟩
  obtain ⟨b, accepts⟩ := accepts
  have judged : d.judgeWrite (fullWrite s.device.strap (valveOffset l r) v) =
      ⟨(d.claimValve l r g .station).markValves b, .pass, 0⟩ := by
    rw [strap, Device.judgeWrite_watch v (by simpa [← counted] using watch) room, areaOf_valve]
    simp [Device.judgeInWatch, Device.judgeFull, fullWrite, Device.valveWrite, refusal, Judgement.passed, accepts]
  rw [← counted] at judged
  obtain ⟨t, next, device, mem⟩ := State.access_write free rfl judged
  rw [counted] at device
  have after : (d.claimValve l r g .station).alike t.device := by
    simp [device, Device.alike, Device.SamePlant, Device.SameLines]
  have targets (m : NodeNo) := d.claim_stationTargets n g m (by rw [node]; exact waits)
  have kept : t.device.targets = (d.claim n ⟨.move g, .station⟩).targets := by simp [device, claims]
  refine ⟨t, next, ?_, by simp [device], ?_, fun flow => ?_, ?_, fun m other => ⟨?_, ?_⟩, ?_⟩
  · rw [mem]
    exact storesOnly_fullWrite v wf room
  · exact before.symm.moveClaimed after (d.claimValve_claimed l r g .station)
  · obtain ⟨usable, empty, -⟩ := id flow
    have reports : d.reports = s.device.reports := by simp [← counted]
    have told := d.claimValve_told l r g .station (by rw [reports, usable]) (by rw [reports, empty]; simp)
    have tells : Device.Tells 2 s.device (((d.claimValve l r g .station).markValves b).reply .pass 0) :=
      ((Device.Tells.of_same reports).trans (d.claimValve_tells l r g .station)).of_reports _ (by simp)
    rw [device]
    refine tells.claimReported (by omega) (by simp [reports]) flow ?_
    rw [← valve']
    exact Device.claimsTold_of told (fun m _ => (node m).symm) before.1.symm (by simp)
  · rw [kept, targets, node]
    simp [← counted]
  · rw [Device.node_congr _ _ m after.nodes, claims, d.claim_node n m _ other, node]
  · rw [kept, targets, if_neg (fun h => other h.1)]
    simp [← counted]
  · simp [device, ← counted, Device.SameLines, Device.SameClock, Device.SameRing]

end Sys2Proof.Machine

/-! SUPPORT. The start of a deck bus frame (O39). -/

namespace Sys2Proof.Machine

open Sys2Proof

theorem allNodes_ascending : allNodes.Pairwise (· < ·) := by decide

/-- The frame's first slot is that of the lowest enrolled node. -/
theorem Device.firstEnrolled (s : Device) (n : NodeNo) (enrolled : (s.node n).enrolled = true)
    (lowest : ∀ m, m < n → (s.node m).enrolled = false) : allNodes.find? (fun m => (s.node m).enrolled) = some n := by
  obtain ⟨before, after, split⟩ := List.append_of_mem (mem_allNodes n)
  refine List.find?_eq_some_iff_append.mpr ⟨enrolled, before, after, split, fun m member => ?_⟩
  have ascending := allNodes_ascending
  rw [split, List.pairwise_append] at ascending
  rw [lowest m (ascending.2.2 m member n (by simp)), Bool.not_false]

/-- A frame that starts takes its start time, drops the start held and the idle scan, and runs its first slot (R104, R116). -/
theorem Device.startFrame_bus (s : Device) (n : NodeNo) (enrolled : (s.node n).enrolled = true)
    (lowest : ∀ m, m < n → (s.node m).enrolled = false) : s.startFrame =
      { s with bus := { s.bus with
        lastStart := some ⟨s.time, s.half⟩, startHeld := false, startDue := false, idleScan := none,
        slot := some ⟨n, messageOf (s.node n).inFlight, false⟩ } } := by
  unfold Device.startFrame
  have first := Device.firstEnrolled { s with bus := { s.bus with
    lastStart := some ⟨s.time, s.half⟩, startHeld := false, startDue := false, idleScan := none } } n enrolled lowest
  dsimp only
  rw [first]
  rfl

/-- While a slot is in progress the end of an event changes the bus mode alone (R113, R114). -/
theorem Device.finish_slot (s : Device) (running : s.bus.slot ≠ none) :
    s.finish.bus.slot = s.bus.slot ∧ s.finish.bus.lastStart = s.bus.lastStart ∧
      s.finish.bus.startHeld = s.bus.startHeld ∧ s.finish.bus.idleScan = s.bus.idleScan := by
  have mode : s.takeBusMode.bus = { s.bus with mode := s.wantedBusMode } := by
    unfold Device.takeBusMode
    dsimp only
    split
    case isTrue same => rw [same]
    case isFalse =>
      rw [if_neg (fun h => running h.2.2)]
      rfl
  have due : s.takeBusMode.startDueFrame = s.takeBusMode := if_neg (fun h => running (by rw [mode] at h; exact h.2))
  have bus : s.finish.bus = s.takeBusMode.bus := by
    rw [Device.finish, due]
    simp
  rw [bus, mode]
  exact ⟨rfl, rfl, rfl, rfl⟩

/-- Each cause starts the frame at the spacing. -/
theorem Device.frameStarts (s : Device) (watch : s.charter.mode = .watch) (free : s.bus.slot = none)
    (spaced : s.spaced = true) :
    (s.bus.startHeld = true ∨ s.bus.mode = .steady ∨ s.bus.tail = .long → s.frameStart = s.startFrame) ∧
      (s.bus.tail = .short → s.due s.bus.idleScan = true → s.idleScanExpired = s.startFrame) ∧
      (s.bus.tail = .short → s.busPull = s.startFrame) := by
  refine ⟨fun awaited => ?_, fun short due => ?_, fun short => ?_⟩
  · have awaits : s.frameAwaited = true := by simpa [Device.frameAwaited, watch, free, or_assoc] using awaited
    rw [Device.frameStart, awaits, spaced]
    rfl
  · have rests : s.resting = true := by simp [Device.resting, watch, free, short]
    simp [Device.idleScanExpired, rests, due, Device.requestFrame, spaced]
  · have rests : s.resting = true := by simp [Device.resting, watch, free, short]
    simp [Device.busPull, rests, Device.requestFrame, spaced]

/-- Settles O39. -/
theorem framesStart : Obligations.FramesStart := by
  unfold Obligations.FramesStart
  intro n s watch free spaced enrolled lowest c named
  obtain ⟨awaited, expired, pulled⟩ := s.device.frameStarts watch free spaced
  have event : ∃ t, exec c s = .next t ∧ t.mem = s.mem ∧ t.device = s.device.startFrame.finish := by
    obtain ⟨rfl, cause⟩ | ⟨rfl, short, due⟩ | ⟨rfl, short⟩ := named
    · obtain ⟨t, run, mem, device⟩ := s.event_taken Device.frameStart
      exact ⟨t, run, mem, by rw [device, awaited cause]⟩
    · obtain ⟨t, run, mem, device⟩ := s.event_taken Device.idleScanExpired
      exact ⟨t, run, mem, by rw [device, expired short due]⟩
    · obtain ⟨t, run, mem, device⟩ := s.event_taken Device.busPull
      exact ⟨t, run, mem, by rw [device, pulled short]⟩
  obtain ⟨t, run, mem, device⟩ := event
  obtain ⟨slot, start, held, scan⟩ := s.device.startFrame.finish_slot (by simp [s.device.startFrame_bus n enrolled lowest])
  refine ⟨t, run, mem, ?_⟩
  rw [device, slot, start, held, scan, s.device.startFrame_bus n enrolled lowest]
  simp [Device.SamePlant, Device.SameLines, Device.SameStation, Device.SameClock, Device.SameRing]

end Sys2Proof.Machine

/-! SUPPORT. An OPEN that is accepted (O34). -/

namespace Sys2Proof.Machine

open Sys2Proof

/-! ## The assignment of a plan's tanks (R65) -/

/-- A tank as it stands assigned to a line: no advice, its state from its level. -/
def Device.assignedTank (s : Device) (l : Line) (e : Tank) : Tank :=
  { e with assigned := some l, advice := .none, state := e.levelState (some (s.limits l).toppingVolume) }

/-- An assignment leaves what a level state is judged by. -/
theorem Device.assignedTank_levelState (s : Device) (l : Line) (e : Tank) :
    (s.assignedTank l e).levelState (some (s.limits l).toppingVolume) = e.levelState (some (s.limits l).toppingVolume) := by
  cases volume : e.volume <;> simp only [Tank.levelState, Device.assignedTank, volume] <;> rfl

theorem Device.assignTank_present (s : Device) (l : Line) (t : TankNo) {e : Tank} (present : s.tank t = some e) (k : TankNo) :
    (s.assignTank l t).tank k = if k = t then some (s.assignedTank l e) else s.tank k := by
  have level : ({ e with assigned := some l, advice := .none } : Tank).levelState (some (s.limits l).toppingVolume) =
      e.levelState (some (s.limits l).toppingVolume) := rfl
  simp only [Device.assignTank, present, Device.restate, Device.toppingVolumeOf, level]
  split <;> simp [Device.assignedTank]

theorem Device.assignTank_absent (s : Device) (l : Line) (t : TankNo) (absent : s.tank t = none) : s.assignTank l t = s := by
  rw [Device.assignTank, absent]

/-- Every tank of a line is below HIGH, and so is every listed tank at its level. -/
def Device.belowHigh (s : Device) (l : Line) (ts : List TankNo) : Prop :=
  ∀ k e, s.tank k = some e →
    (e.assigned = some l → e.state ≠ .high ∧ e.state ≠ .overfill) ∧
    (k ∈ ts → e.levelState (some (s.limits l).toppingVolume) ≠ .high ∧
      e.levelState (some (s.limits l).toppingVolume) ≠ .overfill)

/-- Assigning a listed tank that is not HIGH at its level leaves every tank of the line below HIGH. -/
theorem Device.assignTank_belowHigh (s : Device) (l : Line) (t : TankNo) (ts : List TankNo) (low : s.belowHigh l ts)
    (listed : t ∈ ts) : (s.assignTank l t).belowHigh l ts := by
  cases present : s.tank t with
  | none => rwa [s.assignTank_absent l t present]
  | some e =>
    have limits : (s.assignTank l t).limits l = s.limits l := Device.limits_congr_charter (by simp) l
    intro k f stored
    rw [s.assignTank_present l t present] at stored
    rw [limits]
    split at stored
    case isTrue at_t =>
      cases stored
      have level := (low t e present).2 listed
      refine ⟨fun _ => level, fun _ => ?_⟩
      rw [s.assignedTank_levelState l e]
      exact level
    case isFalse => exact low k f stored

/-- The tanks of a list are all assigned to a line. -/
def Device.holdsTanks (s : Device) (l : Line) (ts : List TankNo) : Prop :=
  ∀ k ∈ ts, s.tankHas k (fun e => decide (e.assigned = some l)) = true

theorem Device.assignTank_holds (s : Device) (l : Line) (t k : TankNo)
    (holds : k = t ∧ s.tank t ≠ none ∨ s.tankHas k (fun e => decide (e.assigned = some l)) = true) :
    (s.assignTank l t).tankHas k (fun e => decide (e.assigned = some l)) = true := by
  cases present : s.tank t with
  | none =>
    rw [s.assignTank_absent l t present]
    exact holds.resolve_left fun h => h.2 present
  | some e =>
    by_cases here : k = t
    · simp [Device.tankHas, s.assignTank_present l t present, here, Device.assignedTank]
    · simpa [Device.tankHas, s.assignTank_present l t present, here] using holds

/-- The fold of R65 over listed tanks. -/
theorem Device.assignTank_fold (s : Device) (l : Line) (all ts : List TankNo) (low : s.belowHigh l all)
    (listed : ∀ t ∈ ts, t ∈ all) (present : ∀ t ∈ ts, s.tank t ≠ none) (done : List TankNo) (held : s.holdsTanks l done) :
    (ts.foldl (fun s t => s.assignTank l t) s).belowHigh l all ∧
      (ts.foldl (fun s t => s.assignTank l t) s).holdsTanks l (done ++ ts) := by
  induction ts generalizing s done with
  | nil => exact ⟨low, by simpa using held⟩
  | cons t ts ih =>
    have here := present t List.mem_cons_self
    have next := ih (s.assignTank l t) (s.assignTank_belowHigh l t all low (listed t List.mem_cons_self))
      (fun u member => listed u (List.mem_cons_of_mem _ member)) (fun u member => ?_) (done ++ [t]) (fun k member => ?_)
    · simpa using next
    · cases at_t : s.tank t with
      | none => exact absurd at_t here
      | some e =>
        rw [s.assignTank_present l t at_t]
        split
        · simp
        · exact present u (List.mem_cons_of_mem _ member)
    · refine s.assignTank_holds l t k ?_
      obtain member | member := List.mem_append.mp member
      · exact .inr (held k member)
      · exact .inl ⟨List.mem_singleton.mp member, here⟩

/-! ## The line effects of tanks below HIGH (R57, R62, R65) -/

/-- A close deadline leaves a tank's assignment and state. -/
theorem Device.setCloseDeadline_tank (s : Device) (t : TankNo) (d : Option Time) (k : TankNo) :
    ((s.setCloseDeadline t d).tank k).map (fun e => (e.assigned, e.state)) = (s.tank k).map (fun e => (e.assigned, e.state)) := by
  unfold Device.setCloseDeadline
  split
  case h_1 => rfl
  case h_2 e present =>
    rw [Device.setTank_tank]
    split
    case isTrue here => rw [here, present]; rfl
    case isFalse => rfl

/-- Advice sent leaves a tank's assignment and state. -/
theorem Device.advise_tank (s : Device) (t : TankNo) (v : Advice) (k : TankNo) :
    ((s.advise t v).tank k).map (fun e => (e.assigned, e.state)) = (s.tank k).map (fun e => (e.assigned, e.state)) := by
  unfold Device.advise
  split
  case h_1 => rfl
  case h_2 e present =>
    simp only [Device.submit_reads, Device.setTank_tank]
    split
    case isTrue here => rw [here, present]; rfl
    case isFalse => simp

/-- The advice and close deadline effects leave a tank's assignment and state. -/
theorem Device.adviseTank_tank (s : Device) (t : TankNo) (old : TankState) (k : TankNo) :
    ((s.adviseTank t old).tank k).map (fun e => (e.assigned, e.state)) = (s.tank k).map (fun e => (e.assigned, e.state)) := by
  unfold Device.adviseTank
  dsimp only
  repeat' split
  all_goals simp only [Device.setCloseDeadline_tank, Device.advise_tank]

/-- An operation that leaves the lines, the nodes, and each tank's assignment and state, as advice does. -/
structure Device.Advises (s t : Device) : Prop where
  lines : s.SameLines t
  nodes : t.nodes = s.nodes
  time : t.time = s.time
  shutdown : t.shutdown = s.shutdown
  tanks : ∀ k, (t.tank k).map (fun e => (e.assigned, e.state)) = (s.tank k).map (fun e => (e.assigned, e.state))

theorem Device.Advises.refl (s : Device) : s.Advises s := ⟨by simp [Device.SameLines], rfl, rfl, rfl, fun _ => rfl⟩

theorem Device.Advises.trans {s t u : Device} (h : s.Advises t) (h' : t.Advises u) : s.Advises u := by
  obtain ⟨lines, memory, governors, hoses, topOffs⟩ := h.lines
  obtain ⟨lines', memory', governors', hoses', topOffs'⟩ := h'.lines
  exact ⟨⟨lines'.trans lines, memory'.trans memory, governors'.trans governors, hoses'.trans hoses, topOffs'.trans topOffs⟩,
    h'.nodes.trans h.nodes, h'.time.trans h.time, h'.shutdown.trans h.shutdown, fun k => (h'.tanks k).trans (h.tanks k)⟩

theorem Device.adviseTank_advises (s : Device) (t : TankNo) (old : TankState) : s.Advises (s.adviseTank t old) :=
  ⟨by simp [Device.SameLines], by simp, by simp, by simp, s.adviseTank_tank t old⟩

/-- What advice leaves of a tank, in both directions. -/
theorem Device.Advises.tankHas {s t : Device} (h : s.Advises t) (k : TankNo) (p : Option Line → TankState → Bool) :
    t.tankHas k (fun e => p e.assigned e.state) = s.tankHas k (fun e => p e.assigned e.state) := by
  have tank := h.tanks k
  unfold Device.tankHas
  cases here : t.tank k <;> cases there : s.tank k <;> simp_all

/-- No tank of a line is HIGH or in OVERFILL. -/
def Device.noneHigh (s : Device) (l : Line) : Prop :=
  ∀ k, s.tankHas k (fun e => decide (e.assigned = some l) && decide (e.state = .high ∨ e.state = .overfill)) = false

theorem Device.Advises.noneHigh {s t : Device} (h : s.Advises t) {l : Line} (low : s.noneHigh l) : t.noneHigh l :=
  fun k => (h.tankHas k (fun a st => decide (a = some l) && decide (st = .high ∨ st = .overfill))).trans (low k)

/-- With no tank of the line HIGH, the effects of the assigned tanks are advice (R65). -/
theorem Device.assignEffects_advises (s : Device) (l : Line) (low : s.noneHigh l) : s.Advises (s.assignEffects l) := by
  have fold (ts : List TankNo) (d : Device) (low : d.noneHigh l)
      (assigned : ∀ t ∈ ts, d.tankHas t (fun e => decide (e.assigned = some l)) = true) :
      d.Advises (ts.foldl (fun s t => s.assignEffect l t) d) := by
    induction ts generalizing d with
    | nil => exact .refl d
    | cons t ts ih =>
      have one : d.Advises (d.assignEffect l t) := by
        unfold Device.assignEffect
        split
        case h_1 => exact .refl d
        case h_2 e present =>
          have below := low t
          have mine := assigned t List.mem_cons_self
          simp only [Device.tankHas, present] at below mine
          split
          case h_1 overfill => simp [overfill, of_decide_eq_true mine] at below
          case h_2 => exact d.adviseTank_advises t .idle
      exact one.trans (ih _ (one.noneHigh low) fun u member =>
        (one.tankHas u (fun a _ => decide (a = some l))).trans (assigned u (List.mem_cons_of_mem _ member)))
  have advised := fold (s.tanksOf l) s low (fun t member => by
    simpa [Device.tankHas] using (List.mem_filter.mp member).2)
  have quiet : ((s.tanksOf l).foldl (fun s t => s.assignEffect l t) s).lastTankHigh l = false := by
    unfold Device.lastTankHigh
    split
    case h_2 => rfl
    case h_1 t only =>
      have mine : t ∈ ((s.tanksOf l).foldl (fun s t => s.assignEffect l t) s).openTanks l := by rw [only]; exact List.mem_singleton_self t
      have assigned := (List.mem_filter.mp (List.mem_filter.mp mine).1).2
      have below := advised.noneHigh low t
      unfold Device.tankHas at below ⊢
      split
      case h_1 => rfl
      case h_2 e present =>
        simp only [present] at assigned below
        simp_all
  rw [Device.assignEffects, Device.checkLastTank, quiet]
  exact advised

/-! ## The claims on entry to LINEUP (R5) -/

/-- A valve's state is read off the settings and the valve states. -/
theorem Device.valveIs_congr (s t : Device) (stills : t.stills = s.stills) (valves : t.valves = s.valves) (l : Line) (r : Role)
    (v : ValveState) : t.valveIs l r v = s.valveIs l r v := by
  unfold Device.valveIs
  rw [s.valveOf_congr t (s.sameSettings_of_stills t stills)]
  cases s.valveOf l r with
  | none => rfl
  | some n =>
    have valve : (t.node n).valve = (s.node n).valve := congrFun valves n
    dsimp only
    rw [valve]

/-- A SEQUENCE claim to close a valve of the line that is not CLOSED. -/
def Device.claimClosed (s : Device) (l : Line) (r : Role) : Device :=
  if s.valveIs l r .closed then s else s.claimValve l r .closed .sequence

@[simp] theorem Device.claimClosed_keeps (s : Device) (l : Line) (r : Role) :
    (s.claimClosed l r).stills = s.stills ∧ (s.claimClosed l r).valves = s.valves ∧ (s.claimClosed l r).time = s.time ∧
      (s.claimClosed l r).lines = s.lines ∧ (s.claimClosed l r).governors = s.governors := by
  unfold Device.claimClosed
  split <;> simp

theorem Device.claimClosed_role (s : Device) (l : Line) (r : Role) (n : NodeNo) (other : (s.node n).role ≠ r) :
    (s.claimClosed l r).node n = s.node n := by
  unfold Device.claimClosed
  split
  · rfl
  · exact s.claimValve_role l r .closed .sequence n (.inr other)

theorem Device.claimClosed_claimed (s : Device) (l : Line) (r : Role) (stands : s.valveIs l r .closed = false) :
    s.moveClaimed (s.claimClosed l r) l r .closed .sequence := by
  rw [Device.claimClosed, stands]
  exact s.claimValve_claimed l r .closed .sequence

/-- With DISCHARGE not OPEN the claims of R5 are those on DISCHARGE, and on RETURN and STRIP where they are not CLOSED. -/
theorem Device.lineupClaims_eq (s : Device) (l : Line) (shut : s.valveIs l .discharge .opened = false) :
    s.lineupClaims l = ((s.claimClosed l .returnValve).claimClosed l .strip).claimValve l .discharge .opened .sequence := by
  have shut' : ((s.claimClosed l .returnValve).claimClosed l .strip).valveIs l .discharge .opened = false := by
    rw [← shut]
    exact s.valveIs_congr _ (by simp) (by simp) l .discharge .opened
  have claims : s.lineupClaims l = if ((s.claimClosed l .returnValve).claimClosed l .strip).valveIs l .discharge .opened then
      ((s.claimClosed l .returnValve).claimClosed l .strip).enterManifoldOpening l
    else ((s.claimClosed l .returnValve).claimClosed l .strip).claimValve l .discharge .opened .sequence := rfl
  rw [claims, shut', if_neg Bool.false_ne_true]

/-- What the claims of R5 leave in the slots of the three valves. -/
theorem Device.lineupClaims_claimed (s : Device) (l : Line) (shut : s.valveIs l .discharge .opened = false) :
    s.moveClaimed (s.lineupClaims l) l .discharge .opened .sequence ∧
      (s.valveIs l .returnValve .closed = false → s.moveClaimed (s.lineupClaims l) l .returnValve .closed .sequence) ∧
      (s.valveIs l .strip .closed = false → s.moveClaimed (s.lineupClaims l) l .strip .closed .sequence) := by
  rw [s.lineupClaims_eq l shut]
  generalize returned : s.claimClosed l .returnValve = a
  generalize stripped : a.claimClosed l .strip = b
  have settings : s.sameSettings a := s.sameSettings_of_stills a (by simp [← returned])
  have settings' : s.sameSettings b := s.sameSettings_of_stills b (by simp [← returned, ← stripped])
  have role {r : Role} {n : NodeNo} (at_n : s.valveOf l r = some n) : (s.node n).role = r ∧ (a.node n).role = r ∧ (b.node n).role = r := by
    obtain ⟨-, -, role⟩ := s.valveOf_some l r n at_n
    obtain ⟨-, -, role'⟩ := a.valveOf_some l r n (by rw [s.valveOf_congr a settings, at_n])
    obtain ⟨-, -, role''⟩ := b.valveOf_some l r n (by rw [s.valveOf_congr b settings', at_n])
    exact ⟨role, role', role''⟩
  have first {r : Role} {n : NodeNo} (at_n : s.valveOf l r = some n) (other : r ≠ .returnValve) : a.node n = s.node n := by
    rw [← returned]
    exact s.claimClosed_role l .returnValve n (by rw [(role at_n).1]; exact other)
  have second {r : Role} {n : NodeNo} (at_n : s.valveOf l r = some n) (other : r ≠ .strip) : b.node n = a.node n := by
    rw [← stripped]
    exact a.claimClosed_role l .strip n (by rw [(role at_n).2.1]; exact other)
  have third {r : Role} {n : NodeNo} (at_n : s.valveOf l r = some n) (other : r ≠ .discharge) :
      (b.claimValve l .discharge .opened .sequence).node n = b.node n :=
    b.claimValve_role l .discharge .opened .sequence n (.inr (by rw [(role at_n).2.2]; exact other))
  have atA {r : Role} {n : NodeNo} (at_n : a.valveOf l r = some n) : s.valveOf l r = some n := by
    rw [← s.valveOf_congr a settings, at_n]
  have atB {r : Role} {n : NodeNo} (at_n : b.valveOf l r = some n) : s.valveOf l r = some n := by
    rw [← s.valveOf_congr b settings', at_n]
  refine ⟨?_, fun stands => ?_, fun stands => ?_⟩
  · refine b.moveClaimed_at s _ _ l .discharge .opened .sequence (b.claimValve_claimed l .discharge .opened .sequence)
      (by simp [← returned, ← stripped]) (b.sameSettings_of_stills s (by simp [← returned, ← stripped])) (fun n at_n => ?_)
      fun n _ => rfl
    rw [second (atB at_n) (by decide), first (atB at_n) (by decide)]
  · refine s.moveClaimed_at s a _ l .returnValve .closed .sequence (by rw [← returned]; exact s.claimClosed_claimed l _ stands)
      rfl (s.sameSettings_of_stills s rfl) (fun n _ => rfl) fun n at_n => ?_
    rw [third at_n (by decide), second at_n (by decide)]
  · have stands' : a.valveIs l .strip .closed = false := by
      rw [← stands]
      exact s.valveIs_congr a (by simp [← returned]) (by simp [← returned]) l .strip .closed
    refine a.moveClaimed_at s b _ l .strip .closed .sequence (by rw [← stripped]; exact a.claimClosed_claimed l _ stands')
      (by simp [← returned]) (a.sameSettings_of_stills s (by simp [← returned])) (fun n at_n => (first (atA at_n) (by decide)).symm)
      fun n at_n => ?_
    rw [third (atA at_n) (by decide)]

/-! ## The lineup entered (R4) -/

/-- OPEN's context and delivered quantity, before the assignment of the plan's tanks. -/
def Device.planOpened (s : Device) (l : Line) (p : Plan) : Device :=
  (s.setLine l ((s.line l).opened p.nominated (s.meterTotal l))).setGovernor l { s.governor l with delivered := 0 }

theorem Device.openPrepared_eq (s : Device) (l : Line) (p : Plan) :
    s.openPrepared l p = ((s.planOpened l p).assignTanks l p.tanks).setSequenceMemory l .reset := rfl

/-- The line's context and governor as OPEN leaves them before the entry to LINEUP. -/
theorem Device.openPrepared_line (s : Device) (l : Line) (p : Plan) :
    ((s.openPrepared l p).line l).nominated = p.nominated ∧ ((s.openPrepared l p).line l).base = s.meterTotal l ∧
      ((s.openPrepared l p).line l).hold = .empty ∧ ((s.openPrepared l p).line l).stopCause = none ∧
      ((s.openPrepared l p).line l).stripFlag = false ∧ ((s.openPrepared l p).line l).stripResult = .none ∧
      ((s.openPrepared l p).governor l).delivered = 0 := by
  simp [Device.openPrepared, Device.assignTanks, LineContext.opened]

@[simp] theorem Device.openPrepared_keeps (s : Device) (l : Line) (p : Plan) :
    (s.openPrepared l p).nodes = s.nodes ∧ (s.openPrepared l p).time = s.time ∧
      (s.openPrepared l p).charter = s.charter := by
  simp [Device.openPrepared]

/-- What the entry to LINEUP has set. -/
theorem Device.lineupEntered_line (s : Device) (l : Line) (p : Plan) :
    ((s.lineupEntered l p).line l).state = .lineup ∧ ((s.lineupEntered l p).line l).step = .dischargeOpening ∧
      ((s.lineupEntered l p).line l).nominated = p.nominated ∧ ((s.lineupEntered l p).line l).base = s.meterTotal l ∧
      ((s.lineupEntered l p).line l).hold = .empty ∧ ((s.lineupEntered l p).line l).stopCause = none ∧
      ((s.lineupEntered l p).line l).stripFlag = false ∧ ((s.lineupEntered l p).line l).stripResult = .none ∧
      ((s.lineupEntered l p).line l).entry = s.time ∧
      ((s.lineupEntered l p).line l).deadline = some (s.secondsOn (s.limits l).lineupLimit) ∧
      ((s.lineupEntered l p).governor l).delivered = 0 ∧ ((s.lineupEntered l p).governor l).allowed = 0 := by
  obtain ⟨nominated, base, hold, stopCause, strip, result, delivered⟩ := s.openPrepared_line l p
  have limits : (((s.openPrepared l p).enterState l .lineup .dischargeOpening .none).takeBusMode).limits l = s.limits l :=
    Device.limits_congr_charter (by simp) l
  simp [Device.lineupEntered, Device.setDeadline, nominated, base, hold, stopCause, strip, result, delivered, limits,
    Device.secondsOn, Governor.entering]

theorem Device.lineupEntered_keeps (s : Device) (l : Line) (p : Plan) :
    (s.lineupEntered l p).nodes = s.nodes ∧ (s.lineupEntered l p).time = s.time ∧
      (s.lineupEntered l p).shutdown = s.shutdown ∧ s.SameOtherLines l (s.lineupEntered l p) ∧
      (s.lineupEntered l p).tanks = (p.tanks.foldl (fun s t => s.assignTank l t) (s.planOpened l p)).tanks := by
  refine ⟨?_, ?_, ?_, fun m other => ?_, ?_⟩
  · simp only [Device.lineupEntered, Device.setDeadline_keeps, Device.takeBusMode_keeps]
    rw [((s.openPrepared l p).enterState_nodes l .lineup .dischargeOpening .none (by simp)).1]
    simp
  · simp [Device.lineupEntered]
  · simp [Device.lineupEntered, Device.openPrepared]
  · simp [Device.lineupEntered, Device.openPrepared, other]
  · simp [Device.lineupEntered, Device.openPrepared_eq, Device.assignTanks]

/-- The tanks of an accepted plan are present. -/
theorem Device.openRefusal_present {s : Device} {l : Line} {p : Plan} (accepted : s.openRefusal l p = none) :
    ∀ t ∈ p.tanks, s.tank t ≠ none := by
  have valid : s.planValid p = true := by
    unfold Device.openRefusal at accepted
    repeat' split at accepted
    all_goals simp_all
  intro t listed
  obtain ⟨k, member, number⟩ := List.mem_filterMap.mp listed
  rw [Device.planValid, Bool.and_eq_true] at valid
  have here := List.all_eq_true.mp valid.2 k member
  rw [number] at here
  intro absent
  simp [Device.tankHas, absent] at here

/-- The entry to LINEUP of an accepted plan without HIGH tanks: its tanks are assigned, and none is HIGH. -/
theorem Device.lineupEntered_tanks (s : Device) (l : Line) (p : Plan) (accepted : s.openRefusal l p = none)
    (low : s.belowHigh l p.tanks) : (s.lineupEntered l p).holdsTanks l p.tanks ∧ (s.lineupEntered l p).noneHigh l := by
  obtain ⟨-, -, -, -, tanks⟩ := s.lineupEntered_keeps l p
  obtain ⟨low', held⟩ := (s.planOpened l p).assignTank_fold l p.tanks p.tanks low (fun _ => id)
    (fun t listed => s.openRefusal_present accepted t listed) [] (fun k member => nomatch member)
  have tank (k : TankNo) := Device.tank_congr _ _ k tanks
  refine ⟨fun k member => ?_, fun k => ?_⟩
  · have here := held k (by simpa using member)
    unfold Device.tankHas at here ⊢
    rwa [tank]
  · unfold Device.tankHas
    rw [tank]
    split
    case h_1 => rfl
    case h_2 e present =>
      have below := (low' k e present).1
      rw [Bool.and_eq_false_imp, decide_eq_true_iff, decide_eq_false_iff_not, not_or]
      exact below

/-- Settles O34. -/
theorem anAcceptedOpenStartsTheLineup : Obligations.AnAcceptedOpenStartsTheLineup := by
  unfold Obligations.AnAcceptedOpenStartsTheLineup
  intro l s burst accepted unassigned levels shut
  generalize plan : s.planRead l = p at *
  refine ⟨({ s with device := s.device.endBurst.judgeOpen l p } : State).settle, ?_, rfl, ?_⟩
  · simp only [exec, execPlanReadDone, burst, State.portEvent, plan]
  have low : s.device.endBurst.belowHigh l p.tanks :=
    fun k e present => ⟨fun mine => absurd mine (unassigned k e present), fun listed => levels k e listed present⟩
  generalize entered : s.device.endBurst.lineupEntered l p = d
  obtain ⟨held, noneHigh⟩ := s.device.endBurst.lineupEntered_tanks l p accepted low
  obtain ⟨nodes, time, shutdown, others, -⟩ := s.device.endBurst.lineupEntered_keeps l p
  have line := s.device.endBurst.lineupEntered_line l p
  rw [entered] at held noneHigh nodes time shutdown others line
  have advised := d.assignEffects_advises l noneHigh
  generalize effects : d.assignEffects l = a at advised
  have state : (a.line l).state = .lineup := by rw [Device.line_congr a d l advised.lines.1]; exact line.1
  have judged : s.device.endBurst.judgeOpen l p = (a.lineupClaims l).askResult .done := by
    have accepted' : s.device.endBurst.openRefusal l p = none := accepted
    rw [Device.judgeOpen, accepted', Device.takeOpen_eq, entered, effects, if_pos state]
  rw [judged]
  have nodes' : a.nodes = s.device.nodes := advised.nodes.trans nodes
  have stills : a.stills = s.device.stills := by
    funext n
    rw [Device.stills, Device.node_congr a s.device n nodes']
    rfl
  have valves : a.valves = s.device.valves := by
    funext n
    rw [Device.valves, Device.node_congr a s.device n nodes']
    rfl
  have same (r : Role) (v : ValveState) : a.valveIs l r v = s.device.valveIs l r v := s.device.valveIs_congr a stills valves l r v
  have shut' : a.valveIs l .discharge .opened = false := by rw [same, shut]
  obtain ⟨discharge, returns, strips⟩ := a.lineupClaims_claimed l shut'
  have lines : (a.lineupClaims l).lines = d.lines := by
    rw [a.lineupClaims_eq l shut']
    simpa using advised.lines.1
  have governors : (a.lineupClaims l).governors = d.governors := by
    rw [a.lineupClaims_eq l shut']
    simpa using advised.lines.2.2.1
  have context : ((a.lineupClaims l).askResult .done).finish.line l = d.line l := Device.line_congr _ _ l (by simpa using lines)
  have governor : ((a.lineupClaims l).askResult .done).finish.governor l = d.governor l :=
    Device.governor_congr _ _ l (by simpa using governors)
  have carries : a.carries s.device (a.lineupClaims l) ((a.lineupClaims l).askResult .done).finish l :=
    a.carries_nodes s.device _ _ l (advised.time.trans time).symm nodes'.symm (by simp)
  obtain ⟨lineup, step, nominated, base, hold, cause, flag, result, entry, deadline, delivered, allowed⟩ := line
  simp only [State.settle]
  rw [context, governor]
  refine ⟨by simp [Device.answered, Device.askResult], ?_, lineup, step, nominated, base, hold, cause, flag, result, entry, deadline, delivered,
    allowed, a.moveClaimed_of s.device _ _ l _ _ _ discharge carries,
    fun stands => a.moveClaimed_of s.device _ _ l _ _ _ (returns (by rw [same, stands])) carries,
    fun stands => a.moveClaimed_of s.device _ _ l _ _ _ (strips (by rw [same, stands])) carries, fun k listed => ?_,
    fun m other => ?_, ?_⟩
  · rw [← judged]
    simp [Device.endBurst]
  · have here : (a.lineupClaims l).tankHas k (fun e => decide (e.assigned = some l)) = true := by
      have kept := advised.tankHas k (fun at_k _ => decide (at_k = some l))
      have tank : (a.lineupClaims l).tank k = a.tank k := by simp
      unfold Device.tankHas at kept ⊢
      rw [tank, kept]
      exact held k listed
    simpa [Device.tankHas] using here
  · obtain ⟨line', governor', hose', topOff'⟩ := others m other
    obtain ⟨lines', -, governors', hoses', topOffs'⟩ := advised.lines
    simp [other, Device.line_congr a d m lines', Device.governor_congr a d m governors', Device.hose_congr a d m hoses',
      Device.topOff_congr a d m topOffs', line', governor', hose', topOff']
    exact ⟨rfl, rfl, rfl, rfl⟩
  · refine ⟨?_, ?_, ?_, ?_⟩
    · simp [stills]
    · simp [valves]
    · simp [advised.shutdown, shutdown]
      rfl
    · rw [← judged]
      simp [Device.SameClock, Device.SameRing, Device.endBurst]

end Sys2Proof.Machine

/-! SUPPORT. The ends of a load (O37, O38). -/

namespace Sys2Proof.Machine

open Sys2Proof

/-! ## The rebuilds of a load (R2, R30, R44, R48, R73, R103) -/

@[simp] theorem Device.refitLine_keeps (s : Device) (l : Line) :
    (s.refitLine l).charter = s.charter ∧ (s.refitLine l).time = s.time ∧ (s.refitLine l).half = s.half ∧
      (s.refitLine l).strap = s.strap ∧ (s.refitLine l).port = s.port ∧ (s.refitLine l).jobs = s.jobs ∧
      (s.refitLine l).requests = s.requests ∧ (s.refitLine l).reports = s.reports ∧
      (s.refitLine l).shutdown = s.shutdown ∧ (s.refitLine l).link = s.link ∧ (s.refitLine l).bus = s.bus := by
  simp [Device.refitLine]

@[simp] theorem Device.refitLine_general (s : Device) (l : Line) : (s.refitLine l).general = s.general := rfl

@[simp] theorem Device.refitLine_limits (s : Device) (l m : Line) : (s.refitLine l).limits m = s.limits m := rfl

theorem Device.refitLine_line (s : Device) (l m : Line) : (s.refitLine l).line m =
    if m = l then { s.line l with fitted := decide (lineNumber l ≤ s.general.fittedLines) } else s.line m := by
  simp [Device.refitLine]

theorem Device.refitLine_governor (s : Device) (l m : Line) : (s.refitLine l).governor m =
    if m = l then { s.governor l with
      requested := if lineNumber l ≤ s.general.fittedLines then (s.limits l).peak else 0, reclaim := false, rateLow := false }
    else s.governor m := by
  have limits : (s.setLine l { s.line l with fitted := decide (lineNumber l ≤ s.general.fittedLines) }).limits l = s.limits l := rfl
  simp [Device.refitLine, limits]

theorem Device.refitLine_hose (s : Device) (l m : Line) : (s.refitLine l).hose m = if m = l then .reset else s.hose m := by
  simp [Device.refitLine]

/-- The charter in force set, and every line refitted by it (R2, R30, R44, R73). -/
def Device.refitted (s : Device) : Device := (s.setCharter s.charter.loaded).forLines (fun l s => s.refitLine l)

theorem Device.loaded_general (s : Device) : (s.setCharter s.charter.loaded).general = generalOf s.charter.working := rfl

theorem Device.loaded_limits (s : Device) (l : Line) :
    (s.setCharter s.charter.loaded).limits l = limitsOf s.charter.working l := by cases l <;> rfl

theorem Device.refitted_line (s : Device) (l : Line) :
    s.refitted.line l = { s.line l with fitted := decide (lineNumber l ≤ (generalOf s.charter.working).fittedLines) } := by
  cases l <;> simp [Device.refitted, Device.forLines, Device.refitLine_line, Device.loaded_general] <;> rfl

theorem Device.refitted_governor (s : Device) (l : Line) : s.refitted.governor l = { s.governor l with
    requested := if lineNumber l ≤ (generalOf s.charter.working).fittedLines then (limitsOf s.charter.working l).peak else 0,
    reclaim := false, rateLow := false } := by
  cases l <;> simp [Device.refitted, Device.forLines, Device.refitLine_governor, Device.loaded_general, Device.loaded_limits]

theorem Device.refitted_hose (s : Device) (l : Line) : s.refitted.hose l = .reset := by
  cases l <;> simp [Device.refitted, Device.forLines, Device.refitLine_hose]

@[simp] theorem Device.refitted_keeps (s : Device) :
    s.refitted.charter = s.charter.loaded ∧ s.refitted.time = s.time ∧ s.refitted.half = s.half ∧
      s.refitted.strap = s.strap ∧ s.refitted.port = s.port ∧ s.refitted.jobs = s.jobs ∧ s.refitted.requests = s.requests ∧
      s.refitted.reports = s.reports ∧ s.refitted.shutdown = s.shutdown ∧ s.refitted.link = s.link ∧ s.refitted.bus = s.bus := by
  simp [Device.refitted, Device.forLines]

/-! ## The end of a good load (R182) -/

/-- The plant as a good load rebuilds it: charter, lines, tanks and nodes. -/
def Device.rebuilt (s : Device) : Device :=
  (({ s.refitted with tanks := rebuiltTanks s.charter.working } : Device).forLines
    (fun l s => s.setTopOff l .empty)).rebuildNodes s.charter.working

@[simp] theorem Device.rebuilt_keeps (s : Device) :
    s.rebuilt.lines = s.refitted.lines ∧ s.rebuilt.governors = s.refitted.governors ∧ s.rebuilt.hoses = s.refitted.hoses ∧
      s.rebuilt.tanks = rebuiltTanks s.charter.working ∧
      s.rebuilt.nodes = Vector.ofFn (fun n => freshNode (nodeEntryOf s.charter.working n)) ∧
      s.rebuilt.charter = s.charter.loaded ∧ s.rebuilt.time = s.time ∧ s.rebuilt.half = s.half ∧ s.rebuilt.strap = s.strap ∧
      s.rebuilt.port = s.port ∧ s.rebuilt.jobs = s.jobs ∧ s.rebuilt.requests = s.requests ∧ s.rebuilt.reports = s.reports ∧
      s.rebuilt.shutdown = s.shutdown ∧ s.rebuilt.link = s.link := by
  simp [Device.rebuilt, Device.forLines, Device.rebuildNodes]

/-- The rebuilt device with its ring usable and its LOADED report. -/
def Device.loadReported (s : Device) : Device :=
  let s : Device := { s.rebuilt with
    reports := { s.rebuilt.reports with usable := true }, jobs := { s.rebuilt.jobs with consumer := true } }
  s.submit .loaded 0 0 .none s.charter.crc (BitVec.ofNat 32 s.enrolledCount)

@[simp] theorem Device.loadReported_keeps (s : Device) :
    s.loadReported.lines = s.refitted.lines ∧ s.loadReported.governors = s.refitted.governors ∧
      s.loadReported.hoses = s.refitted.hoses ∧ s.loadReported.tanks = rebuiltTanks s.charter.working ∧
      s.loadReported.nodes = Vector.ofFn (fun n => freshNode (nodeEntryOf s.charter.working n)) ∧
      s.loadReported.charter = s.charter.loaded ∧ s.loadReported.time = s.time ∧ s.loadReported.half = s.half ∧
      s.loadReported.strap = s.strap ∧ s.loadReported.port = s.port ∧ s.loadReported.jobs.reads = s.jobs.reads ∧
      s.loadReported.jobs.result = s.jobs.result ∧ s.loadReported.requests = s.requests ∧
      s.loadReported.reports.usable = true ∧ s.loadReported.shutdown = s.shutdown ∧ s.loadReported.link = s.link := by
  simp [Device.loadReported]

/-- The rebuilt device with its indications cleared and its outputs judged (R85, R87, R100). -/
def Device.loadShown (s : Device) : Device := s.loadReported.clearIndications.driveBargeLoop.judgeAlarm

@[simp] theorem Device.loadShown_keeps (s : Device) :
    s.loadShown.lines = s.refitted.lines ∧ s.loadShown.governors = s.refitted.governors ∧
      s.loadShown.hoses = s.refitted.hoses ∧ s.loadShown.tanks = rebuiltTanks s.charter.working ∧
      s.loadShown.nodes = Vector.ofFn (fun n => freshNode (nodeEntryOf s.charter.working n)) ∧
      s.loadShown.charter = s.charter.loaded ∧ s.loadShown.time = s.time ∧ s.loadShown.half = s.half ∧
      s.loadShown.strap = s.strap ∧ s.loadShown.port = s.port ∧ s.loadShown.jobs.reads = s.jobs.reads ∧
      s.loadShown.jobs.result = s.jobs.result ∧ s.loadShown.requests = s.requests ∧
      s.loadShown.reports.usable = true ∧ s.loadShown.link = s.link := by
  simp [Device.loadShown, Device.clearIndications]

theorem Device.loadShown_shutdown (s : Device) :
    s.loadShown.shutdown.latch = s.shutdown.latch ∧ s.loadShown.shutdown.shipLoop = s.shutdown.shipLoop ∧
      s.loadShown.shutdown.bargeLoop = (if s.shutdown.latch = true then .broken else .healthy) := by
  have mode : s.charter.loaded.mode = .watch := rfl
  unfold Device.loadShown Device.judgeAlarm
  cases latch : s.shutdown.latch <;> split <;> simp [Device.clearIndications, Device.driveBargeLoop, mode, latch]

theorem Device.goodLoad_eq (s : Device) : s.goodLoad =
    ((s.loadShown.linkEntersWatch.startLost.setBusMode
      s.loadShown.linkEntersWatch.startLost.wantedBusMode).startFrame).markAll.setInterrupt := rfl

@[simp] theorem Device.goodLoad_keeps (s : Device) :
    s.goodLoad.lines = s.refitted.lines ∧ s.goodLoad.governors = s.refitted.governors ∧
      s.goodLoad.hoses = s.refitted.hoses ∧
      s.goodLoad.nodes = Vector.ofFn (fun n => freshNode (nodeEntryOf s.charter.working n)) ∧
      s.goodLoad.charter = s.charter.loaded ∧ s.goodLoad.time = s.time ∧ s.goodLoad.half = s.half ∧
      s.goodLoad.strap = s.strap ∧ s.goodLoad.port = s.port ∧ s.goodLoad.jobs.reads = s.jobs.reads ∧
      s.goodLoad.jobs.result = s.jobs.result ∧ s.goodLoad.requests = s.requests ∧
      s.goodLoad.reports.usable = true ∧ s.goodLoad.shutdown = s.loadShown.shutdown := by
  simp [Device.goodLoad_eq, Device.startLost]

theorem Device.goodLoad_link (s : Device) : s.goodLoad.link.state = .idle ∧ s.goodLoad.link.taking = true ∧
    s.goodLoad.link.status = none ∧ s.goodLoad.link.statusExpiry = some s.time := by
  simp [Device.goodLoad_eq, Device.startLost, Device.linkEntersWatch]

theorem Device.goodLoad_marks (s : Device) (u : RefreshUnit) : s.goodLoad.marks.get u = true := by
  have all (n : Nat) (k : Fin n) : (Vector.replicate n true).get k = true := Vector.getElem_replicate k.isLt
  have marks : s.goodLoad.marks = s.goodLoad.markAll.marks := by
    simp [Device.goodLoad_eq, Device.markAll, Device.setInterrupt]
  rw [marks]
  cases u with
  | tank k => exact all 24 k
  | node n => exact all 31 n
  | line l => cases l <;> rfl
  | _ => rfl

/-- The tank table of the charter, each with its lost expiry (R48). -/
theorem Device.goodLoad_tank (s : Device) (k : TankNo) : s.goodLoad.tank k =
    if tankNumber k ≤ (generalOf s.charter.working).fittedTanks then
      some { freshTank s.charter.working k with
        lostExpiry := some (s.secondsOn (generalOf s.charter.working).tankLost) }
    else none := by
  have tanks : s.goodLoad.tanks = (rebuiltTanks s.charter.working).map (Option.map fun x =>
      { x with lostExpiry := some (s.secondsOn (generalOf s.charter.working).tankLost) }) := by
    have general : s.loadShown.linkEntersWatch.general = generalOf s.charter.working := by
      rw [Device.general]
      simp [CharterUnit.loaded]
    simp [Device.goodLoad_eq, Device.startLost, general, Device.secondsOn]
  have get : s.goodLoad.tank k = s.goodLoad.tanks[k.val] := rfl
  rw [get]
  simp only [tanks, rebuiltTanks, Vector.getElem_map, Vector.getElem_ofFn]
  split <;> rfl

theorem Device.goodLoad_node (s : Device) (n : NodeNo) : s.goodLoad.node n = freshNode (nodeEntryOf s.charter.working n) := by
  have get : s.goodLoad.node n = s.goodLoad.nodes[n.val] := rfl
  rw [get]
  simp

/-! ## The end of an event -/

theorem Device.finish_marked (s : Device) (u : RefreshUnit) (marked : s.marks.get u = true) : s.finish.marks.get u = true := by
  by_cases status : u = .status
  · subst status
    exact s.finish_status.mpr (.inl marked)
  · rw [s.finish_marks u status, marked]

end Sys2Proof.Machine

/-! SUPPORT. The end of a good load at the request unit (O37). -/

namespace Sys2Proof.Machine

open Sys2Proof

/-- The device at the judgement of a load: the port is free, and the last job's words are stored. -/
def State.loadRead (s : State) : Device := s.device.endBurst.storeCharter 31 (s.charterWords 31)

theorem State.loadRead_keeps (s : State) :
    s.loadRead.charter = { s.device.charter with
      working := s.device.charter.working ++ s.charterWords 31, progress := s.device.charter.progress + 32,
      runningCrc := crc32Words s.device.charter.runningCrc ((s.charterWords 31).take 31) } ∧
      s.loadRead.port = { s.device.port with burst := none } ∧ s.loadRead.requests = s.device.requests ∧
      s.loadRead.jobs = s.device.jobs ∧ s.loadRead.lines = s.device.lines ∧ s.loadRead.governors = s.device.governors ∧
      s.loadRead.shutdown = s.device.shutdown ∧ s.loadRead.time = s.device.time ∧ s.loadRead.half = s.device.half ∧
      s.loadRead.strap = s.device.strap := by
  simp [State.loadRead, Device.endBurst, Device.storeCharter, Config.charterJobs]

theorem Device.charterRead_last {d : Device} {i : Nat} (ws : List Word) (last : ¬ i + 1 < Config.charterJobs) :
    d.charterRead i ws = (d.storeCharter i ws).judgeLoad := if_neg last

theorem State.portEvent_taken (s : State) (f : Device → Device) :
    ∃ t : State, s.portEvent f = .next t.arbitrate ∧ t.mem = s.mem ∧ t.device = (f s.device).finish := ⟨_, rfl, rfl, rfl⟩

/-- The end of a charter read job is an event of the port. -/
theorem State.charterReadDone_event {s : State} {i : Nat} (burst : s.device.port.burst = some (.read (.charter i))) :
    exec .charterReadDone s = s.portEvent (fun d => d.endBurst.charterRead i (s.charterWords i)) := by
  simp only [exec, execCharterReadDone, burst]

/-- The 32nd charter read job ends in the event of the load's judgement. -/
theorem State.charterReadDone_last {s : State} (burst : s.device.port.burst = some (.read (.charter 31))) :
    ∃ t : State, exec .charterReadDone s = .next t.arbitrate ∧ t.mem = s.mem ∧ t.device = s.loadRead.judgeLoad.finish := by
  obtain ⟨t, run, mem, device⟩ := s.portEvent_taken (fun d => d.endBurst.charterRead 31 (s.charterWords 31))
  have last := Device.charterRead_last (d := s.device.endBurst) (s.charterWords 31) (Nat.lt_irrefl 32)
  exact ⟨t, (s.charterReadDone_event burst).trans run, mem, device.trans (congrArg Device.finish last)⟩

theorem Device.judgeLoad_good {d : Device} (good : judgeCharter d.charter.runningCrc d.charter.working = .good) :
    d.judgeLoad = d.goodLoad.endLoad .ok := by
  rw [Device.judgeLoad, good]

theorem Device.judgeLoad_bad {d : Device} {r : LoadResult} {detail : Word}
    (bad : judgeCharter d.charter.runningCrc d.charter.working = .bad r detail) :
    d.judgeLoad = (d.failedLoad r detail).endLoad r := by
  rw [Device.judgeLoad, bad]

/-- With the LOAD_CHARTER in hand its result write is asked. -/
theorem Device.endLoad_inHand {d : Device} (r : LoadResult) (load : d.requests.phase = .load) :
    d.endLoad r = d.askResult (resultOfLoad r) := if_pos load

/-- With the LOAD_CHARTER dropped, write jobs may be granted again, and the oldest request is taken. -/
theorem Device.endLoad_dropped {d : Device} (r : LoadResult) (untaken : d.requests.phase = .untaken) :
    d.endLoad r = ({ d with port := { d.port with writesOpen := true } } : Device).takeHead := if_neg (by simp [untaken])

theorem Device.takeHead_empty {d : Device} (empty : d.requests.queue = []) : d.takeHead = d := by
  rw [Device.takeHead, empty]

/-- Everything but the port's gate, the request unit and its job stands as the load has left it, when no request waits to
be taken. -/
theorem Device.endLoad_keeps {d : Device} (r : LoadResult)
    (phase : d.requests.phase = .load ∨ d.requests.phase = .untaken ∧ d.requests.queue = []) :
    (d.endLoad r).charter = d.charter ∧ (d.endLoad r).lines = d.lines ∧ (d.endLoad r).governors = d.governors ∧
      (d.endLoad r).hoses = d.hoses ∧ (d.endLoad r).tanks = d.tanks ∧ (d.endLoad r).nodes = d.nodes ∧
      (d.endLoad r).link = d.link ∧ (d.endLoad r).reports = d.reports ∧ (d.endLoad r).shutdown = d.shutdown ∧
      (d.endLoad r).bus = d.bus ∧ (d.endLoad r).marks = d.marks ∧ (d.endLoad r).time = d.time ∧ (d.endLoad r).half = d.half ∧
      (d.endLoad r).strap = d.strap := by
  obtain load | ⟨untaken, empty⟩ := phase
  · rw [Device.endLoad_inHand r load]
    simp [Device.askResult]
  · rw [Device.endLoad_dropped r untaken, Device.takeHead_empty (by exact empty)]
    simp

/-- The answer to the LOAD_CHARTER in hand, or the port's gate when it was dropped. -/
theorem Device.endLoad_answer {d : Device} (r : LoadResult)
    (phase : d.requests.phase = .load ∨ d.requests.phase = .untaken ∧ d.requests.queue = []) :
    if d.requests.phase = .load then (d.endLoad r).port = d.port ∧ (d.endLoad r).answered (resultOfLoad r)
    else (d.endLoad r).port = { d.port with writesOpen := true } ∧ (d.endLoad r).requests = d.requests ∧
      (d.endLoad r).jobs.result = d.jobs.result := by
  obtain load | ⟨untaken, empty⟩ := phase
  · rw [if_pos load, Device.endLoad_inHand r load]
    simp [Device.askResult, Device.answered]
  · rw [if_neg (by simp [untaken]), Device.endLoad_dropped r untaken, Device.takeHead_empty (by exact empty)]
    simp

/-- An answer stands at the end of the event. -/
theorem Device.finish_answered {d : Device} {r : Result} : d.finish.answered r ↔ d.answered r := by
  simp [Device.answered]

/-! ## A request taken with every line FREE (R165 to R169) -/

section
variable {d : Device} {q : Request} {rest : List Request} (queue : d.requests.queue = q :: rest)
  (untaken : d.requests.phase = .untaken)
include queue untaken

theorem Device.takeHead_unknown (mode : d.charter.mode ≠ .loading) (asked : q.asked = none) :
    d.takeHead = d.askResult .unknownKind := by
  cases here : d.charter.mode with
  | loading => exact absurd here mode
  | passive => simp [Device.takeHead, queue, untaken, here, asked]
  | watch => simp [Device.takeHead, queue, untaken, here, asked]

theorem Device.takeHead_watch {a : Asked} (watch : d.charter.mode = .watch) (asked : q.asked = some a) :
    d.takeHead = d.takeInWatch a := by
  simp [Device.takeHead, queue, untaken, watch, asked]

theorem Device.takeHead_passive {a : Asked} (passive : d.charter.mode = .passive) (asked : q.asked = some a) :
    d.takeHead = d.takeInPassive a := by
  simp [Device.takeHead, queue, untaken, passive, asked]

end

theorem Device.allFree_iff {d : Device} : d.allFree = true ↔ ∀ l, (d.line l).state = .free := by
  rw [Device.allFree, List.all_eq_true]
  exact ⟨fun free l => of_decide_eq_true (free l (mem_allLines l)), fun free l _ => decide_eq_true (free l)⟩

/-- HOLD, RESUME and STOP find no line to act on. -/
theorem Device.takeLine_free {d : Device} {l : Line} (free : (d.line l).state = .free) (strip : Bool) :
    d.takeHold l = d.askResult .wrongState ∧ d.takeResume l = d.askResult .wrongState ∧
      d.takeStop l strip = d.askResult .wrongState := by
  simp [Device.takeHold, Device.takeResume, Device.takeStop, free, LineState.holdable, LineState.active]

/-- TRIP leaves the latch SET and the barge loop BROKEN (R87, R89, R96). -/
theorem Device.tripped_shutdown (d : Device) (driven : d.shutdown.latch = true → d.shutdown.bargeLoop = .broken) :
    (d.esdTrigger .stationTrip 0 0 0).shutdown.latch = true ∧
      (d.esdTrigger .stationTrip 0 0 0).shutdown.bargeLoop = .broken := by
  unfold Device.esdTrigger
  split
  case isTrue set => exact ⟨by simpa using set, by simpa using driven set⟩
  case isFalse =>
    obtain ⟨latch, -, -, -, barge, -⟩ := d.setLatch_latchSet .stationTrip 0 0 0
    exact ⟨latch, barge⟩

/-- TRIP_RESET with no line in TRIPPING is answered by the latch and the ship loop (R97). -/
theorem Device.takeTripReset_free {d : Device} (free : ∀ l, (d.line l).state = .free) :
    d.takeTripReset.answered (if d.shutdown.latch = false then .wrongState
      else if d.shutdown.shipLoop = .broken then .loopBroken else .done) ∧ d.takeTripReset.charter = d.charter ∧
      d.takeTripReset.requests.queue = d.requests.queue := by
  have quiet : allLines.any (fun l => decide ((d.line l).state = .tripping)) = false := by simp [allLines, free]
  unfold Device.takeTripReset
  rw [quiet]
  split
  · simp [Device.askResult, Device.answered]
  · split
    · simp [Device.askResult, Device.answered]
    · simp [Device.askResult, Device.answered]

/-- LOAD_CHARTER taken with every line FREE and every node idle starts a load (R169, R179). -/
theorem Device.takeLoad_starts {d : Device} (free : d.allFree = true) (idle : d.allNodesIdle = true) :
    d.takeLoad = d.startLoad := by
  simp [Device.takeLoad, free, idle]

/-- What the start of a load leaves of the charter, the request unit and the read jobs. -/
theorem Device.startLoad_loads (d : Device) : d.startLoad.requests = { d.requests with phase := .load } ∧
    d.startLoad.charter = { d.charter with mode := .loading, progress := 0, runningCrc := 0xFFFFFFFF#32, working := [] } ∧
    d.startLoad.jobs.reads = d.jobs.reads ++ charterReads := by
  obtain ⟨charter, jobs, -, -, -, -, requests⟩ := d.enterLoading_effect
  refine ⟨?_, charter, ?_⟩
  · rw [Device.startLoad, ← requests]
  · exact congrArg Jobs.reads jobs

/-- A node record from the charter has both slots empty. -/
theorem freshNode_idle (e : NodeEntry) : (freshNode e).idle = true := by
  unfold freshNode
  split <;> rfl

/-- Settles O37. -/
theorem aGoodLoadEntersWatch : Obligations.AGoodLoadEntersWatch := by
  unfold Obligations.AGoodLoadEntersWatch
  refine ⟨fun s ws burst read good phase => ?_, fun s ws q rest burst read good untaken queue free => ?_⟩
  · obtain ⟨t, run, mem, device⟩ := State.charterReadDone_last burst
    refine ⟨t, run, mem, ?_⟩
    obtain ⟨charter, port, requests, jobs, lines, governors, shutdown, time, half, strap⟩ := s.loadRead_keeps
    generalize s.loadRead = d at *
    generalize s.charterWords 31 = words at *
    have working : d.charter.working = ws := by rw [charter, read]
    have judged : d.judgeLoad = d.goodLoad.endLoad .ok := Device.judgeLoad_good (by rw [working, charter]; exact good)
    have phase' : d.goodLoad.requests.phase = .load ∨ d.goodLoad.requests.phase = .untaken ∧ d.goodLoad.requests.queue = [] := by
      simpa [requests] using phase
    obtain ⟨charter', lines', governors', hoses', tanks', nodes', link', reports', shutdown', -, marks', time', half', strap'⟩ :=
      Device.endLoad_keeps .ok phase'
    have answer := Device.endLoad_answer .ok phase'
    obtain ⟨state, taking, status, expiry⟩ := d.goodLoad_link
    obtain ⟨latch, -, barge⟩ := d.loadShown_shutdown
    rw [← judged] at charter' lines' governors' hoses' tanks' nodes' link' reports' shutdown' marks' time' half' strap' answer
    rw [device]
    generalize d.judgeLoad = e at *
    refine ⟨?_, ?_, ?_, ?_, ?_, ?_, ?_, fun l => ⟨?_, ?_, ?_, ?_⟩, fun k => ?_, fun n => ?_, ?_, ?_, ?_, ?_, ?_, ?_, ?_, fun u => ?_, ?_⟩
    · rw [Device.finish_answered]
      simpa [port, requests, jobs, resultOfLoad] using answer
    · simp [charter', CharterUnit.loaded]
    · simp [charter', CharterUnit.loaded]
    · simp [charter', CharterUnit.loaded]
    · simp [charter', CharterUnit.loaded, working]
    · simp [charter', CharterUnit.loaded, charter]
    · simp [charter', CharterUnit.loaded, working]
    · have line : e.finish.line l = d.refitted.line l := Device.line_congr _ _ l (by simp [lines'])
      rw [line, d.refitted_line, working]
    · have line : e.finish.line l = d.refitted.line l := Device.line_congr _ _ l (by simp [lines'])
      rw [line, d.refitted_line, Device.line_congr d s.device l lines]
    · have governor : e.finish.governor l = d.refitted.governor l := Device.governor_congr _ _ l (by simp [governors'])
      rw [governor, d.refitted_governor, working]
    · have hose : e.finish.hose l = d.refitted.hose l := Device.hose_congr _ _ l (by simp [hoses'])
      rw [hose, d.refitted_hose]
    · have tank : e.finish.tank k = d.goodLoad.tank k := Device.tank_congr _ _ k (by simp [tanks'])
      rw [tank, d.goodLoad_tank, working, Device.secondsOn, Device.secondsOn, time]
    · have node : e.finish.node n = d.goodLoad.node n := Device.node_congr _ _ n (by simp only [Device.finish_keeps, nodes'])
      rw [node, d.goodLoad_node, working]
    · simp [link', state]
    · simp [link', taking]
    · simp [link', status]
    · simp [link', expiry, time]
    · simp [reports']
    · simp [shutdown', latch, shutdown]
    · simp [shutdown', barge, shutdown]
    · exact e.finish_marked u (by rw [marks', d.goodLoad_marks])
    · simp [Device.SameClock, time', half', strap', time, half, strap]
  · obtain ⟨t, run, mem, device⟩ := State.charterReadDone_last burst
    refine ⟨t, run, mem, ?_⟩
    obtain ⟨charter, port, requests, jobs, lines, -, shutdown, time, half, strap⟩ := s.loadRead_keeps
    generalize s.loadRead = d at *
    generalize s.charterWords 31 = words at *
    have working : d.charter.working = ws := by rw [charter, read]
    have judged : d.judgeLoad = d.goodLoad.endLoad .ok := Device.judgeLoad_good (by rw [working, charter]; exact good)
    rw [Device.endLoad_dropped .ok (by simp [requests, untaken])] at judged
    generalize opened : ({ d.goodLoad with port := { d.goodLoad.port with writesOpen := true } } : Device) = g at judged
    have line (l : Line) : (g.line l).state = .free := by
      have refit : g.line l = d.refitted.line l := Device.line_congr _ _ l (by simp [← opened])
      rw [refit, d.refitted_line]
      exact (Device.line_congr d s.device l lines ▸ Device.allFree_iff.mp free l :)
    have idle : g.allNodesIdle = true := by
      refine List.all_eq_true.mpr fun n _ => ?_
      have node : g.node n = d.goodLoad.node n := Device.node_congr _ _ n (by simp [← opened])
      rw [node, d.goodLoad_node]
      exact freshNode_idle _
    obtain ⟨latch, shipLoop, barge⟩ := d.loadShown_shutdown
    have shutdown' : g.shutdown = d.loadShown.shutdown := by simp [← opened]
    have charter' : g.charter = d.charter.loaded := by simp [← opened]
    have watch : g.charter.mode = .watch := by rw [charter']; rfl
    have requests' : g.requests = s.device.requests := by simp [← opened, requests]
    have reads : g.jobs.reads = s.device.jobs.reads := by simp [← opened, jobs]
    have port' : g.port = { s.device.port with burst := none, writesOpen := true } := by simp [← opened, port]
    have clock : s.device.SameClock g := by simp [Device.SameClock, ← opened, time, half, strap]
    have queue' : g.requests.queue = q :: rest := by rw [requests', queue]
    have untaken' : g.requests.phase = .untaken := by rw [requests', untaken]
    have result : g.charter.result = .ok := by rw [charter']; rfl
    have force : g.charter.inForce = some ⟨generalOf ws, ⟨limitsOf ws .l1, limitsOf ws .l2, limitsOf ws .l3⟩⟩ := by
      rw [charter', ← working]; rfl
    rw [device, judged]
    clear opened judged
    obtain ⟨time', half', strap'⟩ := clock
    have answers (r : Result) : (g.askResult r).finish.port = { s.device.port with burst := none, writesOpen := true } ∧
        (g.askResult r).finish.requests.queue = s.device.requests.queue ∧ (g.askResult r).finish.charter.result = .ok ∧
        (g.askResult r).finish.charter.inForce =
          some ⟨generalOf ws, ⟨limitsOf ws .l1, limitsOf ws .l2, limitsOf ws .l3⟩⟩ ∧
        ((g.askResult r).finish.answered r ∧ (g.askResult r).finish.charter.mode = .watch) ∧
        s.device.SameClock (g.askResult r).finish := by
      simp [Device.askResult, Device.answered, Device.SameClock, requests', port', force, result, watch, time', half', strap']
    cases asked : q.asked with
    | none =>
      rw [Device.takeHead_unknown queue' untaken' (by simp [watch]) asked]
      exact answers .unknownKind
    | some a =>
      rw [Device.takeHead_watch queue' untaken' watch asked]
      cases a with
      | openLine l =>
        simp [Device.takeInWatch, Device.askPlan, Device.SameClock, requests', reads, port', force, result, watch, time',
          half', strap']
      | hold l =>
        obtain ⟨refused, -⟩ := Device.takeLine_free (line l) false
        simpa only [Device.takeInWatch, refused] using answers .wrongState
      | resume l =>
        obtain ⟨-, refused, -⟩ := Device.takeLine_free (line l) false
        simpa only [Device.takeInWatch, refused] using answers .wrongState
      | stop l strip =>
        obtain ⟨-, -, refused⟩ := Device.takeLine_free (line l) strip
        simpa only [Device.takeInWatch, refused] using answers .wrongState
      | loadCharter =>
        obtain ⟨requests', charter', reads'⟩ := g.startLoad_loads
        have starts : g.takeInWatch .loadCharter = g.startLoad := Device.takeLoad_starts (Device.allFree_iff.mpr line) idle
        have kept : g.startLoad.port = g.port ∧ s.device.SameClock g.startLoad := by
          simp [← starts, Device.SameClock, time', half', strap']
        rw [starts]
        simp_all [Device.SameClock]
      | lockLimits =>
        simp [Device.takeInWatch, Device.takeLock, Device.askResult, Device.answered, Device.SameClock, requests', port', force,
          result, watch, time', half', strap']
      | trip =>
        have driven : g.shutdown.latch = true → g.shutdown.bargeLoop = .broken := fun set => by
          rw [shutdown', latch] at set
          rw [shutdown', barge, if_pos set]
        obtain ⟨set, broken⟩ := g.tripped_shutdown driven
        simp [Device.takeInWatch, Device.takeTrip, Device.askResult, Device.answered, Device.SameClock, requests', port', force,
          result, watch, time', half', strap', set, broken]
      | tripReset =>
        obtain ⟨answered, charter', kept⟩ := Device.takeTripReset_free line
        have asks : g.takeInWatch .tripReset = g.takeTripReset := rfl
        have kept' : g.takeTripReset.port = g.port ∧ s.device.SameClock g.takeTripReset := by
          simp [← asks, Device.SameClock, time', half', strap']
        obtain ⟨port'', time'', half'', strap''⟩ := kept'
        rw [shutdown', latch, shipLoop, shutdown] at answered
        rw [asks]
        simpa [Device.finish_answered, port'', port', kept, requests', charter', result, force, watch, Device.SameClock, time', half',
          strap', time'', half'', strap''] using answered
      | silence =>
        simp [Device.takeInWatch, Device.takeSilence, Device.askResult, Device.answered, Device.SameClock, requests', port',
          force, result, watch, time', half', strap']

end Sys2Proof.Machine

/-! SUPPORT. The end of a failed load (O38). -/

namespace Sys2Proof.Machine

open Sys2Proof

/-! ## The plant emptied (R2, R48, R73, R103, R183) -/

theorem Device.unfitLine_line (s : Device) (l m : Line) :
    (s.unfitLine l).line m = if m = l then { s.line l with fitted := false } else s.line m := by
  simp [Device.unfitLine]

@[simp] theorem Device.unfitLine_keeps (s : Device) (l : Line) :
    (s.unfitLine l).charter = s.charter ∧ (s.unfitLine l).time = s.time ∧ (s.unfitLine l).half = s.half ∧
      (s.unfitLine l).strap = s.strap ∧ (s.unfitLine l).port = s.port ∧ (s.unfitLine l).jobs = s.jobs ∧
      (s.unfitLine l).requests = s.requests ∧ (s.unfitLine l).reports = s.reports ∧
      (s.unfitLine l).shutdown = s.shutdown ∧ (s.unfitLine l).link = s.link ∧ (s.unfitLine l).bus = s.bus := by
  simp [Device.unfitLine]

/-- The charter unit failed, and every line unfitted. -/
def Device.unfitted (s : Device) (r : LoadResult) (detail : Word) : Device :=
  (s.setCharter (s.charter.failed r detail)).forLines (fun l s => s.unfitLine l)

theorem Device.unfitted_line (s : Device) (r : LoadResult) (detail : Word) (l : Line) :
    (s.unfitted r detail).line l = { s.line l with fitted := false } := by
  cases l <;> simp [Device.unfitted, Device.forLines, Device.unfitLine_line]

@[simp] theorem Device.unfitted_keeps (s : Device) (r : LoadResult) (detail : Word) :
    (s.unfitted r detail).charter = s.charter.failed r detail ∧ (s.unfitted r detail).time = s.time ∧
      (s.unfitted r detail).half = s.half ∧ (s.unfitted r detail).strap = s.strap ∧ (s.unfitted r detail).port = s.port ∧
      (s.unfitted r detail).jobs = s.jobs ∧ (s.unfitted r detail).requests = s.requests ∧
      (s.unfitted r detail).reports = s.reports ∧ (s.unfitted r detail).shutdown = s.shutdown ∧
      (s.unfitted r detail).link = s.link ∧ (s.unfitted r detail).bus = s.bus := by
  simp [Device.unfitted, Device.forLines]

/-- Emptying the node table one node at a time leaves everything but nodes and targets (and their marks). -/
theorem Device.blankNodes_keeps (ns : List NodeNo) (s : Device) :
    ∃ d : Device, ns.foldl (fun s n => (s.setNode n .blank).setTarget n ⟨.closed, false⟩) s = d ∧ d.lines = s.lines ∧
      d.tanks = s.tanks ∧ d.charter = s.charter ∧ d.time = s.time ∧ d.half = s.half ∧ d.strap = s.strap ∧ d.port = s.port ∧
      d.jobs = s.jobs ∧ d.requests = s.requests ∧ d.reports = s.reports ∧ d.shutdown = s.shutdown ∧ d.link = s.link ∧
      ∀ n, d.node n = if n ∈ ns then .blank else s.node n := by
  induction ns generalizing s with
  | nil => exact ⟨s, rfl, rfl, rfl, rfl, rfl, rfl, rfl, rfl, rfl, rfl, rfl, rfl, rfl, fun n => by simp⟩
  | cons m ns ih =>
    obtain ⟨d, fold, lines, tanks, charter, time, half, strap, port, jobs, requests, reports, shutdown, link, node⟩ :=
      ih ((s.setNode m .blank).setTarget m ⟨.closed, false⟩)
    refine ⟨d, fold, ?_⟩
    simp only [lines, tanks, charter, time, half, strap, port, jobs, requests, reports, shutdown, link, node]
    refine ⟨by simp, by simp, by simp, by simp, by simp, by simp, by simp, by simp, by simp, by simp, by simp, by simp,
      fun n => ?_⟩
    by_cases member : n ∈ ns
    · simp [member]
    · simp [member]

/-- The plant as a failed load leaves it. -/
def Device.emptied (s : Device) (r : LoadResult) (detail : Word) : Device :=
  (({ s.unfitted r detail with tanks := Vector.replicate 24 none } : Device).forLines (fun l s => s.setTopOff l .empty)).emptyNodes

theorem Device.emptied_keeps (s : Device) (r : LoadResult) (detail : Word) :
    (s.emptied r detail).lines = (s.unfitted r detail).lines ∧ (s.emptied r detail).tanks = Vector.replicate 24 none ∧
      (s.emptied r detail).charter = s.charter.failed r detail ∧ (s.emptied r detail).time = s.time ∧
      (s.emptied r detail).half = s.half ∧ (s.emptied r detail).strap = s.strap ∧ (s.emptied r detail).port = s.port ∧
      (s.emptied r detail).jobs = s.jobs ∧ (s.emptied r detail).requests = s.requests ∧
      (s.emptied r detail).reports = s.reports ∧ (s.emptied r detail).shutdown = s.shutdown ∧
      (s.emptied r detail).link = s.link ∧ (s.emptied r detail).bus.slot = none ∧
      ∀ n, (s.emptied r detail).node n = .blank := by
  obtain ⟨d, fold, lines, tanks, charter, time, half, strap, port, jobs, requests, reports, shutdown, link, node⟩ :=
    Device.blankNodes_keeps allNodes
      (({ s.unfitted r detail with tanks := Vector.replicate 24 none } : Device).forLines (fun l s => s.setTopOff l .empty))
  have emptied : s.emptied r detail = { d with bus := { d.bus with slot := none, tail := .none } } := by
    rw [Device.emptied, Device.emptyNodes, fold]
  have nodes (n : NodeNo) : (s.emptied r detail).node n = d.node n := Device.node_congr _ _ n (by rw [emptied])
  refine ⟨?_, ?_, ?_, ?_, ?_, ?_, ?_, ?_, ?_, ?_, ?_, ?_, ?_, fun n => ?_⟩
  case refine_14 => rw [nodes, node, if_pos (mem_allNodes n)]
  all_goals rw [emptied]
  all_goals simp_all [Device.forLines]

/-- The emptied device with its LOAD_FAILED report. -/
def Device.failReported (s : Device) (r : LoadResult) (detail : Word) : Device :=
  (s.emptied r detail).clearIndications.submit .loadFailed 0 0 (.load r) detail (crcWord s.charter.working)

/-- The emptied device with the horn off, and its outputs judged. -/
def Device.failShown (s : Device) (r : LoadResult) (detail : Word) : Device :=
  ((s.failReported r detail).setShutdown
    { (s.failReported r detail).shutdown with hornSounding := false }).driveBargeLoop.judgeAlarm

theorem Device.failedLoad_eq (s : Device) (r : LoadResult) (detail : Word) : s.failedLoad r detail =
    (((s.failShown r detail).linkEntersPassive.setBusMode .off).markStatus true).setInterrupt := rfl

/-- What a failed load leaves (R183). -/
theorem Device.failedLoad_keeps (s : Device) (r : LoadResult) (detail : Word) :
    (s.failedLoad r detail).lines = (s.unfitted r detail).lines ∧ (s.failedLoad r detail).tanks = Vector.replicate 24 none ∧
      (s.failedLoad r detail).charter = s.charter.failed r detail ∧ (s.failedLoad r detail).time = s.time ∧
      (s.failedLoad r detail).half = s.half ∧ (s.failedLoad r detail).strap = s.strap ∧ (s.failedLoad r detail).port = s.port ∧
      (s.failedLoad r detail).jobs = s.jobs ∧ (s.failedLoad r detail).requests = s.requests ∧
      (s.failedLoad r detail).bus.slot = none ∧ (s.failedLoad r detail).bus.mode = .off ∧
      (s.failedLoad r detail).link.state = .idle ∧ (s.failedLoad r detail).link.taking = false ∧
      (s.failedLoad r detail).reports.interrupt = false ∧ ∀ n, (s.failedLoad r detail).node n = .blank := by
  obtain ⟨lines, tanks, charter, time, half, strap, port, jobs, requests, reports, shutdown, link, slot, node⟩ :=
    s.emptied_keeps r detail
  have nodes : (s.failedLoad r detail).nodes = (s.emptied r detail).nodes := by
    simp [Device.failedLoad_eq, Device.failShown, Device.failReported, Device.clearIndications]
  have node' (n : NodeNo) : (s.failedLoad r detail).node n = .blank := by rw [Device.node_congr _ _ n nodes, node]
  refine ⟨?_, ?_, ?_, ?_, ?_, ?_, ?_, ?_, ?_, ?_, ?_, ?_, ?_, ?_, node'⟩
  all_goals simp [Device.failedLoad_eq, Device.failShown, Device.failReported, Device.clearIndications, lines, tanks, charter,
    time, half, strap, port, jobs, requests, slot, Device.linkEntersPassive, Device.setInterrupt, Device.interruptLevel,
    CharterUnit.failed]

theorem Device.failedLoad_shutdown (s : Device) (r : LoadResult) (detail : Word) :
    (s.failedLoad r detail).shutdown.latch = s.shutdown.latch ∧ (s.failedLoad r detail).shutdown.bargeLoop = .broken ∧
      (s.failedLoad r detail).shutdown.hornSounding = false := by
  obtain ⟨-, -, charter, -, -, -, -, -, -, -, shutdown, -⟩ := s.emptied_keeps r detail
  have mode : (s.charter.failed r detail).mode = .passive := rfl
  have shown : (s.failedLoad r detail).shutdown = (s.failShown r detail).shutdown := by simp [Device.failedLoad_eq]
  rw [shown, Device.failShown, Device.judgeAlarm]
  split <;> simp [Device.failReported, Device.clearIndications, Device.driveBargeLoop, charter, mode, shutdown]

/-- The end of a frame leaves no slot in progress. -/
theorem Device.endFrame_slot (d : Device) : d.endFrame.bus.slot = none := by
  unfold Device.endFrame
  dsimp only
  split <;> rfl

/-- With no node enrolled a frame that starts has no slot. -/
theorem Device.startFrame_blank (d : Device) (blank : ∀ n, (d.node n).enrolled = false) : d.startFrame.bus.slot = none := by
  have first : allNodes.find? (fun n => (d.node n).enrolled) = none := by
    rw [List.find?_eq_none]
    intro n _
    simp [blank n]
  unfold Device.startFrame
  dsimp only
  split
  · exact Device.endFrame_slot _
  case h_2 n found => exact absurd (first.symm.trans found) (by simp)

/-- With no node enrolled an event's end starts no slot. -/
theorem Device.finish_blank (s : Device) (idle : s.bus.slot = none) (blank : ∀ n, (s.node n).enrolled = false) :
    s.finish.bus.slot = none := by
  have mode : s.takeBusMode.bus.slot = none := by
    unfold Device.takeBusMode
    dsimp only
    split
    · exact idle
    · split <;> exact idle
  have slot : s.finish.bus.slot = s.takeBusMode.startDueFrame.bus.slot := by simp [Device.finish]
  rw [slot]
  unfold Device.startDueFrame
  split
  · unfold Device.requestFrame
    split
    · exact Device.startFrame_blank _ (fun n => by
        have node : s.takeBusMode.node n = s.node n := by simp
        exact (congrArg Node.enrolled node).trans (blank n))
    · exact mode
  · exact mode

/-- Outside WATCH an event's end leaves the bus OFF (R114). -/
theorem Device.finish_off (s : Device) (quiet : s.charter.mode ≠ .watch) : s.finish.bus.mode = .off := by
  have mode : s.finish.bus.mode = s.takeBusMode.bus.mode := by simp [Device.finish]
  have wanted : s.wantedBusMode = .off := if_pos quiet
  rw [mode]
  unfold Device.takeBusMode
  dsimp only
  rw [wanted]
  split
  case isTrue same => exact same.symm
  case isFalse => split <;> rfl

/-- Settles O38. -/
theorem aFailedLoadEntersPassive : Obligations.AFailedLoadEntersPassive := by
  unfold Obligations.AFailedLoadEntersPassive
  refine ⟨fun s ws r detail burst read bad phase => ?_, fun s ws r detail q rest burst read bad untaken queue => ?_⟩
  · obtain ⟨t, run, mem, device⟩ := State.charterReadDone_last burst
    refine ⟨t, run, mem, ?_⟩
    obtain ⟨charter, port, requests, jobs, lines, -, shutdown, time, half, strap⟩ := s.loadRead_keeps
    generalize s.loadRead = d at *
    generalize s.charterWords 31 = words at *
    have working : d.charter.working = ws := by rw [charter, read]
    have judged : d.judgeLoad = (d.failedLoad r detail).endLoad r := Device.judgeLoad_bad (by rw [working, charter]; exact bad)
    obtain ⟨linesF, tanksF, charterF, timeF, halfF, strapF, portF, jobsF, requestsF, slotF, busF, stateF, takingF, interruptF, nodeF⟩ :=
      d.failedLoad_keeps r detail
    obtain ⟨latch, barge, horn⟩ := d.failedLoad_shutdown r detail
    generalize d.failedLoad r detail = f at *
    have phase' : f.requests.phase = .load ∨ f.requests.phase = .untaken ∧ f.requests.queue = [] := by
      simpa [requests, requestsF] using phase
    obtain ⟨charter', lines', -, -, tanks', nodes', link', reports', shutdown', bus', -, time', half', strap'⟩ :=
      Device.endLoad_keeps r phase'
    have answer := Device.endLoad_answer r phase'
    rw [← judged] at charter' lines' tanks' nodes' link' reports' shutdown' bus' time' half' strap' answer
    rw [device]
    generalize d.judgeLoad = e at *
    have line (l : Line) : (e.finish.line l).fitted = false := by
      have same : e.finish.line l = (d.unfitted r detail).line l := Device.line_congr _ _ l (by simp [lines', linesF])
      rw [same, d.unfitted_line]
    have tank (k : TankNo) : e.finish.tank k = none := by
      have get : e.finish.tank k = e.finish.tanks[k.val] := rfl
      rw [get]
      simp [tanks', tanksF]
    have node (n : NodeNo) : e.node n = .blank := by rw [Device.node_congr e f n nodes', nodeF]
    have slot : e.finish.bus.slot = none := e.finish_blank (by rw [bus', slotF]) (fun n => by rw [node]; rfl)
    have mode : e.finish.bus.mode = .off := e.finish_off (by simp [charter', charterF, CharterUnit.failed])
    refine ⟨?_, ?_, ?_, ?_, ?_, ?_, ?_, line, tank, fun n => ?_, mode, slot, ?_, ?_, ?_, ?_, ?_, ?_, ?_⟩
    · rw [Device.finish_answered]
      simpa [port, requests, jobs, portF, requestsF, jobsF] using answer
    · simp [charter', charterF, CharterUnit.failed]
    · simp [charter', charterF, CharterUnit.failed]
    · simp [charter', charterF, CharterUnit.failed]
    · simp [charter', charterF, CharterUnit.failed]
    · simp [charter', charterF, CharterUnit.failed]
    · simp [charter', charterF, CharterUnit.failed, charter]
    · simp [node]
    · simp [link', stateF]
    · simp [link', takingF]
    · simp [shutdown', horn]
    · simp [shutdown', barge]
    · simp [shutdown', latch, shutdown]
    · simp [reports', interruptF]
    · simp [Device.SameClock, time', half', strap', timeF, halfF, strapF, time, half, strap]
  · obtain ⟨t, run, mem, device⟩ := State.charterReadDone_last burst
    refine ⟨t, run, mem, ?_⟩
    obtain ⟨charter, port, requests, jobs, -, -, -, time, half, strap⟩ := s.loadRead_keeps
    generalize s.loadRead = d at *
    generalize s.charterWords 31 = words at *
    have working : d.charter.working = ws := by rw [charter, read]
    have judged : d.judgeLoad = (d.failedLoad r detail).endLoad r := Device.judgeLoad_bad (by rw [working, charter]; exact bad)
    obtain ⟨-, -, charterF, timeF, halfF, strapF, portF, jobsF, requestsF, -⟩ := d.failedLoad_keeps r detail
    rw [Device.endLoad_dropped r (by rw [requestsF, requests, untaken])] at judged
    generalize opened : ({ d.failedLoad r detail with
      port := { (d.failedLoad r detail).port with writesOpen := true } } : Device) = g at judged
    have charter' : g.charter = d.charter.failed r detail := by simp [← opened, charterF]
    have passive : g.charter.mode = .passive := by rw [charter']; rfl
    have requests' : g.requests = s.device.requests := by simp [← opened, requestsF, requests]
    have reads : g.jobs.reads = s.device.jobs.reads := by simp [← opened, jobsF, jobs]
    have port' : g.port = { s.device.port with burst := none, writesOpen := true } := by simp [← opened, portF, port]
    have time' : g.time = s.device.time := by simp [← opened, timeF, time]
    have half' : g.half = s.device.half := by simp [← opened, halfF, half]
    have strap' : g.strap = s.device.strap := by simp [← opened, strapF, strap]
    have queue' : g.requests.queue = q :: rest := by rw [requests', queue]
    have untaken' : g.requests.phase = .untaken := by rw [requests', untaken]
    have force : g.charter.inForce = none := by rw [charter']; rfl
    have result : g.charter.result = r := by rw [charter']; rfl
    have told : g.charter.detail = detail := by rw [charter']; rfl
    rw [device, judged]
    clear opened judged
    have answers (x : Result) : (g.askResult x).finish.port = { s.device.port with burst := none, writesOpen := true } ∧
        (g.askResult x).finish.requests.queue = s.device.requests.queue ∧ (g.askResult x).finish.charter.inForce = none ∧
        (g.askResult x).finish.charter.result = r ∧ (g.askResult x).finish.charter.detail = detail ∧
        ((g.askResult x).finish.answered x ∧ (g.askResult x).finish.charter.mode = .passive) ∧
        s.device.SameClock (g.askResult x).finish := by
      simp [Device.askResult, Device.answered, Device.SameClock, requests', port', force, result, told, passive, time', half',
        strap']
    cases asked : q.asked with
    | none =>
      rw [Device.takeHead_unknown queue' untaken' (by simp [passive]) asked]
      exact answers .unknownKind
    | some a =>
      rw [Device.takeHead_passive queue' untaken' passive asked]
      cases a with
      | loadCharter =>
        obtain ⟨requests'', charter'', reads''⟩ := g.startLoad_loads
        have starts : g.takeInPassive .loadCharter = g.startLoad := rfl
        have kept : g.startLoad.port = g.port ∧ s.device.SameClock g.startLoad := by
          simp [← starts, Device.SameClock, time', half', strap']
        rw [starts]
        simp_all [Device.SameClock]
      | openLine l => exact answers .notLoaded
      | hold l => exact answers .notLoaded
      | resume l => exact answers .notLoaded
      | stop l strip => exact answers .notLoaded
      | lockLimits => exact answers .notLoaded
      | trip => exact answers .notLoaded
      | tripReset => exact answers .notLoaded
      | silence => exact answers .notLoaded

end Sys2Proof.Machine

/-! SUPPORT. The result write and the requests that are answered without being taken (O31). -/

namespace Sys2Proof.Machine

open Sys2Proof

/-! ## What a request taken brings about, seen from devices alike (R165 to R169) -/

section
variable {s d t u : Device}

theorem Device.SameLines.trans (h : s.SameLines d) (i : d.SameLines t) : s.SameLines t := by
  obtain ⟨lines, memory, governors, hoses, topOffs⟩ := h
  obtain ⟨lines', memory', governors', hoses', topOffs'⟩ := i
  exact ⟨lines'.trans lines, memory'.trans memory, governors'.trans governors, hoses'.trans hoses, topOffs'.trans topOffs⟩

theorem Device.alike.sameLines (h : s.alike t) : s.SameLines t := by
  obtain ⟨-, ⟨lines, -⟩, -⟩ := h
  exact lines

/-- What a request brings about is of the plant, but for an OPEN and a LOAD_CHARTER, which also ask their read jobs. -/
theorem Device.alike.requestTaken (start : s.alike d) (finish : t.alike u) {a : Asked} (open_ : ∀ l, a ≠ .openLine l)
    (load : a ≠ .loadCharter) (h : s.requestTaken t a) : d.requestTaken u a := by
  have line (l : Line) : d.line l = s.line l := Device.line_congr _ _ l start.lines
  have line' (l : Line) : u.line l = t.line l := Device.line_congr _ _ l finish.lines
  cases a with
  | openLine l => exact absurd rfl (open_ l)
  | loadCharter => exact absurd rfl load
  | hold l => exact start.holdTaken finish h
  | resume l => exact start.holdCleared finish h
  | stop l strip =>
    obtain ⟨running, lineup, stopping⟩ := h
    simp only [Device.requestTaken, line, line']
    exact ⟨fun state => start.stopTaken finish (running state), fun state => start.lineupStopped finish (lineup state), stopping⟩
  | lockLimits =>
    obtain ⟨charter, plant⟩ := h
    obtain ⟨-, before, charter'⟩ := start.symm
    obtain ⟨-, after, charter''⟩ := finish
    exact ⟨by rw [charter'', charter, charter'], before.trans (plant.trans after)⟩
  | trip =>
    unfold Device.requestTaken at h ⊢
    dsimp only at h ⊢
    rw [start.shutdown]
    split at h
    · rename_i latch
      obtain ⟨shutdown, same⟩ := h
      rw [if_pos latch, finish.shutdown]
      exact ⟨shutdown, (start.symm.sameLines.trans same).trans finish.sameLines⟩
    · rename_i clear
      rw [if_neg clear]
      exact start.latchSet finish h
  | tripReset =>
    obtain ⟨latch, first, barge, lines⟩ := h
    simp only [Device.requestTaken, finish.shutdown, line, line']
    refine ⟨latch, first, barge, fun l => ?_⟩
    have taken := lines l
    split at taken
    · rename_i tripped
      rw [if_pos tripped]
      exact start.closingTaken finish taken
    · rename_i stays
      rwa [if_neg stays]
  | silence =>
    obtain ⟨shutdown, same⟩ := h
    refine ⟨by rw [finish.shutdown, shutdown, start.shutdown], (start.symm.sameLines.trans same).trans finish.sameLines⟩

end

/-! ## A request taken in WATCH with its result (R165, R168, R169) -/

theorem LineState.active_iff {st : LineState} : st.active = true ↔ st.running = true ∨ st = .lineup := by
  cases st <;> simp [LineState.running, LineState.active]

/-- A STOP with result DONE stops the line, or flags a STOPPING line to be stripped (R19). -/
theorem Device.takeStop_done {d : Device} {l : Line} (strip : Bool)
    (done : (d.line l).state.active = true ∨ (d.line l).state = .stopping) :
    ∃ e, d.takeStop l strip = e.askResult .done ∧ d.requestTaken e (.stop l strip) := by
  by_cases active : (d.line l).state.active = true
  · refine ⟨d.stopTrigger l .stationStop strip, by simp [Device.takeStop, active], ?_, ?_, fun stopping => ?_⟩
    · exact d.stopTrigger_taken l _ _
    · exact d.stopTrigger_lineup l _ _
    · simp [stopping, LineState.active] at active
  · have stopping := done.resolve_left active
    refine ⟨if strip then d.setLine l { d.line l with stripFlag := true } else d, ?_, fun running => ?_, fun lineup => ?_, fun _ => ?_⟩
    · simp [Device.takeStop, stopping, LineState.active]
    · simp [stopping, LineState.running] at running
    · simp [stopping] at lineup
    · cases strip <;> simp

/-- TRIP sets the latch, or finds it SET (R96). -/
theorem Device.takeTrip_taken (d : Device) : d.requestTaken (d.esdTrigger .stationTrip 0 0 0) .trip := by
  unfold Device.requestTaken
  dsimp only
  split
  · rename_i latch
    simp [Device.esdTrigger, latch, Device.SameLines]
  · rename_i clear
    rw [Device.esdTrigger, if_neg clear]
    exact d.setLatch_latchSet .stationTrip 0 0 0

/-- TRIP_RESET with result DONE clears the latch and sends each TRIPPED line to CLOSING (R97, R98). -/
theorem Device.clearLatch_requestTaken {d : Device} (watch : d.charter.mode = .watch) :
    d.requestTaken d.clearLatch .tripReset := by
  obtain ⟨latch, first, -, -, barge, -⟩ := d.clearLatch_shutdown
  refine ⟨latch, first, by rw [barge, if_pos watch], fun l => ?_⟩
  have line := d.clearLatch_line l
  split at line
  · rename_i tripped
    rw [if_pos tripped]
    exact d.clearLatch_taken l tripped
  · rename_i stays
    rwa [if_neg stays]

/-- The request is given the result in WATCH: DONE with its effect, or a refusal that changes nothing. -/
def Device.GivenInWatch (d : Device) (a : Asked) (r : Result) : Prop :=
  ∃ e, d.takeInWatch a = e.askResult r ∧ if r = .done then d.requestTaken e a else e = d

theorem Device.GivenInWatch.done {d e : Device} {a : Asked} (taken : d.takeInWatch a = e.askResult .done)
    (effect : d.requestTaken e a) : d.GivenInWatch a .done :=
  ⟨e, taken, by rwa [if_pos rfl]⟩

theorem Device.GivenInWatch.refused {d : Device} {a : Asked} {r : Result} (taken : d.takeInWatch a = d.askResult r)
    (refusal : r ≠ .done) : d.GivenInWatch a r :=
  ⟨d, taken, by rw [if_neg refusal]⟩

/-- A request that is given a result in WATCH: DONE with its effect, or a refusal that changes nothing. -/
theorem Device.takeInWatch_result {d : Device} {a : Asked} {r : Result} (watch : d.charter.mode = .watch)
    (result : d.resultInWatch a = some r) :
    d.GivenInWatch a r := by
  cases a with
  | openLine l => simp [Device.resultInWatch] at result
  | hold l =>
    obtain rfl := Option.some.inj result
    split
    · rename_i holds
      exact .done (if_pos holds) (d.holdTrigger_taken l .stationHold holds)
    · rename_i stays
      exact .refused (if_neg stays) (by decide)
  | resume l =>
    obtain rfl := Option.some.inj result
    split
    · rename_i held
      exact .done (if_pos held) (d.clearHold_cleared l .stationHold held.1 held.2)
    · rename_i stays
      exact .refused (if_neg stays) (by decide)
  | stop l strip =>
    obtain rfl := Option.some.inj result
    split
    · rename_i stops
      obtain ⟨e, taken, effect⟩ := Device.takeStop_done strip stops
      exact .done taken effect
    · rename_i stays
      obtain ⟨active, stopping⟩ := not_or.mp stays
      exact .refused (by simp [Device.takeInWatch, Device.takeStop, active, stopping]) (by decide)
  | loadCharter =>
    unfold Device.resultInWatch at result
    by_cases free : d.allFree = false
    · obtain rfl : .linesActive = r := by simpa [free] using result
      exact .refused (by simp [Device.takeInWatch, Device.takeLoad, free]) (by decide)
    · by_cases idle : d.allNodesIdle = false
      · obtain rfl : .nodesBusy = r := by simpa [free, idle] using result
        exact .refused (by simp [Device.takeInWatch, Device.takeLoad, free, idle]) (by decide)
      · simp [free, idle] at result
  | lockLimits =>
    obtain rfl := Option.some.inj result
    exact .done rfl (by simp [Device.requestTaken, Device.SamePlant, Device.SameLines])
  | trip =>
    obtain rfl := Option.some.inj result
    exact .done rfl d.takeTrip_taken
  | tripReset =>
    have judged : d.tripResetResult = r := by
      have named := Option.some.inj result
      simpa [Device.tripResetResult, watch] using named
    have taken : d.takeInWatch .tripReset = (if r = .done then d.clearLatch else d).askResult r := by
      rw [Device.takeInWatch, Device.takeTripReset_eq d watch, judged]
    by_cases done : r = .done
    · subst done
      exact .done (by rw [taken, if_pos rfl]) (Device.clearLatch_requestTaken watch)
    · exact .refused (by rw [taken, if_neg done]) done
  | silence =>
    obtain rfl := Option.some.inj result
    exact .done rfl (by simp [Device.requestTaken, Device.SameLines])

/-- A request without a result in WATCH is an OPEN, or a LOAD_CHARTER that is taken. -/
theorem Device.takeInWatch_waits {d : Device} {a : Asked} (waits : d.resultInWatch a = none) :
    (∃ l, a = .openLine l ∧ d.takeInWatch a = d.askPlan l) ∨ a = .loadCharter ∧ d.takeInWatch a = d.startLoad := by
  cases a with
  | openLine l => exact .inl ⟨l, rfl, rfl⟩
  | loadCharter =>
    refine .inr ⟨rfl, ?_⟩
    unfold Device.resultInWatch at waits
    by_cases free : d.allFree = false
    · simp [free] at waits
    · by_cases idle : d.allNodesIdle = false
      · simp [free, idle] at waits
      · simp [Device.takeInWatch, Device.takeLoad, free, idle]
  | _ => simp [Device.resultInWatch] at waits

/-- The start of a load, at the end of its event, is the LOAD_CHARTER taken (R117, R149, R162, R179). -/
theorem Device.startLoad_taken (d : Device) : d.requestTaken d.startLoad.finish .loadCharter := by
  obtain ⟨charter, jobs, bus, link, shutdown, -, requests⟩ := d.enterLoading_effect
  have quiet : d.startLoad.finish.bus = d.enterLoading.bus := by
    rw [Device.finish_bus] <;> simp [Device.startLoad, charter, bus]
  unfold Device.requestTaken
  rw [quiet]
  simp [Device.startLoad, charter, jobs, bus, link, shutdown, Device.SameLines]

/-! ## The result write (R165) -/

/-- The request in hand has left the queue at its result write, and the next has not been taken. -/
def Device.resultGiven (s : Device) (rest : List Request) : Device :=
  { s with jobs := { s.jobs with result := none }, port := { s.port with writesOpen := true, waitCount := 0 },
           requests := ⟨rest, .untaken⟩ }

theorem Device.resultGiven_alike (s : Device) (rest : List Request) : (s.resultGiven rest).alike s :=
  ⟨rfl, ⟨⟨rfl, rfl, rfl, rfl, rfl⟩, rfl, rfl, rfl, rfl, rfl⟩, rfl⟩

/-- The result write stores its word, and the next request is taken in its event. -/
theorem exec_resultWrite {s : State} {q : Request} {rest : List Request} {r : Result} (wf : s.mem.wf = true)
    (granted : s.device.grantable = some (.result r)) (queue : s.device.requests.queue = q :: rest) :
    ∃ t : State, exec .resultWrite s = .next t.arbitrate ∧
      storesOnly s.mem t.mem (s.device.address (requestOffset q.word)) [requestWordOf q.kind q.argument r] ∧
      t.device = (s.device.resultGiven rest).takeHead.finish := by
  refine ⟨(s.grantJob (.result r)).settle, ?_, ?_, ?_⟩
  · simp only [exec, execResultWrite, granted, Option.filter_some, Job.isResult, if_true, State.grant]
  · have stores := storesOnly_writeWord s.mem (s.device.address (requestOffset q.word)) (requestWordOf q.kind q.argument r)
      (s.device.address_room _ _ (requestOffset_room q.word).1) wf
    simpa [State.settle, State.grantJob, State.grantResult, Device.resultWord, queue, Device.address] using stores
  · simp only [State.settle, State.grantJob, State.grantResult, Device.nextRequest, queue, List.tail_cons, Device.resultGiven]

/-- A request's taking keeps the queue. -/
theorem Device.takeHead_queue (d : Device) : d.takeHead.requests.queue = d.requests.queue := by
  unfold Device.takeHead
  split
  · rfl
  · split
    · rfl
    · split
      · rfl
      · split
        · rfl
        · unfold Device.takeInPassive Device.startLoad
          split <;> simp
      · split
        · rfl
        · exact d.takeInWatch_queue _

/-- Without a next request, and in LOADING, nothing is taken. -/
theorem Device.takeHead_none {d : Device} (none : d.requests.queue = [] ∨ d.charter.mode = .loading) : d.takeHead = d := by
  obtain empty | loading := none
  · exact Device.takeHead_empty empty
  · unfold Device.takeHead
    rw [loading]
    split
    · rfl
    · split <;> rfl

/-- No request taken in WATCH drives the interrupt but a LOAD_CHARTER that starts a load. -/
theorem Device.takeInWatch_interrupt {d : Device} {a : Asked} (h : a ≠ .loadCharter ∨ d.resultInWatch a ≠ none) :
    (d.takeInWatch a).reports.interrupt = d.reports.interrupt := by
  cases a with
  | openLine l => rfl
  | hold l => simp only [Device.takeInWatch, Device.takeHold]; split <;> simp
  | resume l => simp only [Device.takeInWatch, Device.takeResume]; split <;> simp
  | stop l strip => simp only [Device.takeInWatch, Device.takeStop]; (repeat' split) <;> simp
  | loadCharter =>
    simp only [Device.takeInWatch, Device.takeLoad]
    split
    · simp
    · split
      · simp
      · rename_i free idle
        exact absurd (h.resolve_left (by simp)) (by simp [Device.resultInWatch, free, idle])
  | lockLimits => rfl
  | trip => simp [Device.takeInWatch, Device.takeTrip]
  | tripReset => simp only [Device.takeInWatch, Device.takeTripReset]; (repeat' split) <;> simp
  | silence => rfl

/-- The ring is as before when the request's taking leaves the interrupt. -/
theorem Device.taken_sameRing {s : Device} {rest : List Request}
    (interrupt : (s.resultGiven rest).takeHead.reports.interrupt = s.reports.interrupt) :
    s.SameRing (s.resultGiven rest).takeHead.finish := by
  obtain ⟨reports, producer, consumer⟩ : (s.resultGiven rest).reports = s.reports ∧
      (s.resultGiven rest).jobs.producer = s.jobs.producer ∧ (s.resultGiven rest).jobs.consumer = s.jobs.consumer :=
    ⟨rfl, rfl, rfl⟩
  simp [Device.SameRing, interrupt, reports, producer, consumer]

/-- The next request is only given a result: the plant, the charter unit and the ring are as before. -/
theorem Device.taken_refused {s : Device} {rest : List Request} {r : Result}
    (taken : (s.resultGiven rest).takeHead = (s.resultGiven rest).askResult r) :
    (s.resultGiven rest).takeHead.finish.answered r ∧ s.SamePlant (s.resultGiven rest).takeHead.finish ∧
      (s.resultGiven rest).takeHead.finish.charter = s.charter ∧ s.SameRing (s.resultGiven rest).takeHead.finish := by
  rw [taken]
  simp [Device.answered, Device.askResult, Device.SamePlant, Device.SameLines, Device.SameRing, Device.resultGiven]

/-- The next request taken in WATCH, by its result. -/
theorem Device.taken_watch {s : Device} {a : Asked} {rest : List Request} (watch : s.charter.mode = .watch)
    (taken : (s.resultGiven rest).takeHead = (s.resultGiven rest).takeInWatch a) :
    (match s.resultInWatch a with
      | some d => (s.resultGiven rest).takeHead.finish.answered d ∧
        (if d = .done then s.requestTaken (s.resultGiven rest).takeHead.finish a
         else s.SamePlant (s.resultGiven rest).takeHead.finish ∧
          (s.resultGiven rest).takeHead.finish.charter = s.charter)
      | none => (s.resultGiven rest).takeHead.finish.jobs.result = none ∧
        s.requestTaken (s.resultGiven rest).takeHead.finish a) := by
  have before := s.resultGiven_alike rest
  have results : (s.resultGiven rest).resultInWatch a = s.resultInWatch a := rfl
  split
  · rename_i r result
    obtain ⟨e, given, effect⟩ := Device.takeInWatch_result (d := s.resultGiven rest) watch (results.trans result)
    rw [taken, given]
    have after : e.alike (e.askResult r).finish := by simp [Device.alike, Device.SamePlant, Device.SameLines]
    refine ⟨by simp [Device.answered, Device.askResult], ?_⟩
    split at effect
    · rename_i done
      rw [if_pos done]
      refine before.requestTaken after (fun l opens => ?_) (fun loads => ?_) effect
      · simp [opens, Device.resultInWatch] at result
      · subst done
        rw [loads, Device.resultInWatch] at result
        revert result
        split
        · simp
        · split <;> simp
    · rename_i refused
      subst effect
      rw [if_neg refused]
      obtain ⟨-, plant, charter⟩ := after
      exact ⟨plant, charter⟩
  · rename_i waits
    obtain ⟨l, rfl, opens⟩ | ⟨rfl, loads⟩ := Device.takeInWatch_waits (results.trans waits)
    · rw [taken, opens]
      simp [Device.askPlan, Device.resultGiven, Device.requestTaken, Device.SamePlant, Device.SameLines]
    · rw [taken, loads]
      refine ⟨?_, (s.resultGiven rest).startLoad_taken⟩
      simp [Device.startLoad, Device.resultGiven]

/-- A request taken in WATCH has its result decided, or waits for its plan read or its load. -/
theorem Device.takeInWatch_phase {d : Device} (a : Asked) (watch : d.charter.mode = .watch) :
    (d.takeInWatch a).requests.phase ≠ .untaken := by
  cases result : d.resultInWatch a with
  | some r =>
    obtain ⟨e, given, -⟩ := Device.takeInWatch_result watch result
    simp [given, Device.askResult]
  | none =>
    obtain ⟨l, -, opens⟩ | ⟨-, loads⟩ := Device.takeInWatch_waits result
    · simp [opens, Device.askPlan]
    · simp [loads, Device.startLoad]

/-! ## Requests that are answered without being taken (R164, R166) -/

/-- A full write of a request word is judged by the request unit in every mode (R154, R155). -/
theorem Device.judgeWrite_request (d : Device) (w : RequestWord) (v : Word) :
    d.judgeWrite (fullWrite d.strap (requestOffset w) v) = d.requestWrite w v := by
  obtain ⟨room, aligned⟩ := requestOffset_room w
  rw [d.judgeWrite_full _ v (by omega) aligned]
  cases d.charter.mode <;> simp [Device.judgeInWatch, Device.judgeQuiet, Device.judgeFull, fullWrite]

theorem requestWritten_bytes (k : RequestKind) (a : Byte) :
    wordByte (requestWritten k a) 0 = kindCode k ∧ wordByte (requestWritten k a) 1 = a := by
  have ha := a.isLt
  have hb := (kindCode k).isLt
  refine ⟨BitVec.eq_of_toNat_eq ?_, BitVec.eq_of_toNat_eq ?_⟩ <;>
    simp only [wordByte, requestWritten, BitVec.toNat_ofNat, Nat.shiftRight_eq_div_pow] <;> omega

/-- The event of a granted write of a request word, by the request unit's judgement. -/
theorem State.requestWord_event {s : State} (w : RequestWord) (v : Word) {d : Device} {data : Word} (wf : s.mem.wf = true)
    (free : s.device.upstreamFree = true) (judged : s.device.countGrant.requestWrite w v = .rewritten d data) :
    ∃ t, s.access (fullWrite s.device.strap (requestOffset w) v) = .next t ∧
      storesOnly s.mem t.mem (s.device.address (requestOffset w)) [data] ∧ t.device = (d.reply .rewrite 0).finish := by
  have strap : s.device.strap = s.device.countGrant.strap := by simp
  obtain ⟨room, aligned⟩ := requestOffset_room w
  obtain ⟨t, next, device, mem⟩ := State.access_write (a := fullWrite s.device.strap (requestOffset w) v) free rfl
    (by rw [strap, Device.judgeWrite_request, judged, Judgement.rewritten])
  refine ⟨t, next, ?_, device⟩
  rw [mem, treatMemory, fullWrite, windowAddress s.device.strap _ (by omega) aligned]
  exact storesOnly_writeWord _ _ _ (s.device.address_room _ _ room) wf

/-- A request written while 8 are queued shows QUEUE_FULL, and nothing else changes (R164). -/
theorem State.request_full {s : State} (w : RequestWord) (k : RequestKind) (a : Byte) (wf : s.mem.wf = true)
    (free : s.device.upstreamFree = true) (full : 8 ≤ s.device.requests.queue.length) :
    ∃ t, s.request w k a = .next t ∧
      storesOnly s.mem t.mem (s.device.address (requestOffset w)) [requestWordOf (kindCode k) a .queueFull] ∧
      t.device.port.reply = some ⟨.rewrite, 0⟩ ∧ t.device.requests = s.device.requests ∧
      t.device.jobs.result = s.device.jobs.result ∧ t.device.jobs.reads = s.device.jobs.reads ∧
      s.device.SamePlant t.device ∧ t.device.charter = s.device.charter ∧ s.device.SameClock t.device ∧
      s.device.SameRing t.device := by
  obtain ⟨kind, argument⟩ := requestWritten_bytes k a
  have judged : s.device.countGrant.requestWrite w (requestWritten k a) =
      .rewritten s.device.countGrant (requestWordOf (kindCode k) a .queueFull) := by
    unfold Device.requestWrite
    rw [kind, argument, if_neg (by simpa [Config.requestQueueSize] using full)]
  obtain ⟨t, next, stores, device⟩ := State.requestWord_event w _ wf free judged
  refine ⟨t, next, stores, ?_⟩
  rw [device]
  simp [Device.SamePlant, Device.SameLines, Device.SameClock, Device.SameRing]

/-- Settles O31. -/
theorem resultWriteAnswersTheRequest : Obligations.ResultWriteAnswersTheRequest := by
  unfold Obligations.ResultWriteAnswersTheRequest
  refine ⟨fun q rest r s wf granted queue => ?_, fun l a s wf free full x hx => ?_, fun w v q s takes mode request asked => ?_⟩
  · obtain ⟨t, run, stores, device⟩ := exec_resultWrite wf granted queue
    refine ⟨t, run, stores, ?_⟩
    rw [device]
    refine ⟨?_, ?_, ?_, ?_, ?_, fun none => ?_, fun next later here mode => ?_⟩
    · simp [Device.takeHead_queue, Device.resultGiven]
    · simp [Device.resultGiven]
    · simp [Device.resultGiven]
    · simp [Device.resultGiven]
    · simp [Device.SameClock, Device.resultGiven]
    · rw [Device.takeHead_none (d := s.device.resultGiven rest) none]
      simp [Device.resultGiven, Device.SamePlant, Device.SameLines, Device.SameRing]
    · have untaken : (s.device.resultGiven rest).requests.phase = .untaken := rfl
      have queue' : (s.device.resultGiven rest).requests.queue = next :: later := here
      have mode' : (s.device.resultGiven rest).charter.mode = s.device.charter.mode := rfl
      refine ⟨?_, fun unknown => ?_, fun passive known other => ?_, fun passive load => ?_, fun watch a asked => ⟨?_, fun ring => ?_⟩⟩
      · simp only [Device.finish_keeps]
        cases asked : next.asked with
        | none => simp [Device.takeHead_unknown queue' untaken mode asked, Device.askResult]
        | some a =>
          cases here : s.device.charter.mode with
          | loading => exact absurd here mode
          | passive =>
            rw [Device.takeHead_passive queue' untaken here asked]
            cases a <;> simp [Device.takeInPassive, Device.askResult, Device.startLoad]
          | watch =>
            rw [Device.takeHead_watch queue' untaken here asked]
            exact Device.takeInWatch_phase a here
      · exact Device.taken_refused (Device.takeHead_unknown queue' untaken mode unknown)
      · obtain ⟨a, asked⟩ := Option.ne_none_iff_exists'.mp known
        refine Device.taken_refused ((Device.takeHead_passive queue' untaken passive asked).trans ?_)
        exact Device.takeInPassive_refuses _ (fun load => other (by rw [asked, load]))
      · rw [Device.takeHead_passive queue' untaken passive load]
        refine ⟨(s.device.resultGiven rest).startLoad_taken, ?_⟩
        simp [Device.takeInPassive, Device.startLoad, Device.resultGiven]
      · exact Device.taken_watch watch (Device.takeHead_watch queue' untaken watch asked)
      · refine Device.taken_sameRing ?_
        rw [Device.takeHead_watch queue' untaken watch asked]
        exact Device.takeInWatch_interrupt (d := s.device.resultGiven rest) ring
  · simp only [List.mem_cons, List.not_mem_nil, or_false] at hx
    obtain rfl | rfl | rfl | rfl | rfl | rfl | rfl | rfl | rfl := hx
    all_goals exact State.request_full _ _ a wf free full
  · obtain ⟨wf, free, empty, untaken⟩ := takes
    obtain ⟨d, arrived⟩ : ∃ d, d = ({ s.device.countGrant with
      requests := { s.device.countGrant.requests with queue := [q] } } : Device) := ⟨_, rfl⟩
    have queue : d.requests.queue = [q] := by rw [arrived]
    have taken : d.takeHead = d.askResult .unknownKind :=
      Device.takeHead_unknown queue (by simpa [arrived] using untaken) (by simpa [arrived] using mode) asked
    have judged : s.device.countGrant.requestWrite w v =
        .rewritten (d.askResult .unknownKind) (requestWordOf q.kind q.argument .pending) := by
      unfold Device.requestWrite
      rw [← taken, arrived, request]
      simp [empty, Config.requestQueueSize]
    obtain ⟨t, next, stores, device⟩ := State.requestWord_event w v wf free judged
    refine ⟨t, next, stores, ?_⟩
    rw [device]
    refine ⟨by simp, by simp [queue], Device.askResult_answered _ _ _ _, ?_⟩
    simp [arrived, Device.SamePlant, Device.SameLines, Device.SameClock, Device.SameRing]

end Sys2Proof.Machine

/-! SUPPORT. An operation of one line, as another line sees it: sameFor for the operations of holding, priming and topping,
and what is said of a line carried along it. -/

namespace Sys2Proof.Machine

open Sys2Proof

/-! ## Operations of a line touch its own nodes alone -/

theorem Device.claimSpeed_off (s : Device) (l : Line) (v : Nat) (n : NodeNo) (h : (s.node n).line ≠ some l) :
    (s.claimSpeed l v).node n = s.node n := by
  unfold Device.claimSpeed
  exact (Device.node_congr _ _ n (by simp)).trans (s.claimPump_off l v .sequence n h)

theorem Device.governorEnters_off (s : Device) (l : Line) (st : LineState) (n : NodeNo) (h : (s.node n).line ≠ some l) :
    (s.governorEnters l st).node n = s.node n := by
  unfold Device.governorEnters
  dsimp only
  split
  · rw [Device.claimSpeed_off _ l 0 n (by simpa using h)]
    simp
  · simp

theorem Device.enterState_off (s : Device) (l : Line) (st : LineState) (p : Step) (c : ReportCause) (n : NodeNo)
    (h : (s.node n).line ≠ some l) : (s.enterState l st p c).node n = s.node n := by
  unfold Device.enterState
  dsimp only
  simp only [Device.recompute_reads, Device.setHose_reads]
  split
  · rw [Device.governorEnters_off _ l st n (by simpa using h)]
    simp
  · rw [Device.governorEnters_off _ l st n (by simpa using h)]
    simp

theorem Device.primeClaim_off (s : Device) (l : Line) (n : NodeNo) (h : (s.node n).line ≠ some l) :
    (s.primeClaim l).node n = s.node n := by
  unfold Device.primeClaim Device.primeSpeed Device.setStep Device.setDeadline
  dsimp only
  simp only [Device.setHose_reads, Device.setLine_reads, Device.setGovernor_reads]
  rw [Device.claimSpeed_off _ l _ n (by simpa using h)]
  simp

theorem Device.primeFromLineup_off (s : Device) (l : Line) (n : NodeNo) (h : (s.node n).line ≠ some l) :
    (s.primeFromLineup l).node n = s.node n := by
  have entered := s.enterState_off l .priming .prime .none n h
  unfold Device.primeFromLineup
  rw [Device.primeClaim_off _ l n (by rw [entered]; exact h), entered]

theorem Device.primeFromHeld_off (s : Device) (l : Line) (n : NodeNo) (h : (s.node n).line ≠ some l) :
    (s.primeFromHeld l).node n = s.node n := by
  have entered := s.enterState_off l .priming .returnClosing .none n h
  unfold Device.primeFromHeld
  dsimp only
  split
  · rw [Device.primeClaim_off _ l n (by rw [entered]; exact h), entered]
  · rw [Device.claimValve_off _ l _ _ _ n (by rw [entered]; exact h), entered]

theorem Device.enterHeld_off (s : Device) (l : Line) (c : HoldCause) (n : NodeNo) (h : (s.node n).line ≠ some l) :
    (s.enterHeld l c).node n = s.node n := by
  unfold Device.enterHeld
  dsimp only
  generalize noted : s.setLine l _ = d
  have before : d.node n = s.node n := by simp [← noted]
  have entered := d.enterState_off l .held .hold (.hold c) n (by rw [before]; exact h)
  rw [Device.claimValve_off _ l _ _ _ n (by simp [Device.setDeadline, entered, before, h])]
  simp [Device.setDeadline, entered, before]

theorem Device.holdTrigger_off (s : Device) (l : Line) (c : HoldCause) (n : NodeNo) (h : (s.node n).line ≠ some l) :
    (s.holdTrigger l c).node n = s.node n := by
  unfold Device.holdTrigger
  dsimp only
  split
  · exact s.enterHeld_off l c n h
  · split <;> simp

theorem Device.clearHold_off (s : Device) (l : Line) (c : HoldCause) (n : NodeNo) (h : (s.node n).line ≠ some l) :
    (s.clearHold l c).node n = s.node n := by
  unfold Device.clearHold
  dsimp only
  split
  · split
    · rw [Device.primeFromHeld_off _ l n (by simpa using h)]
      simp
    · simp
  · rfl

theorem Device.startTest_off (s : Device) (l : Line) (n : NodeNo) (h : (s.node n).line ≠ some l) :
    (s.startTest l).node n = s.node n := by
  unfold Device.startTest
  split
  · exact s.primeFromLineup_off l n h
  · rfl

/-! ## Operations of another line, and of no line -/

/-- An operation of line L that touches no tank and the nodes of L alone leaves another line as it was. -/
theorem Device.sameFor_of {s t : Device} {l m : Line} (other : m ≠ l) (time : t.time = s.time) (charter : t.charter = s.charter)
    (stills : t.stills = s.stills) (tanks : t.tanks = s.tanks)
    (items : t.line m = s.line m ∧ t.governor m = s.governor m ∧ t.hose m = s.hose m ∧ t.topOff m = s.topOff m)
    (off : ∀ n, (s.node n).line ≠ some l → t.node n = s.node n) : s.sameFor t m := by
  obtain ⟨line, governor, hose, topOff⟩ := items
  refine ⟨time, charter, s.sameSettings_of_stills t stills, fun n at_m => off n ?_, line, governor, hose, topOff, fun k => ?_⟩
  · rw [at_m]
    exact fun h => other (Option.some.inj h)
  · rw [Device.tankHas, Device.tankHas, Device.tank_congr t s k tanks]

/-- An operation that touches nothing of the lines, tanks and nodes leaves every line as it was. -/
theorem Device.sameFor_of_same {s t : Device} (l : Line) (time : t.time = s.time) (charter : t.charter = s.charter)
    (tanks : t.tanks = s.tanks) (nodes : t.nodes = s.nodes)
    (lines : t.lines = s.lines ∧ t.governors = s.governors ∧ t.hoses = s.hoses ∧ t.topOffs = s.topOffs) : s.sameFor t l := by
  obtain ⟨lines, governors, hoses, topOffs⟩ := lines
  refine ⟨time, charter, s.sameSettings_of_nodes t nodes, fun n _ => Device.node_congr t s n nodes, Device.line_congr t s l lines,
    Device.governor_congr t s l governors, Device.hose_congr t s l hoses, Device.topOff_congr t s l topOffs, fun k => ?_⟩
  rw [Device.tankHas, Device.tankHas, Device.tank_congr t s k tanks]

theorem Device.holdTrigger_sameFor (s : Device) {l m : Line} (c : HoldCause) (h : m ≠ l) : s.sameFor (s.holdTrigger l c) m :=
  Device.sameFor_of h (by simp) (by simp) (by simp) (by simp) (by simp [h]) (s.holdTrigger_off l c)

theorem Device.clearHold_sameFor (s : Device) {l m : Line} (c : HoldCause) (h : m ≠ l) : s.sameFor (s.clearHold l c) m :=
  Device.sameFor_of h (by simp) (by simp) (by simp) (by simp) (by simp [h]) (s.clearHold_off l c)

theorem Device.startTest_sameFor (s : Device) {l m : Line} (h : m ≠ l) : s.sameFor (s.startTest l) m :=
  Device.sameFor_of h (by simp) (by simp) (by simp) (by simp) (by simp [h]) (s.startTest_off l)

theorem Device.handTopping_sameFor (s : Device) {l m : Line} (h : m ≠ l) : s.sameFor (s.handTopping l) m :=
  Device.sameFor_of h (by simp) (by simp) (by simp) (by simp) (by simp [h])
    (fun n _ => Device.node_congr _ _ n (s.handTopping_nodes l))

theorem Device.handToppingBusy_sameFor (s : Device) {l m : Line} (h : m ≠ l) : s.sameFor (s.handToppingBusy l) m := by
  unfold Device.handToppingBusy
  split
  · exact s.sameFor_refl m
  · exact s.handTopping_sameFor h

theorem Device.placeReports_sameFor (s : Device) (l : Line) : s.sameFor s.placeReports l :=
  Device.sameFor_of_same l (by simp) (by simp) (by simp) (by simp) (by simp)

theorem Device.transmit_sameFor (s : Device) (l : Line) : s.sameFor s.transmit l :=
  Device.sameFor_of_same l (by simp) (by simp) (by simp) (by simp) (by simp)

theorem Device.sameFor.symm {s t : Device} {l : Line} (h : s.sameFor t l) : t.sameFor s l := by
  obtain ⟨time, charter, settings, nodes, line, governor, hose, topOff, tanks⟩ := h
  refine ⟨time.symm, charter.symm, fun n => ?_, fun n at_l => ?_, line.symm, governor.symm, hose.symm, topOff.symm,
    fun k => (tanks k).symm⟩
  · obtain ⟨kind, at_n, role⟩ := settings n
    exact ⟨kind.symm, at_n.symm, role.symm⟩
  · obtain ⟨-, at_n, -⟩ := settings n
    exact (nodes n (at_n ▸ at_l)).symm

theorem Device.sameFor.trans {s t u : Device} {l : Line} (h : s.sameFor t l) (k : t.sameFor u l) : s.sameFor u l :=
  s.sameFor_trans t u l h k

/-- An operation that is taken line by line acts on each line as it found it, and on a device of which everything holds that
the operation keeps. -/
theorem Device.forLines_kept {s : Device} {f : Line → Device → Device} (P : Device → Prop)
    (leaves : ∀ (l : Line) (d : Device) (m : Line), m ≠ l → d.sameFor (f l d) m) (holds : P s)
    (keeps : ∀ l d, P d → P (f l d)) (m : Line) :
    P (s.forLines f) ∧ ∃ d, P d ∧ s.sameFor d m ∧ (f m d).sameFor (s.forLines f) m := by
  have first := keeps .l1 _ holds
  have second := keeps .l2 _ first
  refine ⟨keeps .l3 _ second, ?_⟩
  cases m with
  | l1 => exact ⟨s, holds, s.sameFor_refl _, (leaves .l2 _ _ (by decide)).trans (leaves .l3 _ _ (by decide))⟩
  | l2 => exact ⟨f .l1 s, first, leaves .l1 _ _ (by decide), leaves .l3 _ _ (by decide)⟩
  | l3 =>
    exact ⟨f .l2 (f .l1 s), second, (leaves .l1 _ _ (by decide)).trans (leaves .l2 _ _ (by decide)), Device.sameFor_refl _ _⟩

/-! ## What is said of a line, carried along -/

section
variable {s d t u : Device} {l : Line} (start : s.sameFor d l) (settings : s.sameSettings t) (finish : t.sameFor u l)
include start settings finish

theorem Device.sameFor.carries : s.carries d t u l := by
  obtain ⟨time, -, settings', nodes, -⟩ := start
  obtain ⟨-, -, -, nodes', -⟩ := finish
  exact s.carries_of d t u l time settings' nodes (fun n at_l => nodes' n ((settings n).2.1.trans at_l))

theorem Device.sameFor.stopTaken {c : Cause} {b : Bool} (h : s.stopTaken t l c b) : d.stopTaken u l c b := by
  obtain ⟨time, charter, -, -, -, governor, -⟩ := id start
  obtain ⟨-, -, -, nodes, line, governor', hose, -, tanks⟩ := id finish
  refine s.stopTaken_of d t u l c b h ⟨time, charter, by rw [governor]⟩ (s.sameFor_agree d l start) line (by rw [governor']) hose
    (fun k none => by rw [tanks k, none]) (fun n at_l => ?_)
  rw [nodes n ((settings n).2.1.trans at_l)]
  exact ⟨rfl, rfl⟩

theorem Device.sameFor.primeClaimed (h : s.primeClaimed t l) : d.primeClaimed u l := by
  obtain ⟨-, charter, -⟩ := id start
  obtain ⟨-, -, -, -, line, governor, hose, -⟩ := id finish
  exact s.primeClaimed_of d t u l h charter (start.carries settings finish) line governor hose

theorem Device.sameFor.holdTaken {c : HoldCause} (h : s.holdTaken t l c) : d.holdTaken u l c := by
  have carries := start.carries settings finish
  obtain ⟨time, charter, -, -, line, -⟩ := start
  obtain ⟨-, -, -, -, line', governor', -⟩ := finish
  obtain ⟨entered, claimed⟩ := h
  have limits : d.limits l = s.limits l := by rw [Device.limits, charter, Device.limits]
  unfold Device.holdTaken Device.holdEntered Device.secondsOn at *
  rw [line, line', governor', time, limits]
  exact ⟨entered, fun holdable => ⟨s.speedClaimed_of d t u l 0 .sequence (claimed holdable).1 carries,
    s.moveClaimed_of d t u l .returnValve .opened .sequence (claimed holdable).2 carries⟩⟩

theorem Device.sameFor.holdCleared {c : HoldCause} (h : s.holdCleared t l c) : d.holdCleared u l c := by
  have carries := start.carries settings finish
  have primed := start.primeClaimed settings finish
  have rest : d.atRest l .returnValve .closed = s.atRest l .returnValve .closed := by
    obtain ⟨-, -, settings', nodes, -⟩ := start
    exact s.atRest_congr d l _ _ settings' (fun n valve => nodes n (s.valveOf_some l .returnValve n valve).2.1)
  obtain ⟨-, -, -, -, line, -⟩ := start
  obtain ⟨-, -, -, -, line', -⟩ := finish
  obtain ⟨hold, moved⟩ := h
  unfold Device.holdCleared
  rw [line, line', rest]
  refine ⟨hold, ?_⟩
  split at moved
  · rename_i empty
    obtain ⟨priming, claimed⟩ := moved
    rw [if_pos empty]
    refine ⟨priming, ?_⟩
    split at claimed
    · rename_i closed
      rw [if_pos closed]
      exact primed claimed
    · rename_i open_
      obtain ⟨step, move⟩ := claimed
      rw [if_neg open_]
      exact ⟨step, s.moveClaimed_of d t u l .returnValve .closed .sequence move carries⟩
  · rename_i more
    rw [if_neg more]
    exact moved

end

/-! ## The topping causes taken by a line that does not deliver -/

/-- The device with other topping causes and another top-off order of a line. -/
def Device.retopped (s : Device) (l : Line) (y : ToppingSet) (w : TopOff) : Device :=
  (s.setLine l { s.line l with topping := y }).setTopOff l w

section
variable {s t : Device} {l : Line} (y : ToppingSet) (w : TopOff)

theorem Device.retopped_stopTaken {c : Cause} {b : Bool} (h : s.stopTaken t l c b) : s.stopTaken (t.retopped l y w) l c b := by
  simpa [Device.stopTaken, Device.closingTaken, Device.valvesClosingTaken, Device.freed, Device.moveClaimed, Device.claimTaken,
    Device.retopped, Device.tankHas] using h

theorem Device.retopped_holdTaken {c : HoldCause} (h : s.holdTaken t l c) : s.holdTaken (t.retopped l y w) l c := by
  simpa [Device.holdTaken, Device.holdEntered, Device.moveClaimed, Device.speedClaimed, Device.claimTaken, Device.retopped] using h

theorem Device.retopped_holdCleared {c : HoldCause} (h : s.holdCleared t l c) : s.holdCleared (t.retopped l y w) l c := by
  simpa [Device.holdCleared, Device.primeClaimed, Device.moveClaimed, Device.speedClaimed, Device.claimTaken, Device.retopped]
    using h

theorem Device.retopped_sameFor {u : Device} (h : t.sameFor u l) : (t.retopped l y w).sameFor (u.retopped l y w) l := by
  obtain ⟨time, charter, settings, nodes, line, governor, hose, -, tanks⟩ := h
  refine ⟨by simpa [Device.retopped] using time, by simpa [Device.retopped] using charter,
    fun n => by simpa [Device.retopped] using settings n, fun n at_l => ?_, by simp [Device.retopped, line],
    by simpa [Device.retopped] using governor, by simpa [Device.retopped] using hose, by simp [Device.retopped],
    fun k => by simpa [Device.retopped, Device.tankHas] using tanks k⟩
  simpa [Device.retopped] using nodes n (by simpa [Device.retopped] using at_l)

end

theorem Device.retopped_same (s : Device) (l : Line) : s.sameFor (s.retopped l (s.line l).topping (s.topOff l)) l := by
  refine ⟨by simp [Device.retopped], by simp [Device.retopped], fun n => ?_, fun n _ => by simp [Device.retopped],
    by simp [Device.retopped], by simp [Device.retopped], by simp [Device.retopped], by simp [Device.retopped],
    fun k => by simp [Device.retopped, Device.tankHas]⟩
  simp [Device.retopped]

/-- A recomputing changes the topping causes and the top-off order of its line alone. -/
theorem Device.recompute_retopped (s : Device) (l : Line) :
    ∃ y w, (s.retopped l y w).sameFor (s.recompute l) l ∧ w.openCount = (s.openTanks l).length := by
  refine ⟨((s.recompute l).line l).topping, (s.recompute l).topOff l, ⟨by simp [Device.retopped], by simp [Device.retopped],
    fun n => by simp [Device.retopped], fun n _ => by simp [Device.retopped], ?_, by simp [Device.retopped],
    by simp [Device.retopped], by simp [Device.retopped], fun k => by simp [Device.retopped, Device.tankHas]⟩, ?_⟩
  · unfold Device.recompute
    dsimp only
    split <;> simp [Device.retopped]
  · unfold Device.recompute
    dsimp only
    split <;> simp

theorem Device.handToppingBusy_stays (s : Device) (l : Line) (delivering : (s.line l).state ≠ .delivering)
    (topping : (s.line l).state ≠ .topping) :
    ∃ y w, (s.retopped l y w).sameFor (s.handToppingBusy l) l := by
  unfold Device.handToppingBusy
  split
  · exact ⟨_, _, (s.retopped_same l).symm⟩
  · rw [s.handTopping_state l delivering (fun at_topping => absurd at_topping topping)]
    obtain ⟨y, w, same, -⟩ := s.recompute_retopped l
    exact ⟨y, w, same⟩

end Sys2Proof.Machine

/-! SUPPORT. A ship status taken (O43). -/

namespace Sys2Proof.Machine

open Sys2Proof

/-! ## The link of a ship status (R138, R140, R146) -/

/-- A link that has only been handed items to send, and sent some. -/
def Link.Sends (k j : Link) : Prop := j = { k with queue := j.queue, sending := j.sending, statusDue := j.statusDue }

theorem Link.Sends.refl (k : Link) : k.Sends k := rfl

theorem Link.Sends.trans {i j k : Link} (h : i.Sends j) (h' : j.Sends k) : i.Sends k := by
  unfold Link.Sends at *
  rw [h', h]

theorem Link.handing_sends (k : Link) (m : Mode) (b : List Byte) (q : List SendEntry) : k.Sends (k.handing m b q) := by
  unfold Link.handing
  split
  · rfl
  · split
    · rfl
    · split <;> rfl

theorem Device.transmit_sends (s : Device) : s.link.Sends s.transmit.link := by
  unfold Device.transmit
  split
  · exact .refl _
  · split
    · rfl
    · split
      · rfl
      · exact .refl _

theorem Device.stopTrigger_sends (s : Device) (l : Line) (c : Cause) (b : Bool) : s.link.Sends (s.stopTrigger l c b).link := by
  rw [s.stopTrigger_link l c b]
  split
  · exact s.link.handing_sends _ _ _
  · exact .refl _

theorem Device.permitEffect_sends (s : Device) (l : Line) (p : Permit) : s.link.Sends (s.permitEffect l p).link := by
  unfold Device.permitEffect
  split
  · exact .refl _
  · cases p with
    | go => rw [s.clearHold_link]; exact .refl _
    | reduce => rw [s.clearHold_link]; exact .refl _
    | notReady => rw [s.holdTrigger_link]; exact .refl _
    | stop =>
      dsimp only
      split
      · exact s.stopTrigger_sends l _ _
      · exact .refl _

/-! ## The permit of a line (R141) -/

theorem Device.permitEffect_sameFor (s : Device) {l m : Line} (p : Permit) (h : m ≠ l) : s.sameFor (s.permitEffect l p) m := by
  unfold Device.permitEffect
  split
  · exact s.sameFor_refl m
  · cases p with
    | go => exact s.clearHold_sameFor _ h
    | reduce => exact s.clearHold_sameFor _ h
    | notReady => exact s.holdTrigger_sameFor _ h
    | stop =>
      dsimp only
      split
      · exact s.stopTrigger_sameFor l m _ _ h
      · exact s.sameFor_refl m

theorem Device.permitEffect_stills (s : Device) (l : Line) (p : Permit) : (s.permitEffect l p).tankStills = s.tankStills := by
  unfold Device.permitEffect
  split
  · rfl
  · cases p with
    | go => funext k; simp [Device.tankStills]
    | reduce => funext k; simp [Device.tankStills]
    | notReady => funext k; simp [Device.tankStills]
    | stop =>
      dsimp only
      split
      · exact s.stopTrigger_stills l _ _
      · rfl

/-- A LINEUP, and a FREE line, take no permit effect. -/
theorem Device.permitEffect_none {s : Device} {l : Line} (p : Permit) (h : (s.line l).state = .free ∨ (s.line l).state = .lineup) :
    s.permitEffect l p = s := by
  unfold Device.permitEffect
  obtain free | lineup := h
  · rw [if_pos free]
  · cases p <;> simp [lineup, Device.clearHold, Device.holdTrigger, LineState.holdable, LineState.running]

/-! ## The steps of a ship status (R140) -/

/-- What the steps of a ship status keep: the status stored, what of a tank no release sets, and all of the link but what is
sent. -/
def Device.Shown (s : Device) (k : Link) (d : Device) : Prop := k.Sends d.link ∧ d.tankStills = s.tankStills

theorem Device.Shown.of {s d e : Device} {k : Link} (h : s.Shown k d) (link : d.link.Sends e.link)
    (stills : e.tankStills = d.tankStills) : s.Shown k e := by
  obtain ⟨sends, same⟩ := h
  exact ⟨sends.trans link, stills.trans same⟩

/-- The link after steps 1 to 3 of R140. -/
def Device.shownLink (s : Device) (st : PerLine LineStatus) : Link :=
  { s.link with
    status := some st, lastStatus := some s.time, state := .active,
    silenceExpiry := some (s.secondsOn s.general.shipSilence), lossExpiry := some (s.secondsOn s.general.shipLoss) }

/-- The device after the permits of a ship status. -/
def Device.permitted (s : Device) (st : PerLine LineStatus) : Device :=
  (s.storeStatus st).placeReports.forLines (fun l s => s.permitEffect l (st.get l).permit)

/-- The device after the topping causes of a ship status. -/
def Device.toppedUp (s : Device) (st : PerLine LineStatus) : Device :=
  if s.link.state = .active then (s.permitted st).placeReports else (s.permitted st).placeReports.handToppingAll

theorem Device.takeStatus_eq (s : Device) (st : PerLine LineStatus) :
    s.takeStatus st = ((s.toppedUp st).placeReports.forLines (fun l s => s.startTest l)).transmit := rfl

theorem Device.storeStatus_shown (s : Device) (st : PerLine LineStatus) :
    (s.storeStatus st).placeReports.link = s.shownLink st ∧
      s.Shown (s.shownLink st) (s.storeStatus st).placeReports ∧ ∀ l, s.sameFor (s.storeStatus st).placeReports l := by
  have link : (s.storeStatus st).placeReports.link = s.shownLink st := by
    unfold Device.storeStatus Device.reportBack
    dsimp only
    split <;> simp [Device.shownLink, Device.secondsOn, Device.general]
  refine ⟨link, ⟨?_, ?_⟩, fun l => Device.sameFor_of_same l (by simp) (by simp) (by simp) (by simp) (by simp)⟩
  · rw [link]
    exact .refl _
  · funext k
    simp [Device.tankStills, Device.tank_congr _ s k]

/-- The steps that a line goes through. -/
theorem Device.takeStatus_path (s : Device) (st : PerLine LineStatus) (l : Line) :
    s.Shown (s.shownLink st) (s.takeStatus st) ∧
    ∃ d e f, s.sameFor d l ∧ (d.permitEffect l (st.get l).permit).sameFor e l ∧
      (if s.link.state = .active then e else e.handToppingBusy l).sameFor f l ∧
      (f.startTest l).sameFor (s.takeStatus st).finish l ∧ s.Shown (s.shownLink st) e ∧ s.Shown (s.shownLink st) f := by
  obtain ⟨-, shown, stored⟩ := s.storeStatus_shown st
  obtain ⟨shown, d, -, first, permit⟩ := Device.forLines_kept (s.Shown (s.shownLink st))
    (f := fun l s => s.permitEffect l (st.get l).permit) (fun l d m h => d.permitEffect_sameFor _ h) shown
    (fun l d h => h.of (d.permitEffect_sends l _) (d.permitEffect_stills l _)) l
  change s.Shown _ (s.permitted st) at shown
  change Device.sameFor _ (s.permitted st) l at permit
  have placed (d : Device) (h : s.Shown (s.shownLink st) d) : s.Shown (s.shownLink st) d.placeReports :=
    h.of (by rw [show d.placeReports.link = d.link by simp]; exact .refl _) (by funext k; simp [Device.tankStills])
  have topped : s.Shown (s.shownLink st) (s.toppedUp st) ∧ ∃ e, s.Shown (s.shownLink st) e ∧
      (s.permitted st).placeReports.sameFor e l ∧
      (if s.link.state = .active then e else e.handToppingBusy l).sameFor (s.toppedUp st) l := by
    unfold Device.toppedUp
    by_cases active : s.link.state = .active
    · simp only [if_pos active]
      exact ⟨placed _ shown, _, placed _ shown, Device.sameFor_refl _ _, Device.sameFor_refl _ _⟩
    · simp only [if_neg active]
      exact Device.forLines_kept (s.Shown (s.shownLink st)) (f := fun l s => s.handToppingBusy l)
        (fun l d m h => d.handToppingBusy_sameFor h) (placed _ shown)
        (fun l d h => h.of (by rw [d.handToppingBusy_link l]; exact .refl _)
          (by funext k; unfold Device.handToppingBusy; split <;> simp [Device.tankStills])) l
  obtain ⟨shown', e, shownE, second, topping⟩ := topped
  obtain ⟨started, f, shownF, third, start⟩ := Device.forLines_kept (s.Shown (s.shownLink st))
    (f := fun l s => s.startTest l) (fun l d m h => d.startTest_sameFor h) (placed _ shown')
    (fun l d h => h.of (by rw [d.startTest_link l]; exact .refl _) (by funext k; simp [Device.tankStills])) l
  rw [s.takeStatus_eq st]
  refine ⟨started.of (Device.transmit_sends _) (by funext k; simp [Device.tankStills]), d, e, f, (stored l).trans first,
    permit.trans ((Device.placeReports_sameFor _ _).trans second), topping.trans ((Device.placeReports_sameFor _ _).trans third),
    start.trans ((Device.transmit_sameFor _ _).trans (Device.finish_sameFor _ _)), shownE, shownF⟩

/-- The start test leaves a line that is not in LINEUP. -/
theorem Device.startTest_none {s : Device} {l : Line} (h : (s.line l).state ≠ .lineup) : s.startTest l = s :=
  if_neg (fun c => h c.1)

/-- A line that its permit leaves, or takes to a state that takes no topping causes, ends as the permit left it. -/
theorem Device.takeStatus_moved (s : Device) (st : PerLine LineStatus) (l : Line) :
    ∃ d, s.sameFor d l ∧
      (((d.permitEffect l (st.get l).permit).line l).state ≠ .delivering →
        ((d.permitEffect l (st.get l).permit).line l).state ≠ .topping →
        ((d.permitEffect l (st.get l).permit).line l).state ≠ .lineup →
        ∃ y w, ((d.permitEffect l (st.get l).permit).retopped l y w).sameFor (s.takeStatus st).finish l) := by
  obtain ⟨-, d, e, f, first, permit, topping, start, -⟩ := s.takeStatus_path st l
  refine ⟨d, first, fun delivering topping' lineup => ?_⟩
  have line : e.line l = (d.permitEffect l (st.get l).permit).line l := by
    obtain ⟨-, -, -, -, line, -⟩ := permit
    exact line
  have topped : ∃ y w, (e.retopped l y w).sameFor f l := by
    split at topping
    · exact ⟨_, _, (e.retopped_same l).symm.trans topping⟩
    · obtain ⟨y, w, same⟩ := e.handToppingBusy_stays l (by rw [line]; exact delivering) (by rw [line]; exact topping')
      exact ⟨y, w, same.trans topping⟩
  obtain ⟨y, w, topped⟩ := topped
  have stays : (f.line l).state ≠ .lineup := by
    obtain ⟨-, -, -, -, same, -⟩ := id topped
    rw [same]
    simpa [Device.retopped, line] using lineup
  rw [Device.startTest_none stays] at start
  exact ⟨y, w, (Device.retopped_sameFor y w permit).trans (topped.trans start)⟩

/-! ## The start test of a ship status (R6, R140) -/

theorem Device.sameFor.someValve {s t : Device} {l : Line} (settings : s.sameSettings t)
    (nodes : ∀ n, (s.node n).line = some l → t.node n = s.node n) (v : ValveState) : t.someValve l v = s.someValve l v := by
  unfold Device.someValve
  refine congrArg (List.any allNodes) (funext fun n => ?_)
  obtain ⟨kind, line, -⟩ := settings n
  by_cases at_l : (s.node n).line = some l
  · rw [nodes n at_l]
  · simp [line, at_l]

theorem Device.sameFor.freshDevice {s t : Device} {l : Line} (settings : s.sameSettings t)
    (nodes : ∀ n, (s.node n).line = some l → t.node n = s.node n) (k : NodeKind) : t.freshDevice l k = s.freshDevice l k := by
  unfold Device.freshDevice
  rw [s.deviceOf_congr t settings]
  cases device : s.deviceOf l k with
  | none => rfl
  | some n =>
    dsimp only
    rw [nodes n (s.deviceOf_some l k n device).2]

/-- The start condition reads the permit, the open tanks and the nodes of the line (R6). -/
theorem Device.startCondition_congr {s t : Device} {l : Line} (settings : s.sameSettings t)
    (nodes : ∀ n, (s.node n).line = some l → t.node n = s.node n) (status : t.link.status = s.link.status)
    (opened : (t.topOff l).openCount = (s.topOff l).openCount) : t.startCondition l = s.startCondition l := by
  have rest (r : Role) (g : Target) : t.atRest l r g = s.atRest l r g :=
    s.atRest_congr t l r g settings (fun n valve => nodes n (s.valveOf_some l r n valve).2.1)
  unfold Device.startCondition Device.permit Device.readingsFresh
  simp only [status, opened, rest, Device.sameFor.someValve settings nodes, Device.sameFor.freshDevice settings nodes]

/-- The open tanks of a line are read off what no release of another line's tanks changes. -/
theorem Device.openTanks_congr {s t : Device} {l : Line} (stills : t.tankStills = s.tankStills) (same : s.sameFor t l) :
    t.openTanks l = s.openTanks l := by
  obtain ⟨-, -, -, -, -, -, -, -, assigned⟩ := same
  have tanks : t.tanksOf l = s.tanksOf l := by
    unfold Device.tanksOf
    refine congrArg (fun p => allTanks.filter p) (funext fun k => ?_)
    exact assigned k
  unfold Device.openTanks
  rw [tanks]
  refine congrArg (fun p => (s.tanksOf l).filter p) (funext fun k => ?_)
  have still : (t.tank k).map Tank.still = (s.tank k).map Tank.still := congrFun stills k
  have opened (e : Tank) : e.still.openValve = e.openValve := rfl
  unfold Device.tankHas
  cases before : s.tank k with
  | none =>
    rw [before, Option.map_none, Option.map_eq_none_iff] at still
    rw [still]
  | some e =>
    rw [before, Option.map_some, Option.map_eq_some_iff] at still
    obtain ⟨e', after, same⟩ := still
    rw [after]
    dsimp only
    rw [← opened e', same, opened e]

/-- PRIMING entered from LINEUP: the prime speed is claimed (R8). -/
theorem Device.primeFromLineup_primed (s : Device) (l : Line) :
    ((s.primeFromLineup l).line l).state = .priming ∧ s.primeClaimed (s.primeFromLineup l) l ∧
      ((s.primeFromLineup l).hose l).primingCount = 0 := by
  have nodes := (s.enterState_nodes l .priming .prime .none (by decide)).1
  unfold Device.primeFromLineup
  generalize entered : s.enterState l .priming .prime .none = a at nodes
  have state : (a.line l).state = .priming := by simp [← entered]
  have time : a.time = s.time := by simp [← entered]
  have charter : a.charter = s.charter := by simp [← entered]
  obtain ⟨primed, priming, -, count⟩ := a.primeClaim_primed l
  exact ⟨priming.trans state, a.primeClaimed_of s _ _ l primed charter.symm (a.carries_nodes s _ _ l time.symm nodes.symm rfl)
    rfl rfl rfl, count⟩

theorem Device.retopped_primeClaimed {s t : Device} {l : Line} {y : ToppingSet} {w : TopOff}
    (h : (s.retopped l y w).primeClaimed t l) : s.primeClaimed t l := by
  simpa [Device.primeClaimed, Device.speedClaimed, Device.claimTaken, Device.retopped, Device.limits, Device.secondsOn,
    Device.deviceOf] using h

/-- A LINEUP comes to its start test as it stood, with its open tanks counted. -/
theorem Device.takeStatus_lineup (s : Device) (st : PerLine LineStatus) (l : Line) (lineup : (s.line l).state = .lineup)
    (counted : s.link.state = .active ∨ (s.topOff l).openCount = (s.openTanks l).length) :
    ∃ f y w, (s.retopped l y w).sameFor f l ∧ (f.startTest l).sameFor (s.takeStatus st).finish l ∧ f.link.status = some st ∧
      w.openCount = (s.topOff l).openCount := by
  obtain ⟨-, d, e, f, first, permit, topping, start, shownE, shownF⟩ := s.takeStatus_path st l
  obtain ⟨-, stills⟩ := shownE
  obtain ⟨sends, -⟩ := shownF
  have status : f.link.status = some st := by
    rw [sends]
    rfl
  have line : d.line l = s.line l := by
    obtain ⟨-, -, -, -, line, -⟩ := first
    exact line
  rw [Device.permitEffect_none _ (.inr (by rw [line, lineup]))] at permit
  have same : s.sameFor e l := first.trans permit
  have here : (e.line l).state = .lineup := by
    obtain ⟨-, -, -, -, line', -⟩ := same
    rw [line', lineup]
  split at topping
  · exact ⟨f, _, _, (s.retopped_same l).symm.trans (same.trans topping), start, status, rfl⟩
  · rename_i left
    obtain ⟨y, w, recomputed, opened⟩ := e.recompute_retopped l
    have taken : e.handToppingBusy l = e.recompute l := by
      unfold Device.handToppingBusy
      rw [if_neg (by simp [here]), e.handTopping_state l (by simp [here]) (by simp [here])]
    rw [taken] at topping
    refine ⟨f, y, w, (Device.retopped_sameFor y w same).trans (recomputed.trans topping), start, status, ?_⟩
    rw [opened, Device.openTanks_congr stills same, counted.resolve_left left]

/-- The start test of a LINEUP with the new permit (R6, R140). -/
theorem Device.takeStatus_tested (s : Device) (st : PerLine LineStatus) (l : Line) (lineup : (s.line l).state = .lineup)
    (step : (s.line l).step = .startWait)
    (counted : s.link.state = .active ∨ (s.topOff l).openCount = (s.openTanks l).length) :
    if ({ s with link := { s.link with status := some st } } : Device).startCondition l = true then
      ((s.takeStatus st).finish.line l).state = .priming ∧ s.primeClaimed (s.takeStatus st).finish l ∧
      ((s.takeStatus st).finish.hose l).primingCount = 0
    else ((s.takeStatus st).finish.line l).state = .lineup ∧ ((s.takeStatus st).finish.line l).step = .startWait := by
  obtain ⟨f, y, w, same, start, status, opened⟩ := s.takeStatus_lineup st l lineup counted
  obtain ⟨-, -, settings, nodes, line, -, -, topOff, -⟩ := id same
  have state : (f.line l).state = .lineup ∧ (f.line l).step = .startWait := by
    rw [line]
    simp [Device.retopped, lineup, step]
  have condition : f.startCondition l = ({ s with link := { s.link with status := some st } } : Device).startCondition l := by
    have settings' : s.sameSettings f := fun n => by simpa [Device.retopped] using settings n
    have nodes' (n : NodeNo) (at_l : (s.node n).line = some l) : f.node n = s.node n := by
      simpa [Device.retopped] using nodes n (by simpa [Device.retopped] using at_l)
    have opened' : (f.topOff l).openCount = (s.topOff l).openCount := by
      rw [topOff]
      simpa [Device.retopped] using opened
    exact Device.startCondition_congr (s := { s with link := { s.link with status := some st } }) settings' nodes' status opened'
  obtain ⟨-, -, -, -, line', -, hose', -⟩ := id start
  rw [← condition]
  split
  · rename_i holds
    have primes : f.startTest l = f.primeFromLineup l := by
      rw [Device.startTest, if_pos ⟨state.1, state.2, holds⟩]
    obtain ⟨priming, claimed, count⟩ := f.primeFromLineup_primed l
    rw [← primes] at priming claimed count
    refine ⟨by rw [line', priming], ?_, by rw [hose', count]⟩
    exact Device.retopped_primeClaimed
      (same.symm.primeClaimed (f.sameSettings_of_stills _ (by simp)) start claimed)
  · rename_i fails
    have stays : f.startTest l = f := if_neg (fun h => fails h.2.2)
    rw [line', stays]
    exact state

/-- Settles O43. -/
theorem shipStatusIsTaken : Obligations.ShipStatusIsTaken := by
  unfold Obligations.ShipStatusIsTaken
  intro bytes st s formed decoded taking none
  obtain ⟨t, run, mem, device⟩ := s.event_taken (fun d => d.takeBytes bytes)
  have complete : completeFrame bytes = true := by
    obtain ⟨complete, -⟩ := Bool.and_eq_true_iff.mp formed
    exact complete
  have taken : s.device.takeBytes bytes = s.device.takeStatus st := by
    rw [s.device.takeBytes_complete none complete, if_pos taking, Device.takeFrame, decoded]
  rw [taken] at device
  have link : (s.device.shownLink st).Sends t.device.link := by
    obtain ⟨⟨sends, -⟩, -⟩ := s.device.takeStatus_path st .l1
    rw [device]
    simpa using sends
  refine ⟨t, run, mem, ?_⟩
  rw [link, device]
  refine ⟨rfl, rfl, rfl, rfl, rfl, taking, none, fun l free => ?_, fun l notReady holds => ?_, fun l go held => ?_,
    fun l stop running => ?_, fun l lineup step counted => s.device.takeStatus_tested st l lineup step counted, ?_⟩
  · obtain ⟨-, d, e, f, first, permit, topping, start, -⟩ := s.device.takeStatus_path st l
    obtain ⟨-, -, -, -, line, -⟩ := id first
    rw [Device.permitEffect_none _ (.inl (by rw [line, free]))] at permit
    have same : s.device.sameFor e l := first.trans permit
    obtain ⟨-, -, -, -, line', -⟩ := id same
    have quiet : e.handToppingBusy l = e := if_pos (by rw [line', free])
    rw [quiet, ite_self] at topping
    have whole := same.trans topping
    obtain ⟨-, -, -, -, line'', -⟩ := id whole
    rw [Device.startTest_none (by simp [line'', free])] at start
    obtain ⟨-, -, -, -, last, -⟩ := whole.trans start
    exact last
  · obtain ⟨d, same, moved⟩ := s.device.takeStatus_moved st l
    obtain ⟨-, -, -, -, line, -⟩ := id same
    rw [← line] at holds
    have effect : d.permitEffect l (st.get l).permit = d.holdTrigger l .shipNotReady := by
      rw [notReady, Device.permitEffect, if_neg (fun free => by simp [free, LineState.holdable] at holds)]
    rw [effect] at moved
    have held := d.holdTrigger_taken l .shipNotReady holds
    obtain ⟨⟨state, -⟩, -⟩ := id held
    obtain ⟨y, w, last⟩ := moved (by simp [state]) (by simp [state]) (by simp [state])
    exact same.symm.holdTaken (d.sameSettings_of_stills _ (by simp [Device.retopped])) last (Device.retopped_holdTaken y w held)
  · obtain ⟨d, same, moved⟩ := s.device.takeStatus_moved st l
    obtain ⟨-, -, -, -, line, -⟩ := id same
    rw [← line] at held ⊢
    have effect : d.permitEffect l (st.get l).permit = d.clearHold l .shipNotReady := by
      unfold Device.permitEffect
      rw [if_neg (by simp [held])]
      obtain go | reduce := go
      · rw [go]
      · rw [reduce]
    rw [effect] at moved
    split
    · rename_i cause
      have cleared := d.clearHold_cleared l .shipNotReady held cause
      have state : ((d.clearHold l .shipNotReady).line l).state = .priming ∨ ((d.clearHold l .shipNotReady).line l).state = .held := by
        obtain ⟨-, moves⟩ := id cleared
        split at moves
        · exact .inl moves.1
        · exact .inr moves
      obtain ⟨y, w, last⟩ := moved (by obtain h | h := state <;> simp [h]) (by obtain h | h := state <;> simp [h])
        (by obtain h | h := state <;> simp [h])
      have all := same.symm.holdCleared (d.sameSettings_of_stills _ (by simp [Device.retopped])) last
        (Device.retopped_holdCleared y w cleared)
      exact all
    · rename_i other
      have stays : d.clearHold l .shipNotReady = d := if_neg (fun h => other h.2)
      rw [stays] at moved
      obtain ⟨y, w, last⟩ := moved (by simp [held]) (by simp [held]) (by simp [held])
      obtain ⟨-, -, -, -, line', -⟩ := last
      rw [line']
      simp [Device.retopped, held]
  · obtain ⟨d, same, moved⟩ := s.device.takeStatus_moved st l
    obtain ⟨-, -, -, -, line, -⟩ := id same
    rw [← line] at running
    have effect : d.permitEffect l (st.get l).permit = d.stopTrigger l .shipStop false := by
      rw [stop, Device.permitEffect, if_neg (fun free => by simp [free, LineState.running] at running)]
      exact if_pos running
    rw [effect] at moved
    have inactive := d.stopTrigger_state l .shipStop false
    rw [if_pos (LineState.active_of_running running)] at inactive
    obtain ⟨y, w, last⟩ := moved (fun h => by simp [h, LineState.active] at inactive)
      (fun h => by simp [h, LineState.active] at inactive) (fun h => by simp [h, LineState.active] at inactive)
    exact same.symm.stopTaken (d.sameSettings_of_stills _ (by simp [Device.retopped])) last
      (Device.retopped_stopTaken y w (d.stopTrigger_taken l .shipStop false running))
  · simp [Device.SameStation, Device.SameClock, Device.SameRing]

end Sys2Proof.Machine

/-! SUPPORT. A report that has its place in the queue keeps it, whatever else the event submits (R172, R173; log 29). -/

namespace Sys2Proof.Machine

open Sys2Proof

/-- A report has its place among those that wait: what comes later does not displace it. -/
def ReportUnit.Placed (u : ReportUnit) (r : Report) : Prop := u.queue.length ≤ 16 ∧ r ∈ u.queue.take u.placed

/-- An operation leaves a report that has its place there. -/
def Device.Spares (r : Report) (s t : Device) : Prop := s.reports.Placed r → t.reports.Placed r

section
variable {r : Report} {s t u : Device}

theorem Device.Spares.refl (s : Device) : Device.Spares r s s := id

theorem Device.Spares.trans (h : Device.Spares r s t) (k : Device.Spares r t u) : Device.Spares r s u := k ∘ h

theorem Device.Spares.of_same (h : t.reports = s.reports) : Device.Spares r s t := by
  unfold Device.Spares
  rw [h]
  exact id

theorem Device.Spares.ite {p : Prop} [Decidable p] (h : p → Device.Spares r s t) (k : ¬p → Device.Spares r s u) :
    Device.Spares r s (if p then t else u) := by
  split
  · exact h ‹_›
  · exact k ‹_›

/-- An operation followed by another on a condition. -/
theorem Device.Spares.andIf {p : Prop} [Decidable p] (h : Device.Spares r s t) (k : Device.Spares r t u) :
    Device.Spares r s (if p then u else t) := .ite (fun _ => h.trans k) (fun _ => h)

theorem Device.Spares.andUnless {p : Prop} [Decidable p] (h : Device.Spares r s t) (k : Device.Spares r t u) :
    Device.Spares r s (if p then t else u) := .ite (fun _ => h) (fun _ => h.trans k)

theorem Device.Spares.foldl {α : Type} {f : Device → α → Device} (h : ∀ d x, Device.Spares r d (f d x)) (xs : List α)
    (s : Device) : Device.Spares r s (xs.foldl f s) := by
  induction xs generalizing s with
  | nil => exact .refl _
  | cons x xs ih => exact (h s x).trans (ih _)

theorem Device.Spares.forLines {f : Line → Device → Device} (h : ∀ l d, Device.Spares r d (f l d)) :
    Device.Spares r s (s.forLines f) := ((h .l1 s).trans (h .l2 _)).trans (h .l3 _)

/-! ## The report unit -/

theorem Device.enqueueReport_spares (s : Device) (x : Report) : Device.Spares r s (s.enqueueReport x) := by
  rintro ⟨length, placed⟩
  unfold Device.enqueueReport
  split
  · exact ⟨length, placed⟩
  · split
    · rename_i room
      have longer : (s.reports.queue ++ [x]).length ≤ 16 := by
        rw [List.length_append, List.length_singleton]
        exact room
      refine ⟨longer, ?_⟩
      rw [List.take_append]
      exact List.mem_append_left _ placed
    · exact ⟨length, placed⟩

/-- What goes ahead of the reports of its event goes behind those that have their places. -/
theorem Device.enqueueAhead_spares (s : Device) (x : Report) : Device.Spares r s (s.enqueueAhead x) := by
  rintro ⟨length, placed⟩
  have stays : r ∈ ((s.reports.queue.take s.reports.placed ++ x :: s.reports.queue.drop s.reports.placed).take 16).take
      (s.reports.placed + 1) := by
    have first : (s.reports.queue.take s.reports.placed).length ≤ min (s.reports.placed + 1) 16 := by
      rw [List.length_take]
      omega
    rw [List.take_take, List.take_append, List.take_of_length_le first]
    exact List.mem_append_left _ placed
  unfold Device.enqueueAhead
  split
  · exact ⟨length, placed⟩
  · have bound : ((s.reports.queue.take s.reports.placed ++ x :: s.reports.queue.drop s.reports.placed).take 16).length ≤ 16 :=
      List.length_take_le _ _
    dsimp only
    split
    · exact ⟨bound, stays⟩
    · exact ⟨bound, stays⟩

theorem Device.submit_spares (s : Device) (k : ReportKind) (l n : Nat) (c : ReportCause) (a b : Word) :
    Device.Spares r s (s.submit k l n c a b) := s.enqueueReport_spares _

theorem Device.placeReports_spares (s : Device) : Device.Spares r s s.placeReports := by
  rintro ⟨length, placed⟩
  refine ⟨length, ?_⟩
  rw [Device.placeReports]
  simpa using List.mem_of_mem_take placed

/-- A report that is submitted and placed in an event whose reports flow has its place. -/
theorem Device.submit_placed {s d : Device} (flow : s.reportsFlow) (reports : d.reports = s.reports) (x : Report) :
    (d.enqueueReport x).placeReports.reports.Placed x := by
  obtain ⟨usable, empty, -⟩ := flow
  have queue : (d.enqueueReport x).reports.queue = [x] := by
    rw [(d.enqueueReport_queue x (by rw [reports, usable]) (by rw [reports, empty]; simp)).1, reports, empty]
    rfl
  unfold Device.placeReports ReportUnit.Placed
  simp [queue]

/-- A report that has its place waits at the end of the event, as the ring is not full (R173). -/
theorem Device.Spares.reportWaits {d : Device} (flow : s.reportsFlow)
    (ring : d.reports.producer = s.reports.producer ∧ d.reports.consumer = s.reports.consumer) (placed : d.reports.Placed r) :
    d.finish.reportWaits r := by
  obtain ⟨-, -, -, full⟩ := flow
  have waits : r ∈ d.reports.queue := List.mem_of_mem_take placed.2
  have full' : d.reports.full = false := by
    have same : d.reports.unconsumed = s.reports.unconsumed := by simp only [ReportUnit.unconsumed, ring]
    rw [← full, ReportUnit.full, ReportUnit.full, same]
  have reports : d.takeBusMode.startDueFrame.reports = d.reports := by simp
  generalize hx : d.takeBusMode.startDueFrame = x at reports
  have decided : x.decideReport.placeReports.reportWaits r := by
    unfold Device.decideReport
    split
    · exact .inl (by simpa [Device.placeReports, reports] using waits)
    · split
      · exact .inl (by simpa [Device.placeReports, Device.giveOverrun, Device.giveEntry, reports] using waits)
      · split
        case h_1 empty => rw [← reports, empty] at waits; cases waits
        case h_2 head rest queue =>
          rw [if_neg (by simp [reports, full'])]
          rw [← reports, queue] at waits
          obtain rfl | waits := List.mem_cons.mp waits
          · exact .inr rfl
          · exact .inl waits
  simpa [Device.finish, hx] using decided

/-! ## Claims -/

theorem Device.displaceQueued_spares (s : Device) (n : NodeNo) (o : Origin) : Device.Spares r s (s.displaceQueued n o) := by
  unfold Device.displaceQueued
  split
  · exact .refl _
  · exact (Device.Spares.of_same (by simp)).trans (Device.enqueueAhead_spares _ _)

theorem Device.abandonInFlight_spares (s : Device) (n : NodeNo) : Device.Spares r s (s.abandonInFlight n) := by
  unfold Device.abandonInFlight
  split
  · exact .refl _
  · exact (Device.Spares.of_same (by simp)).trans (Device.submit_spares _ _ _ _ _ _ _)

theorem Device.claim_spares (s : Device) (n : NodeNo) (c : Claim) : Device.Spares r s (s.claim n c) := by
  have displaced := s.displaceQueued_spares (r := r) n c.origin
  unfold Device.claim
  split
  · exact s.enqueueAhead_spares _
  · exact displaced.trans (.of_same (by simp))
  · exact displaced
  · exact displaced.trans (.of_same (by simp))
  · exact displaced.trans (.of_same (by simp))
  · exact displaced.trans (.of_same (by simp))
  · exact (displaced.trans (Device.abandonInFlight_spares _ n)).trans (.of_same (by simp))

theorem Device.claimValve_spares (s : Device) (l : Line) (x : Role) (g : Target) (o : Origin) :
    Device.Spares r s (s.claimValve l x g o) := by
  unfold Device.claimValve
  split
  · exact .refl _
  · exact s.claim_spares _ _

theorem Device.claimPump_spares (s : Device) (l : Line) (v : Nat) (o : Origin) : Device.Spares r s (s.claimPump l v o) := by
  unfold Device.claimPump
  split
  · exact .refl _
  · exact s.claim_spares _ _

theorem Device.claimUnlessAtRest_spares (s : Device) (l : Line) (x : Role) (g : Target) :
    Device.Spares r s (s.claimUnlessAtRest l x g) := .ite (fun _ => .refl _) (fun _ => s.claimValve_spares l x g .esd)

theorem Device.withdrawLine_spares (s : Device) (l : Line) : Device.Spares r s (s.withdrawLine l) := by
  refine .foldl (fun d n => .ite (fun _ => ?_) (fun _ => .refl _)) _ _
  unfold Device.withdrawSequence
  split
  · exact .refl _
  · exact .ite (fun _ => (Device.Spares.of_same (by simp)).trans (Device.enqueueAhead_spares _ _)) (fun _ => .refl _)

theorem Device.claimSpeed_spares (s : Device) (l : Line) (v : Nat) : Device.Spares r s (s.claimSpeed l v) :=
  (s.claimPump_spares l v .sequence).trans (.of_same (by simp [Device.claimSpeed]))

/-! ## The line controller -/

theorem Device.enterState_spares (s : Device) (l : Line) (st : LineState) (p : Step) (c : ReportCause) :
    Device.Spares r s (s.enterState l st p c) := by
  have governor (d : Device) : Device.Spares r d (d.governorEnters l st) :=
    Device.Spares.andIf (.of_same (by simp)) (Device.claimSpeed_spares _ l 0)
  have rest (d : Device) : Device.Spares r d
      (((d.governorEnters l st).setHose l (((d.governorEnters l st).hose l).entering (s.line l).state st)).recompute l) :=
    (governor d).trans (.of_same (by simp))
  unfold Device.enterState
  dsimp only
  refine Device.Spares.trans (Device.Spares.trans (t := (s.setLine l { s.line l with
    state := st, step := p, entry := s.time, deadline := none }).submit .lineState (lineNumber l) 0 c
    (BitVec.ofNat 32 (lineStateCode st)) (BitVec.ofNat 32 (lineStateCode (s.line l).state))) ?_ ?_) (rest _)
  · exact (Device.Spares.of_same (by simp)).trans (Device.submit_spares _ _ _ _ _ _ _)
  · exact .ite (fun _ => .of_same (by simp)) (fun _ => .refl _)

theorem Device.primeClaim_spares (s : Device) (l : Line) : Device.Spares r s (s.primeClaim l) := by
  have claimed (d : Device) (v : Nat) : Device.Spares r d ((d.claimSpeed l v).setGovernor l
      { (d.claimSpeed l v).governor l with expiry := some (d.claimSpeed l v).periodOn }) :=
    (d.claimSpeed_spares l v).trans (.of_same (by simp))
  have speed : Device.Spares r s (s.primeSpeed l) := (Device.Spares.of_same (by simp)).trans (claimed _ _)
  exact speed.trans (.of_same (by simp [Device.primeClaim, Device.setStep, Device.setDeadline]))

theorem Device.startTest_spares (s : Device) (l : Line) : Device.Spares r s (s.startTest l) :=
  .ite (fun _ => (s.enterState_spares l _ _ _).trans (Device.primeClaim_spares _ l)) (fun _ => .refl _)

theorem Device.primeFromHeld_spares (s : Device) (l : Line) : Device.Spares r s (s.primeFromHeld l) :=
  (s.enterState_spares l _ _ _).trans
    (.ite (fun _ => Device.primeClaim_spares _ l) (fun _ => Device.claimValve_spares _ l _ _ _))

theorem Device.clearHold_spares (s : Device) (l : Line) (c : HoldCause) : Device.Spares r s (s.clearHold l c) :=
  .ite (fun _ => Device.Spares.andIf (.of_same (by simp)) (Device.primeFromHeld_spares _ l)) (fun _ => .refl _)

theorem Device.enterHeld_spares (s : Device) (l : Line) (c : HoldCause) : Device.Spares r s (s.enterHeld l c) := by
  have entered (d : Device) : Device.Spares r d (((d.enterState l .held .hold (.hold c)).setDeadline l
      ((d.enterState l .held .hold (.hold c)).secondsOn ((d.enterState l .held .hold (.hold c)).limits l).holdLimit)).claimValve l
      .returnValve .opened .sequence) :=
    ((d.enterState_spares l .held .hold (.hold c)).trans (.of_same (by simp [Device.setDeadline]))).trans
      (Device.claimValve_spares _ l .returnValve .opened .sequence)
  exact (Device.Spares.of_same (by simp)).trans (entered _)

theorem Device.holdTrigger_spares (s : Device) (l : Line) (c : HoldCause) : Device.Spares r s (s.holdTrigger l c) :=
  .ite (fun _ => s.enterHeld_spares l c) (fun _ => .ite (fun _ => .of_same (by simp)) (fun _ => .refl _))

theorem Device.restate_spares (s : Device) (t : TankNo) (e : Tank) : Device.Spares r s (s.restate t e) :=
  Device.Spares.andUnless (.of_same (by simp)) (Device.submit_spares _ _ _ _ _ _ _)

theorem Device.enterFree_spares (s : Device) (l : Line) : Device.Spares r s (s.enterFree l) := by
  have untanked (d : Device) : Device.Spares r d (allTanks.foldl (fun s t => s.releaseTank l t) d) := by
    refine .foldl (fun d t => ?_) _ _
    unfold Device.releaseTank
    split
    · exact .refl _
    · exact .ite (fun _ => d.restate_spares t _) (fun _ => .refl _)
  have released (d : Device) : Device.Spares r d (d.release l) := (untanked d).trans (.of_same (by simp [Device.release]))
  have cleared (d : Device) : Device.Spares r d
      ((d.release l).setLine l ((d.release l).line l).cleared |>.setSequenceMemory l .reset) :=
    (released d).trans (.of_same (by simp))
  have entered : Device.Spares r s (s.enterState l .free .none .none).takeBusMode :=
    (s.enterState_spares l .free .none .none).trans (.of_same (by simp))
  exact (entered.trans (Device.enqueueReport_spares _ _)).trans (cleared _)

theorem Device.closeValve_spares (s : Device) (l : Line) (x : Role) : Device.Spares r s (s.closeValve l x) :=
  .ite (fun _ => .refl _) (fun _ => (s.claimValve_spares l x .closed .sequence).trans (.of_same (by simp)))

theorem Device.closeValves_spares (s : Device) (l : Line) : Device.Spares r s (s.closeValves l) :=
  Device.Spares.andIf
    ((((Device.Spares.of_same (by simp [Device.setStep])).trans (Device.closeValve_spares _ l .discharge)).trans
      (Device.closeValve_spares _ l .returnValve)).trans (Device.closeValve_spares _ l .strip))
    (Device.enterFree_spares _ l)

theorem Device.closeManifold_spares (s : Device) (l : Line) : Device.Spares r s (s.closeManifold l) := by
  have stepped : Device.Spares r s (s.setStep l .manifoldClosing) := .of_same (by simp [Device.setStep])
  exact stepped.trans (.ite (fun _ => Device.closeValves_spares _ l)
    (fun _ => Device.Spares.andIf (Device.claimValve_spares _ l _ _ _) (Device.closeValves_spares _ l)))

theorem Device.enterClosing_spares (s : Device) (l : Line) : Device.Spares r s (s.enterClosing l) :=
  (s.enterState_spares l _ _ _).trans (Device.closeManifold_spares _ l)

theorem Device.enterStripping_spares (s : Device) (l : Line) : Device.Spares r s (s.enterStripping l) := by
  have claimed : Device.Spares r s ((s.enterState l .stripping .strip .none).claimValve l .strip .opened .sequence) :=
    (s.enterState_spares l .stripping .strip .none).trans (Device.claimValve_spares _ l .strip .opened .sequence)
  exact claimed.trans (.of_same (by simp [Device.enterStripping, Device.setDeadline]))

theorem Device.leaveStopping_spares (s : Device) (l : Line) : Device.Spares r s (s.leaveStopping l) :=
  .ite (fun _ => s.enterStripping_spares l) (fun _ => s.enterClosing_spares l)

theorem Device.closeFromLineup_spares (s : Device) (l : Line) (c : Cause) : Device.Spares r s (s.closeFromLineup l c) := by
  have withdrawn (d : Device) : Device.Spares r d ((d.enterState l .closing .holdOff (.line c)).withdrawLine l) :=
    (d.enterState_spares l .closing .holdOff (.line c)).trans (Device.withdrawLine_spares _ l)
  have stopped : Device.Spares r s ((s.setLine l ((s.line l).stopped c false)).setSequenceMemory l .reset) := .of_same (by simp)
  unfold Device.closeFromLineup
  exact .ite (fun _ => stopped.trans (withdrawn _)) (fun _ => (stopped.trans (withdrawn _)).trans (Device.closeManifold_spares _ l))

theorem Device.enterPumpStopping_spares (s : Device) (l : Line) : Device.Spares r s (s.enterPumpStopping l) :=
  Device.Spares.andIf (.of_same (by simp [Device.setStep, Device.setDeadline])) (Device.leaveStopping_spares _ l)

theorem Device.enterStopping_spares (s : Device) (l : Line) (c : Cause) (b : Bool) :
    Device.Spares r s (s.enterStopping l c b) := by
  have stopped : Device.Spares r s (s.setLine l ((s.line l).stopped c b)) := .of_same (by simp)
  exact Device.Spares.andIf (stopped.trans (Device.enterState_spares _ l .stopping .ramp (.line c)))
    (Device.enterPumpStopping_spares _ l)

theorem Device.stopTrigger_spares (s : Device) (l : Line) (c : Cause) (b : Bool) : Device.Spares r s (s.stopTrigger l c b) :=
  .ite (fun _ => s.closeFromLineup_spares l c) (fun _ => .ite (fun _ => s.enterStopping_spares l c b) (fun _ => .refl _))

theorem Device.enterStartWait_spares (s : Device) (l : Line) : Device.Spares r s (s.enterStartWait l) :=
  (Device.Spares.of_same (by simp [Device.setStep])).trans (Device.startTest_spares _ l)

theorem Device.valveEnd_spares (s : Device) (l : Line) (n : NodeNo) (a : Act) (o : TxOutcome) :
    Device.Spares r s (s.valveEnd l n a o) := by
  have manifold : Device.Spares r s (s.enterManifoldOpening l) := by
    have stepped : Device.Spares r s (s.setStep l .manifoldOpening) := .of_same (by simp [Device.setStep])
    exact stepped.trans (.ite (fun _ => Device.enterStartWait_spares _ l) (fun _ => Device.claimValve_spares _ l _ _ _))
  unfold Device.valveEnd
  dsimp only
  split
  · exact .ite (fun _ => (Device.Spares.of_same (by simp)).trans (Device.startTest_spares _ l)) (fun _ => .ite (fun _ => manifold)
      (fun _ => .ite (fun _ => s.enterStartWait_spares l) (fun _ => s.startTest_spares l)))
  · exact .ite (fun _ => s.primeClaim_spares l) (fun _ => .refl _)
  · unfold Device.closingEnd
    split
    · exact .ite (fun _ => .refl _) (fun _ => s.closeManifold_spares l)
    · exact .ite (fun _ => s.closeValves_spares l) (fun _ => .refl _)
    · exact .ite (fun _ => Device.Spares.andIf (.of_same (by simp)) (Device.enterFree_spares _ l)) (fun _ => .refl _)
    · exact .refl _
  · exact .refl _

theorem Device.pumpEnd_spares (s : Device) (l : Line) (n : NodeNo) : Device.Spares r s (s.pumpEnd l n) :=
  .ite (fun _ => s.leaveStopping_spares l) (fun _ => s.startTest_spares l)

/-! ## The shutdown unit -/

theorem Device.esdFinish_spares (s : Device) (l : Line) : Device.Spares r s (s.esdFinish l) :=
  ((Device.Spares.of_same (by simp)).trans (Device.enterState_spares _ l .tripped .none .none)).trans
    (Device.enqueueReport_spares _ _)

theorem Device.esdDischarge_spares (s : Device) (l : Line) : Device.Spares r s (s.esdDischarge l) := by
  have stepped : Device.Spares r s (s.setSequence l .esdDischarge) := .of_same (by simp)
  exact stepped.trans (.ite (fun _ => Device.esdFinish_spares _ l) (fun _ => Device.claimValve_spares _ l _ _ _))

theorem Device.esdManifold_spares (s : Device) (l : Line) : Device.Spares r s (s.esdManifold l) :=
  Device.Spares.andIf (((Device.Spares.of_same (by simp)).trans (Device.claimUnlessAtRest_spares _ l .manifold .closed)).trans
    (Device.claimUnlessAtRest_spares _ l .strip .closed)) (Device.esdDischarge_spares _ l)

theorem Device.esdEnd_spares (s : Device) (l : Line) (n : NodeNo) : Device.Spares r s (s.esdEnd l n) := by
  unfold Device.esdEnd
  split
  · exact s.esdManifold_spares l
  · exact s.esdDischarge_spares l
  · exact s.esdFinish_spares l
  · exact .refl _

theorem Device.setLatch_spares (s : Device) (c : Cause) (line subject v : Nat) :
    Device.Spares r s (s.setLatch c line subject v) := by
  have tripped (d : Device) : Device.Spares r d (d.tripLines c) := by
    refine .forLines (fun l d => .ite (fun _ => ?_) (fun _ => .refl _))
    exact (Device.Spares.of_same (by simp)).trans (Device.enterState_spares _ l .tripping .none (.line c))
  have started (ls : List Line) (d : Device) : Device.Spares r d (d.startSequences ls) := by
    induction ls generalizing d with
    | nil => exact .refl _
    | cons l ls ih =>
      refine Device.Spares.trans ?_ (ih _)
      have claimed : Device.Spares r d (((d.setSequence l .esdPumpStop).claimPump l 0 .esd).claimUnlessAtRest l .returnValve .opened) :=
        ((Device.Spares.of_same (by simp)).trans (Device.claimPump_spares _ l 0 .esd)).trans
          (Device.claimUnlessAtRest_spares _ l .returnValve .opened)
      exact claimed.trans (.of_same (by simp [Device.esdStart, Device.setPumpDeadline]))
  have reported : Device.Spares r s ((s.setShutdown { s.shutdown with
      latch := true, first := some ⟨c, s.time⟩, firstLine := line, firstSubject := subject }).driveBargeLoop.alarmEvent.reportEsd c
      line subject v 1) :=
    (Device.Spares.of_same (by simp [Device.driveBargeLoop, Device.alarmEvent])).trans (Device.submit_spares _ _ _ _ _ _ _)
  exact ((reported.trans (tripped _)).trans (Device.placeReports_spares _)).trans (started _ _)

theorem Device.esdTrigger_spares (s : Device) (c : Cause) (line subject v : Nat) :
    Device.Spares r s (s.esdTrigger c line subject v) :=
  .ite (fun _ => s.submit_spares _ _ _ _ _ _) (fun _ => s.setLatch_spares c line subject v)

/-! ## The end of a transaction (R132) -/

theorem Device.endTriggers_spares (s : Device) (n : NodeNo) (l : Line) (a : Act) (o : TxOutcome) :
    Device.Spares r s (s.endTriggers n l a o) := by
  unfold Device.endTriggers
  split
  · exact .refl _
  · split
    · exact .ite (fun _ => (Device.Spares.of_same (by simp)).trans (Device.holdTrigger_spares _ l _)) (fun _ => .of_same (by simp))
    · exact Device.Spares.andIf (.of_same (by simp)) (Device.esdTrigger_spares _ _ _ _ _)
    · exact .of_same (by simp)
    · exact .refl _

theorem Device.handEnd_spares (s : Device) (n : NodeNo) (l : Line) (x : Transaction) (o : TxOutcome) :
    Device.Spares r s (s.handEnd n l x o) := by
  unfold Device.handEnd
  cases x.act with
  | move g => exact Device.Spares.andIf (s.valveEnd_spares l n _ o) (Device.esdEnd_spares _ l n)
  | speed v =>
    have ended : Device.Spares r s (if x.origin = .esd then (s.pumpEnd l n).esdEnd l n else s.pumpEnd l n) :=
      Device.Spares.andIf (s.pumpEnd_spares l n) (Device.esdEnd_spares _ l n)
    exact ended.trans (.of_same (by simp))

end

end Sys2Proof.Machine

/-! SUPPORT. The end of a transaction (R132): its parts, and what a line sees of them. -/

namespace Sys2Proof.Machine

open Sys2Proof

/-! ## The parts of an end -/

/-- The device once the in-flight slot is emptied and the end reported (R132 steps 1 and 2). -/
def Device.endTold (s : Device) (n : NodeNo) (a : Act) (o : TxOutcome) : Device :=
  ((s.emptyInFlight n a o).reportEnd n a o).placeReports

/-- The device before the end is handed on (R132 steps 1 to 5). -/
def Device.endTaken (s : Device) (n : NodeNo) (l : Line) (a : Act) (o : TxOutcome) : Device :=
  ((s.endTold n a o).endTriggers n l a o).placeReports.promote n

theorem Device.endTransaction_eq {s : Device} {n : NodeNo} {l : Line} {x : Transaction} (o : TxOutcome)
    (flying : (s.node n).inFlight = some x) (line : (s.node n).line = some l) :
    s.endTransaction n o = (s.endTaken n l x.act o).handEnd n l x o := by
  rw [Device.endTransaction, flying, line]
  rfl

theorem Device.endTold_same (s : Device) (n : NodeNo) (a : Act) (o : TxOutcome) :
    (s.emptyInFlight n a o).alike (s.endTold n a o) := by
  simp [Device.alike, Device.SamePlant, Device.SameLines, Device.endTold]

theorem Device.emptyInFlight_node (s : Device) (n : NodeNo) (a : Act) (o : TxOutcome) :
    (s.emptyInFlight n a o).node n = { s.node n with inFlight := none, valve := stateAtEnd (s.node n).valve a o } ∧
      ∀ m, m ≠ n → (s.emptyInFlight n a o).node m = s.node m := by
  unfold Device.emptyInFlight
  exact ⟨by simp, fun m other => by simp [other]⟩

theorem Device.emptyInFlight_settings (s : Device) (n : NodeNo) (a : Act) (o : TxOutcome) :
    s.sameSettings (s.emptyInFlight n a o) := s.sameSettings_of_stills _ (by simp)

/-! ## The queued claim moved into the in-flight slot (R132 step 5) -/

theorem Device.promote_other (s : Device) (n m : NodeNo) (other : m ≠ n) : (s.promote n).node m = s.node m := by
  unfold Device.promote
  split
  · rw [Device.goInFlight_node _ n m _ other]
    simp [other]
  · rfl

theorem Device.promote_flying (s : Device) (n : NodeNo) {x : Transaction} (flying : (s.node n).inFlight = some x) :
    s.promote n = s := by
  unfold Device.promote
  rw [flying]

theorem Device.promote_unqueued (s : Device) (n : NodeNo) (unqueued : (s.node n).queued = none) : s.promote n = s := by
  unfold Device.promote
  rw [unqueued]
  split
  · rename_i h
    cases h
  · rfl

/-- A node with an empty in-flight slot and a claim queued sees the claim go in flight. -/
theorem Device.promote_queued (s : Device) (n : NodeNo) {c : Claim} (empty : (s.node n).inFlight = none)
    (queued : (s.node n).queued = some c) :
    (s.promote n).node n = { s.node n with inFlight := some (c.started s.time), queued := none } := by
  have promoted : s.promote n = (s.setNode n { s.node n with queued := none }).goInFlight n c := by
    unfold Device.promote
    rw [empty, queued]
  have keeps (d : Device) (a : Act) : ((d.takeTarget n a).noteEntered n).node n = d.node n := Device.node_congr _ _ n (by simp)
  rw [promoted]
  unfold Device.goInFlight
  rw [keeps]
  simp [Claim.started]

/-- What the promoted node is follows from the node and the time. -/
theorem Device.promote_node_congr {s t : Device} (n : NodeNo) (time : t.time = s.time) (node : t.node n = s.node n) :
    (t.promote n).node n = (s.promote n).node n := by
  cases flying : (s.node n).inFlight with
  | some x => rw [s.promote_flying n flying, t.promote_flying n (by rw [node, flying]), node]
  | none =>
    cases queued : (s.node n).queued with
    | none => rw [s.promote_unqueued n queued, t.promote_unqueued n (by rw [node, queued]), node]
    | some c =>
      rw [s.promote_queued n flying queued, t.promote_queued n (by rw [node, flying]) (by rw [node, queued]), node, time]

theorem Device.promote_settings (s : Device) (n : NodeNo) : s.sameSettings (s.promote n) := s.sameSettings_of_stills _ (by simp)

/-- A line sees the same promotion from devices that are the same for it. -/
theorem Device.promote_sameFor {s t : Device} {n : NodeNo} {l : Line} (line : (s.node n).line = some l) (h : s.sameFor t l) :
    (s.promote n).sameFor (t.promote n) l := by
  obtain ⟨time, charter, settings, nodes, context, governor, hose, topOff, tanks⟩ := h
  refine ⟨by simpa using time, by simpa using charter, fun m => ?_, fun m at_l => ?_, by simpa using context,
    by simpa using governor, by simpa using hose, by simpa using topOff, fun k => by simpa [Device.tankHas] using tanks k⟩
  · obtain ⟨kind, at_m, role⟩ := settings m
    obtain ⟨kind', at_m', role'⟩ := s.promote_settings n m
    obtain ⟨kind'', at_m'', role''⟩ := t.promote_settings n m
    exact ⟨by rw [kind'', kind, kind'], by rw [at_m'', at_m, at_m'], by rw [role'', role, role']⟩
  · by_cases here : m = n
    · subst here
      exact Device.promote_node_congr m time (nodes m line)
    · rw [s.promote_other n m here, t.promote_other n m here]
      refine nodes m ?_
      rwa [(s.promote_settings n m).2.1] at at_l

/-- A claim made on a node stands through the promotion of a queued claim, its own node's or another's. -/
theorem Device.claimTaken_promote {s t : Device} {node : Option NodeNo} {c : Claim} (n : NodeNo) (h : s.claimTaken t node c) :
    s.claimTaken (t.promote n) node c := by
  intro m at_m
  have taken := h m at_m
  by_cases here : m = n
  · subst here
    unfold Node.claimTaken at taken ⊢
    split
    · rename_i empty
      intro unqueued
      rw [empty] at taken
      obtain ⟨flying, none⟩ := taken unqueued
      rw [t.promote_flying m flying]
      exact ⟨flying, none⟩
    · rename_i x flying
      rw [flying] at taken
      obtain ⟨after, queued⟩ := taken
      rw [t.promote_flying m after]
      exact ⟨after, queued⟩
  · rw [t.promote_other n m here]
    exact taken

theorem Device.latchSet_promote {s t : Device} {c : Cause} {line subject : Nat} (n : NodeNo) (h : s.latchSet t c line subject) :
    s.latchSet (t.promote n) c line subject := by
  obtain ⟨latch, first, firstLine, firstSubject, barge, horn, alarm, lines⟩ := h
  unfold Device.latchSet
  simp only [Device.promote_keeps, Device.promote_reads]
  refine ⟨latch, first, firstLine, firstSubject, barge, horn, alarm, fun l => ?_⟩
  have taken := lines l
  split
  · rename_i trips
    rw [if_pos trips] at taken
    obtain ⟨state, step, cause, sequence, deadline, speed, move⟩ := taken
    exact ⟨state, step, cause, sequence, deadline, Device.claimTaken_promote n speed,
      fun open_ => Device.claimTaken_promote n (move open_)⟩
  · rename_i stays
    rwa [if_neg stays] at taken

/-! ## What the ESD sequence's steps read (R92, R93) -/

section
variable {s d t u : Device} {l : Line}

theorem Device.esdFinished_map (h : s.esdFinished t l) (line : d.line l = s.line l) (time : d.time = s.time)
    (line' : u.line l = t.line l) (sequence : u.shutdown.sequence = t.shutdown.sequence) : d.esdFinished u l := by
  unfold Device.esdFinished at *
  rwa [line, time, line', sequence]

theorem Device.esdDischargeTaken_map (h : s.esdDischargeTaken t l)
    (rest : d.atRest l .discharge .closed = s.atRest l .discharge .closed)
    (claims : ∀ r g o, s.moveClaimed t l r g o → d.moveClaimed u l r g o) (line : d.line l = s.line l) (time : d.time = s.time)
    (line' : u.line l = t.line l) (sequence : u.shutdown.sequence = t.shutdown.sequence) : d.esdDischargeTaken u l := by
  unfold Device.esdDischargeTaken at *
  rw [rest, line, line', sequence]
  split
  · rename_i open_
    rw [if_pos open_] at h
    obtain ⟨step, context, move⟩ := h
    exact ⟨step, context, claims _ _ _ move⟩
  · rename_i closed
    rw [if_neg closed] at h
    exact Device.esdFinished_map h line time line' sequence

theorem Device.esdClosed_map (h : s.esdClosed t l) (rest : ∀ r, d.atRest l r .closed = s.atRest l r .closed)
    (claims : ∀ r g o, s.moveClaimed t l r g o → d.moveClaimed u l r g o) (line : d.line l = s.line l) (time : d.time = s.time)
    (line' : u.line l = t.line l) (sequence : u.shutdown.sequence = t.shutdown.sequence) : d.esdClosed u l := by
  obtain ⟨strip, manifold⟩ := h
  unfold Device.esdClosed
  rw [rest, rest, line, line', sequence]
  refine ⟨fun open_ => claims _ _ _ (strip open_), ?_⟩
  split
  · rename_i open_
    rw [if_pos open_] at manifold
    obtain ⟨step, context, move⟩ := manifold
    exact ⟨step, context, claims _ _ _ move⟩
  · rename_i closed
    rw [if_neg closed] at manifold
    exact Device.esdDischargeTaken_map manifold (rest _) claims line time line' sequence

theorem Device.closingTaken_map {c : Option Cause} (h : s.closingTaken t l c)
    (closes : ∀ r, d.closesValve l r = s.closesValve l r)
    (claims : ∀ r g o, s.moveClaimed t l r g o → d.moveClaimed u l r g o) (line' : u.line l = t.line l)
    (hose : u.hose l = t.hose l) (tanks : ∀ k, t.tankHas k (fun e => decide (e.assigned = some l)) = false →
      u.tankHas k (fun e => decide (e.assigned = some l)) = false) : d.closingTaken u l c := by
  unfold Device.closingTaken Device.valvesClosingTaken Device.freed at *
  simp only [closes, line', hose]
  split
  · rename_i manifold
    rw [if_pos manifold] at h
    obtain ⟨state, step, cause, move⟩ := h
    exact ⟨state, step, cause, claims _ _ _ move⟩
  · rename_i closed
    rw [if_neg closed] at h
    split
    · rename_i some_
      rw [if_pos some_] at h
      obtain ⟨state, step, cause, moves⟩ := h
      exact ⟨state, step, cause, fun r other awaits => claims _ _ _ (moves r other awaits)⟩
    · rename_i none_
      rw [if_neg none_] at h
      obtain ⟨state, step, cause, reset, released⟩ := h
      exact ⟨state, step, cause, reset, fun k => tanks k (released k)⟩

end

/-! ## The end of a SPEED (R21, R41, R92, R136) -/

section
variable {s : Device} {n : NodeNo} {l : Line} {x : Transaction} {v : Nat} (o : TxOutcome)
  (pump : (s.node n).kind = .pump)
include pump

omit pump in
/-- The device when the end of a SPEED is handed on: nothing but the pump's slots has moved. -/
theorem Device.speedTaken_same : (s.endTaken n l (.speed v) o).time = s.time ∧
    (s.endTaken n l (.speed v) o).charter = s.charter ∧ s.SameLines (s.endTaken n l (.speed v) o) ∧
    (s.endTaken n l (.speed v) o).tanks = s.tanks ∧ (s.endTaken n l (.speed v) o).shutdown = s.shutdown ∧
    (s.endTaken n l (.speed v) o).stills = s.stills ∧ (s.endTaken n l (.speed v) o).valves = s.valves ∧
    (∀ m, m ≠ n → (s.endTaken n l (.speed v) o).node m = s.node m) ∧
    ((s.node n).queued = none → (s.endTaken n l (.speed v) o).node n = { s.node n with inFlight := none }) := by
  have before : (s.endTold n (.speed v) o).nodes = (s.emptyInFlight n (.speed v) o).nodes := (s.endTold_same n _ o).nodes
  have taken : s.endTaken n l (.speed v) o = (s.endTold n (.speed v) o).placeReports.promote n := rfl
  obtain ⟨here, other⟩ := s.emptyInFlight_node n (.speed v) o
  have node (m : NodeNo) : (s.endTold n (.speed v) o).placeReports.node m = (s.emptyInFlight n (.speed v) o).node m :=
    Device.node_congr _ _ m (by rw [← before]; simp)
  have valves : (s.emptyInFlight n (.speed v) o).valves = s.valves := by
    funext m
    unfold Device.valves
    by_cases at_n : m = n
    · rw [at_n, here]
      rfl
    · rw [other m at_n]
  rw [taken]
  refine ⟨by simp [Device.endTold], by simp [Device.endTold], by simp [Device.endTold, Device.SameLines],
    by simp [Device.endTold], by simp [Device.endTold], by simp [Device.endTold], by simp [Device.endTold, valves],
    fun m at_m => ?_, fun unqueued => ?_⟩
  · rw [Device.promote_other _ n m at_m, node, other m at_m]
  · rw [Device.promote_unqueued _ n (by rw [node, here]; exact unqueued), node, here]
    rfl

/-- A line's valves stand through the end of its pump's SPEED. -/
theorem Device.speedTaken_valve (r : Role) (m : NodeNo) (valve : s.valveOf l r = some m) :
    (s.endTaken n l (.speed v) o).node m = s.node m := by
  obtain ⟨-, -, -, -, -, -, -, other, -⟩ := Device.speedTaken_same (s := s) (n := n) (l := l) (v := v) o
  refine other m (fun here => ?_)
  have kind := (s.valveOf_some l r m valve).1
  rw [here, pump] at kind
  cases kind

/-- Claims of the line's valves are seen from before the end. -/
theorem Device.speedTaken_claims {t u : Device} (nodes : u.nodes = t.nodes) (r : Role) (g : Target) (c : Origin)
    (h : (s.endTaken n l (.speed v) o).moveClaimed t l r g c) : s.moveClaimed u l r g c := by
  obtain ⟨time, -, -, -, -, stills, -⟩ := Device.speedTaken_same (s := s) (n := n) (l := l) (v := v) o
  have settings : (s.endTaken n l (.speed v) o).sameSettings s := Device.sameSettings_of_stills _ s stills.symm
  refine Device.moveClaimed_at _ s t u l r g c h time.symm settings (fun m valve => ?_)
    (fun m _ => Device.node_congr u t m nodes)
  rw [← Device.valveOf_congr _ s settings] at valve
  exact (Device.speedTaken_valve (l := l) (v := v) o pump r m valve).symm

theorem Device.speedTaken_atRest (r : Role) (g : Target) : s.atRest l r g = (s.endTaken n l (.speed v) o).atRest l r g := by
  obtain ⟨-, -, -, -, -, stills, -⟩ := Device.speedTaken_same (s := s) (n := n) (l := l) (v := v) o
  exact (s.atRest_congr _ l r g (s.sameSettings_of_stills _ stills)
    (fun m valve => Device.speedTaken_valve (l := l) (v := v) o pump r m valve)).symm

theorem Device.speedTaken_closes (r : Role) : s.closesValve l r = (s.endTaken n l (.speed v) o).closesValve l r := by
  obtain ⟨-, -, -, -, -, stills, -⟩ := Device.speedTaken_same (s := s) (n := n) (l := l) (v := v) o
  refine (s.closesValve_congr _ l r (s.sameSettings_of_stills _ stills) (fun m valve => ?_)).symm
  rw [Device.speedTaken_valve (l := l) (v := v) o pump r m valve]
  exact ⟨rfl, rfl, rfl⟩

end

/-- The pump stop, or the start test, at the end of a SPEED (R6, R21). -/
theorem Device.pumpEnd_stays {d : Device} {l : Line} {n : NodeNo} (stopping : (d.line l).state ≠ .stopping)
    (lineup : (d.line l).state ≠ .lineup) : d.pumpEnd l n = d := by
  unfold Device.pumpEnd
  rw [if_neg (fun h => stopping h.1), Device.startTest_none lineup]

theorem Device.esdEnd_stays {d : Device} {l : Line} {n : NodeNo} (none : d.shutdown.sequence.get l = .none) :
    d.esdEnd l n = d := by
  unfold Device.esdEnd
  rw [none]

/-- Only a TRIPPING line has an ESD sequence. -/
theorem Device.latchHolds.sequence {d : Device} (holds : d.latchHolds) {l : Line} (state : (d.line l).state ≠ .tripping) :
    d.shutdown.sequence.get l = .none := by
  obtain ⟨-, running⟩ := holds l
  exact Decidable.byContradiction (fun some_ => state (running some_))

/-- Leaving STOPPING strips the line, or closes it (R21, R23, R24). -/
theorem Device.leaveStopping_taken (d : Device) (l : Line) :
    if (d.line l).stripFlag = true then
      ((d.leaveStopping l).line l).state = .stripping ∧ ((d.leaveStopping l).line l).step = .strip ∧
      ((d.leaveStopping l).line l).stopCause = (d.line l).stopCause ∧ ((d.leaveStopping l).line l).entry = d.time ∧
      ((d.leaveStopping l).line l).deadline = some (d.secondsOn (d.limits l).stripLimit) ∧
      d.moveClaimed (d.leaveStopping l) l .strip .opened .sequence
    else d.closingTaken (d.leaveStopping l) l (d.line l).stopCause := by
  unfold Device.leaveStopping
  split
  · obtain ⟨step, entry, deadline, -⟩ := d.enterStripping_line l
    exact ⟨by simp [Device.enterStripping, Device.setDeadline], step, by simp [Device.enterStripping, Device.setDeadline], entry,
      deadline, d.enterStripping_claimed l⟩
  · exact d.enterClosing_taken l

end Sys2Proof.Machine

/-! SUPPORT. The end of a SPEED on a line (R21, R41, R92, R136; O42). -/

namespace Sys2Proof.Machine

open Sys2Proof

section
variable {s : Device} {n : NodeNo} {l : Line} {x : Transaction} {v : Nat} {o : TxOutcome}

/-- The report of an end has its place in the queue until the event's end (R132). -/
theorem Device.endTransaction_told (flow : s.reportsFlow) (flying : (s.node n).inFlight = some x)
    (line : (s.node n).line = some l) :
    (s.endTransaction n o).finish.reportWaits ⟨.valveDone, lineNumber l, nodeAddress n, .outcome o,
      BitVec.ofNat 32 (actNumber x.act), BitVec.ofNat 32 (s.node n).readingA, s.time, .none⟩ := by
  obtain ⟨here, -⟩ := s.emptyInFlight_node n x.act o
  have told : s.endTold n x.act o = ((s.emptyInFlight n x.act o).enqueueReport ⟨.valveDone, lineNumber l, nodeAddress n,
      .outcome o, BitVec.ofNat 32 (actNumber x.act), BitVec.ofNat 32 (s.node n).readingA, s.time, .none⟩).placeReports := by
    have time : (s.emptyInFlight n x.act o).time = s.time := by simp
    unfold Device.endTold Device.reportEnd Device.submit Device.nodeLine
    rw [here, time]
    simp only [line]
    rfl
  refine Device.Spares.reportWaits flow (by simp) ?_
  rw [Device.endTransaction_eq o flying line]
  have placed := Device.submit_placed flow (d := s.emptyInFlight n x.act o) (by simp)
    ⟨.valveDone, lineNumber l, nodeAddress n, .outcome o, BitVec.ofNat 32 (actNumber x.act),
      BitVec.ofNat 32 (s.node n).readingA, s.time, .none⟩
  rw [← told] at placed
  have triggered := Device.placeReports_spares _ (Device.endTriggers_spares _ n l x.act o placed)
  have promoted := Device.Spares.of_same (t := s.endTaken n l x.act o) (by simp [Device.endTaken]) triggered
  exact Device.handEnd_spares _ n l x o promoted

variable (pump : (s.node n).kind = .pump) (line : (s.node n).line = some l) (flying : (s.node n).inFlight = some x)
  (act : x.act = .speed v) (holds : s.latchHolds)

/-- What the line controller and the shutdown unit make of the end of a SPEED. -/
def Device.speedHanded (s : Device) (n : NodeNo) (l : Line) (x : Transaction) (v : Nat) (o : TxOutcome) : Device :=
  if x.origin = .esd then ((s.endTaken n l (.speed v) o).pumpEnd l n).esdEnd l n else (s.endTaken n l (.speed v) o).pumpEnd l n

include pump line flying act holds

omit pump holds in
theorem Device.endTransaction_speed :
    s.endTransaction n o = (s.speedHanded n l x v o).governorEnd l n (.speed v) o := by
  rw [Device.endTransaction_eq o flying line, Device.handEnd]
  simp only [act]
  rfl

omit pump line flying act in
/-- Outside TRIPPING, STOPPING and LINEUP the line takes nothing of the end but the reclaim mark. -/
theorem Device.speedHanded_stays (tripping : (s.line l).state ≠ .tripping) (stopping : (s.line l).state ≠ .stopping)
    (lineup : (s.line l).state ≠ .lineup) : s.speedHanded n l x v o = s.endTaken n l (.speed v) o := by
  obtain ⟨-, -, ⟨lines, -⟩, -, shutdown, -⟩ := Device.speedTaken_same (s := s) (n := n) (l := l) (v := v) o
  have context : (s.endTaken n l (.speed v) o).line l = s.line l := Device.line_congr _ _ l lines
  unfold Device.speedHanded
  rw [Device.pumpEnd_stays (by rw [context]; exact stopping) (by rw [context]; exact lineup),
    Device.esdEnd_stays (by rw [shutdown]; exact holds.sequence tripping), ite_self]

omit pump line flying act in
/-- A FREE line takes nothing of the end of a SPEED. -/
theorem Device.speedEnded_free (free : (s.line l).state = .free) :
    (s.speedHanded n l x v o).governorEnd l n (.speed v) o = s.endTaken n l (.speed v) o := by
  obtain ⟨-, -, ⟨lines, -⟩, -⟩ := Device.speedTaken_same (s := s) (n := n) (l := l) (v := v) o
  have context : (s.endTaken n l (.speed v) o).line l = s.line l := Device.line_congr _ _ l lines
  rw [Device.speedHanded_stays holds (by simp [free]) (by simp [free]) (by simp [free])]
  unfold Device.governorEnd
  rw [if_neg (by simp [context, free, LineState.reclaims])]

omit line flying act in
/-- The pump stop in step PUMP_STOPPING (R21, R136). -/
theorem Device.speedEnded_stop (unqueued : (s.node n).queued = none) (stopping : (s.line l).state = .stopping)
    (step : (s.line l).step = .pumpStopping) :
    if (s.line l).stripFlag = true then
      ((s.speedHanded n l x v o).line l).state = .stripping ∧ ((s.speedHanded n l x v o).line l).step = .strip ∧
      ((s.speedHanded n l x v o).line l).stopCause = (s.line l).stopCause ∧
      ((s.speedHanded n l x v o).line l).entry = s.time ∧
      ((s.speedHanded n l x v o).line l).deadline = some (s.secondsOn (s.limits l).stripLimit) ∧
      s.moveClaimed (s.speedHanded n l x v o) l .strip .opened .sequence
    else s.closingTaken (s.speedHanded n l x v o) l (s.line l).stopCause := by
  have claims (u : Device) := Device.speedTaken_claims (l := l) (v := v) o pump (t := u) (u := u) rfl
  have closes := Device.speedTaken_closes (l := l) (v := v) o pump
  obtain ⟨time, charter, ⟨lines, -⟩, -, shutdown, -, -, -, node⟩ := Device.speedTaken_same (s := s) (n := n) (l := l) (v := v) o
  have idle : ((s.endTaken n l (.speed v) o).node n).idle = true := by simp [node unqueued, Node.idle, unqueued]
  have handed : s.speedHanded n l x v o = (s.endTaken n l (.speed v) o).leaveStopping l := by
    have context : (s.endTaken n l (.speed v) o).line l = s.line l := Device.line_congr _ _ l lines
    have left : (s.endTaken n l (.speed v) o).pumpEnd l n = (s.endTaken n l (.speed v) o).leaveStopping l := by
      unfold Device.pumpEnd
      rw [if_pos ⟨by rw [context, stopping], by rw [context, step], idle⟩]
    unfold Device.speedHanded
    rw [left, Device.esdEnd_stays (by simp [shutdown, holds.sequence (l := l) (by simp [stopping])]), ite_self]
  generalize s.endTaken n l (.speed v) o = d at *
  have context : d.line l = s.line l := Device.line_congr _ _ l lines
  have left := d.leaveStopping_taken l
  rw [context] at left
  rw [handed]
  split
  · rename_i strip
    rw [if_pos strip] at left
    obtain ⟨state, step', cause, entry, deadline, move⟩ := left
    refine ⟨state, step', cause, entry.trans time, ?_, claims _ .strip .opened .sequence move⟩
    rw [deadline, Device.secondsOn, Device.secondsOn, time, Device.limits, charter, Device.limits]
  · rename_i close
    rw [if_neg close] at left
    exact Device.closingTaken_map left closes (claims _) rfl rfl (fun _ h => h)

omit line flying act in
/-- The end of the ESD sequence's own SPEED ends step ESD_PUMP_STOP (R92). -/
theorem Device.speedEnded_esd (esd : x.origin = .esd) (sequence : s.shutdown.sequence.get l = .esdPumpStop) :
    (s.speedHanded n l x v o).shutdown.pumpDeadline.get l = none ∧ s.esdClosed (s.speedHanded n l x v o) l := by
  have claims (u : Device) := Device.speedTaken_claims (l := l) (v := v) o pump (t := u) (u := u) rfl
  have rest := Device.speedTaken_atRest (l := l) (v := v) o pump
  obtain ⟨-, running⟩ := holds l
  have tripping : (s.line l).state = .tripping := running (by simp [sequence])
  obtain ⟨time, -, ⟨lines, -⟩, -, shutdown, stills, -⟩ := Device.speedTaken_same (s := s) (n := n) (l := l) (v := v) o
  have handed : s.speedHanded n l x v o = (s.endTaken n l (.speed v) o).esdManifold l := by
    have context : (s.endTaken n l (.speed v) o).line l = s.line l := Device.line_congr _ _ l lines
    have kind : ((s.endTaken n l (.speed v) o).node n).kind = .pump := by
      rw [(s.sameSettings_of_stills _ stills n).1, pump]
    unfold Device.speedHanded
    rw [if_pos esd, Device.pumpEnd_stays (by simp [context, tripping]) (by simp [context, tripping])]
    unfold Device.esdEnd
    rw [shutdown, sequence, kind]
  rw [handed]
  generalize s.endTaken n l (.speed v) o = d at *
  exact ⟨d.esdManifold_deadline l, Device.esdClosed_map (d.esdManifold_closed l) (fun r => rest r .closed) (claims _)
    (Device.line_congr _ _ l lines).symm time.symm rfl rfl⟩

omit pump line flying act in
/-- The reclaim mark of a line that could deliver (R41). -/
theorem Device.speedEnded_reclaim (reclaims : (s.line l).state.reclaims = true) (unqueued : (s.node n).queued = none)
    (last : v = (s.governor l).lastSpeed) (ended : o ≠ .abandoned) :
    (((s.speedHanded n l x v o).governorEnd l n (.speed v) o).governor l).reclaim =
      if o = .done then (s.governor l).reclaim else true := by
  have stays : s.speedHanded n l x v o = s.endTaken n l (.speed v) o :=
    Device.speedHanded_stays holds (fun h => by simp [h, LineState.reclaims] at reclaims)
      (fun h => by simp [h, LineState.reclaims] at reclaims) (fun h => by simp [h, LineState.reclaims] at reclaims)
  obtain ⟨-, -, ⟨lines, -, governors, -⟩, -, -, -, -, -, node⟩ := Device.speedTaken_same (s := s) (n := n) (l := l) (v := v) o
  have governor : (s.endTaken n l (.speed v) o).governor l = s.governor l := Device.governor_congr _ _ l governors
  have context : (s.endTaken n l (.speed v) o).line l = s.line l := Device.line_congr _ _ l lines
  have empty : ((s.endTaken n l (.speed v) o).node n).inFlight = none := by rw [node unqueued]
  rw [stays]
  unfold Device.governorEnd
  rw [context, governor, empty, ← last]
  cases o with
  | done => simp [reclaims, governor]
  | refused => simp [reclaims]
  | failed => simp [reclaims]
  | abandoned => exact absurd rfl ended

/-- The end of a SPEED, at the end of its event. -/
theorem Device.endTransaction_speedEnded (ended : o ≠ .abandoned) :
    s.speedEnded (s.endTransaction n o).finish n l x v o (s.node n).readingA ∧
      (s.endTransaction n o).finish.shutdown.latch = s.shutdown.latch ∧ s.SameOtherLines l (s.endTransaction n o).finish ∧
      (s.endTransaction n o).finish.valves = s.valves := by
  have told (flow : s.reportsFlow) := Device.endTransaction_told (o := o) flow flying line
  rw [act] at told
  have free (h : (s.line l).state = .free) := Device.speedEnded_free (n := n) (x := x) (v := v) (o := o) holds h
  have stop := Device.speedEnded_stop (l := l) (x := x) (v := v) (o := o) pump holds
  have reclaim := Device.speedEnded_reclaim (n := n) (l := l) (x := x) (v := v) (o := o) holds
  have esd := Device.speedEnded_esd (l := l) (x := x) (v := v) (o := o) pump holds
  rw [Device.endTransaction_speed line flying act] at told ⊢
  obtain ⟨time, charter, ⟨lines, memory, governors, hoses, topOffs⟩, -, shutdown, stills, valves, -, node⟩ :=
    Device.speedTaken_same (s := s) (n := n) (l := l) (v := v) o
  have others : (s.speedHanded n l x v o).shutdown.latch = s.shutdown.latch ∧ (s.speedHanded n l x v o).valves = s.valves ∧
      s.SameOtherLines l (s.speedHanded n l x v o) := by
    have context (m : Line) : (s.endTaken n l (.speed v) o).line m = s.line m := Device.line_congr _ _ m lines
    have governor (m : Line) : (s.endTaken n l (.speed v) o).governor m = s.governor m := Device.governor_congr _ _ m governors
    have hose (m : Line) : (s.endTaken n l (.speed v) o).hose m = s.hose m := Device.hose_congr _ _ m hoses
    have topOff (m : Line) : (s.endTaken n l (.speed v) o).topOff m = s.topOff m := Device.topOff_congr _ _ m topOffs
    unfold Device.speedHanded
    split
    · exact ⟨by simp [shutdown], by simp [valves], fun m other => by simp [other, context, governor, hose, topOff]⟩
    · exact ⟨by simp [shutdown], by simp [valves], fun m other => by simp [other, context, governor, hose, topOff]⟩
  obtain ⟨latch, valves', other⟩ := others
  refine ⟨⟨told, fun h unqueued => ?_, fun zero unqueued stopping step => ?_, fun reclaims _ unqueued last => ?_,
    fun own sequence => ?_⟩, by simp [latch], fun m h => ?_, by simp [valves']⟩
  · rw [free h]
    simp [node unqueued, Node.idle, unqueued, Device.SameLines, lines, memory, governors, hoses, topOffs]
  · have stopped := stop unqueued stopping step
    generalize s.speedHanded n l x v o = e at *
    split
    · rename_i strip
      rw [if_pos strip] at stopped
      obtain ⟨state, step', cause, entry, deadline, move⟩ := stopped
      rw [Device.line_congr (e.governorEnd l n (.speed v) o).finish e l (by simp)]
      exact ⟨state, step', cause, entry, deadline, Device.moveClaimed_of s s e _ l _ _ _ move
        (s.carries_nodes s e _ l rfl rfl (by simp))⟩
    · rename_i close
      rw [if_neg close] at stopped
      exact s.closingTaken_of s e _ l _ stopped (fun _ => rfl) (s.carries_nodes s e _ l rfl rfl (by simp)) (by simp) (by simp)
        (fun k h => by simpa [Device.tankHas] using h)
  · rw [Device.governor_congr _ ((s.speedHanded n l x v o).governorEnd l n (.speed v) o) l (by simp)]
    exact reclaim reclaims unqueued last ended
  · obtain ⟨deadline, closed⟩ := esd own sequence
    generalize s.speedHanded n l x v o = e at *
    exact ⟨by simpa using deadline, Device.esdClosed_map closed (fun _ => rfl)
      (fun r g c move => Device.moveClaimed_of s s e _ l r g c move (s.carries_nodes s e _ l rfl rfl (by simp))) rfl rfl (by simp)
      (by simp)⟩
  · obtain ⟨context, governor, hose, topOff⟩ := other m h
    simp [h, context, governor, hose, topOff]

end

end Sys2Proof.Machine

/-! SUPPORT. A valve that fails (R88, R93, R99, R133, R135; O42). -/

namespace Sys2Proof.Machine

open Sys2Proof

/-! ## The failure effects (R132 step 4, R135) -/

/-- The device after the alarm event and the valve alarm of a FAILED valve (R99, R135). -/
def Device.alarmed (s : Device) : Device := s.alarmEvent.retakeValveAlarm

theorem Device.alarmed_shutdown (s : Device) (failed : s.anyValveFailed = true) :
    s.alarmed.shutdown = { s.shutdown with hornSounding := true, alarmPending := true, valveAlarm := true } := by
  have failed' : s.alarmEvent.anyValveFailed = true := by simpa [Device.anyValveFailed] using failed
  unfold Device.alarmed Device.retakeValveAlarm
  rw [failed']
  dsimp only
  split
  · rename_i same
    unfold Device.alarmEvent at same ⊢
    rw [Device.setShutdown_shutdown] at same ⊢
    rw [same]
  · simp [Device.alarmEvent]

section
variable {s : Device} {n : NodeNo} {l : Line} {x : Transaction} {g : Target}
  (valve : (s.node n).kind = .valve) (line : (s.node n).line = some l) (flying : (s.node n).inFlight = some x)
  (act : x.act = .move g) (holds : s.latchHolds)

/-- The device when the failure effects of a FAILED valve are due. -/
def Device.failedTold (s : Device) (n : NodeNo) (g : Target) : Device := (s.endTold n (.move g) .failed).alarmed

include valve in
theorem Device.failedTold_same : (s.emptyInFlight n (.move g) .failed).time = (s.failedTold n g).time ∧
    (s.failedTold n g).charter = s.charter ∧ s.SameLines (s.failedTold n g) ∧ (s.failedTold n g).tanks = s.tanks ∧
    (s.failedTold n g).nodes = (s.emptyInFlight n (.move g) .failed).nodes ∧
    (s.failedTold n g).shutdown = { s.shutdown with hornSounding := true, alarmPending := true, valveAlarm := true } := by
  obtain ⟨here, -⟩ := s.emptyInFlight_node n (.move g) .failed
  have nodes : (s.endTold n (.move g) .failed).nodes = (s.emptyInFlight n (.move g) .failed).nodes :=
    (s.endTold_same n _ _).nodes
  have failed : (s.endTold n (.move g) .failed).anyValveFailed = true := by
    refine List.any_eq_true.mpr ⟨n, mem_allNodes n, ?_⟩
    rw [Device.node_congr _ _ n nodes, here]
    simp [valve, stateAtEnd]
  have shutdown := Device.alarmed_shutdown _ failed
  refine ⟨?_, ?_, ?_, ?_, ?_, ?_⟩
  · simp [Device.failedTold, Device.alarmed, Device.endTold]
  · simp [Device.failedTold, Device.alarmed, Device.endTold]
  · simp [Device.failedTold, Device.alarmed, Device.endTold, Device.SameLines]
  · simp [Device.failedTold, Device.alarmed, Device.endTold]
  · rw [← nodes]
    simp [Device.failedTold, Device.alarmed]
  · rw [Device.failedTold, shutdown]
    simp [Device.endTold]

/-- The failure sets the latch, or is a further cause of a line that is not FREE (R88 to R90, R135). -/
theorem Device.endTaken_failed : s.endTaken n l (.move g) .failed =
    (if (s.failedTold n g).lineBusy l = true then
      (s.failedTold n g).esdTrigger .valveFailed (lineNumber l) (nodeAddress n) 0 else s.failedTold n g).placeReports.promote n := rfl

include line flying act in
/-- The end of a MOVE on a line that the shutdown unit holds, or has let go. -/
theorem Device.endTransaction_move (o : TxOutcome)
    (state : ((s.endTaken n l (.move g) o).line l).state ≠ .lineup ∧ ((s.endTaken n l (.move g) o).line l).state ≠ .priming ∧
      ((s.endTaken n l (.move g) o).line l).state ≠ .closing) :
    s.endTransaction n o =
      if x.origin = .esd then (s.endTaken n l (.move g) o).esdEnd l n else s.endTaken n l (.move g) o := by
  obtain ⟨lineup, priming, closing⟩ := state
  rw [Device.endTransaction_eq o flying line, Device.handEnd, act]
  have stays : (s.endTaken n l (.move g) o).valveEnd l n (.move g) o = s.endTaken n l (.move g) o := by
    unfold Device.valveEnd
    dsimp only
    split
    · exact absurd ‹_› lineup
    · exact absurd ‹_› priming
    · exact absurd ‹_› closing
    · rfl
  simp only [stays]

include valve line flying act holds

/-- With the latch CLEAR and the line not FREE the failure sets the latch, and moves no sequence (R88, R89, R135). -/
theorem Device.endTransaction_trips (busy : (s.line l).state ≠ .free) (clear : s.shutdown.latch = false) :
    (s.emptyInFlight n (.move g) .failed).latchSet (s.endTransaction n .failed).finish .valveFailed (lineNumber l)
      (nodeAddress n) ∧ (s.endTransaction n .failed).shutdown.valveAlarm = true ∧
      (s.endTransaction n .failed).valves = (s.emptyInFlight n (.move g) .failed).valves := by
  have taken := s.endTaken_failed (n := n) (l := l) (g := g)
  obtain ⟨time, charter, ⟨lines, -⟩, -, nodes, shutdown⟩ := Device.failedTold_same (g := g) valve
  have kind : ((s.endTaken n l (.move g) .failed).node n).kind = .valve := by
    have stills : (s.endTaken n l (.move g) .failed).stills = s.stills := by
      simp [Device.endTaken, Device.endTold]
    rw [(s.sameSettings_of_stills _ stills n).1, valve]
  generalize s.failedTold n g = d at *
  have context : d.line l = s.line l := Device.line_congr _ _ l lines
  rw [Device.lineBusy, context, decide_eq_true busy, if_pos rfl, Device.esdTrigger, shutdown, if_neg (by simp [clear])] at taken
  have set := d.setLatch_latchSet .valveFailed (lineNumber l) (nodeAddress n) 0
  have tripping : (s.endTaken n l (.move g) .failed).shutdown.sequence.get l = .esdPumpStop ∧
      ((s.endTaken n l (.move g) .failed).line l).state = .tripping := by
    obtain ⟨-, -, -, -, -, -, -, trips⟩ := set
    have trips := trips l
    obtain ⟨stands, -⟩ := holds l
    rw [if_neg (by simp [clear])] at stands
    have moves : (d.line l).state.trips = true := by
      rw [context]
      cases state : (s.line l).state <;> simp_all [LineState.trips]
    rw [if_pos moves] at trips
    obtain ⟨state, -, -, sequence, -⟩ := trips
    rw [taken]
    exact ⟨by simpa using sequence, by simpa using state⟩
  obtain ⟨sequence, state⟩ := tripping
  have ended : s.endTransaction n .failed = s.endTaken n l (.move g) .failed := by
    rw [Device.endTransaction_move (g := g) line flying act .failed (by simp [state])]
    have stays : (s.endTaken n l (.move g) .failed).esdEnd l n = s.endTaken n l (.move g) .failed := by
      unfold Device.esdEnd
      rw [sequence, kind]
    rw [stays, ite_self]
  have valves : d.valves = (s.emptyInFlight n (.move g) .failed).valves := by
    funext m
    rw [Device.valves, Device.node_congr _ _ m nodes, Device.valves]
  rw [ended, taken]
  refine ⟨?_, by simp [shutdown], by simp [valves]⟩
  have promoted := Device.latchSet_promote n ((Device.alike.refl d).latchSet
    (t := d.setLatch .valveFailed (lineNumber l) (nodeAddress n) 0)
    (u := (d.setLatch .valveFailed (lineNumber l) (nodeAddress n) 0).placeReports)
    (by simp [Device.alike, Device.SamePlant, Device.SameLines]) set)
  have settled := (Device.alike.refl d).latchSet (Device.finish_alike _) promoted
  exact d.latchSet_of _ _ _ _ _ _ settled (by simp [lines]) (by simp [charter]) rfl rfl
    (fun m => d.carries_nodes _ _ _ m time nodes.symm rfl)
    (fun m => (d.atRest_congr _ m _ _ (d.sameSettings_of_nodes _ nodes.symm) (fun k _ => Device.node_congr _ _ k nodes.symm)))

omit line flying act holds in
/-- A line that the latch holds, or that is FREE, takes no other effect before the end is handed on. -/
theorem Device.failedTaken_same (quiet : (s.line l).state = .free ∨ s.shutdown.latch = true) :
    (∀ m, (s.endTaken n l (.move g) .failed).node m = ((s.emptyInFlight n (.move g) .failed).promote n).node m) ∧
      (s.endTaken n l (.move g) .failed).time = s.time ∧ s.SameLines (s.endTaken n l (.move g) .failed) ∧
      (s.endTaken n l (.move g) .failed).shutdown =
        { s.shutdown with hornSounding := true, alarmPending := true, valveAlarm := true } := by
  have taken := s.endTaken_failed (n := n) (l := l) (g := g)
  obtain ⟨time, -, same, -, nodes, shutdown⟩ := Device.failedTold_same (g := g) valve
  generalize s.failedTold n g = d at *
  obtain ⟨e, triggered, nodes', time', same', shutdown'⟩ : ∃ e : Device,
      s.endTaken n l (.move g) .failed = e.placeReports.promote n ∧ e.nodes = d.nodes ∧ e.time = d.time ∧ d.SameLines e ∧
        e.shutdown = d.shutdown := by
    refine ⟨_, taken, ?_⟩
    split
    · rename_i busy
      have context : d.line l = s.line l := Device.line_congr _ _ l same.1
      rw [Device.lineBusy, context, decide_eq_true_iff] at busy
      rw [Device.esdTrigger, shutdown, if_pos (quiet.resolve_left busy)]
      simp [Device.reportEsd, Device.SameLines, shutdown]
    · exact ⟨rfl, rfl, ⟨rfl, rfl, rfl, rfl, rfl⟩, rfl⟩
  rw [triggered]
  refine ⟨fun m => ?_, ?_, ?_, by simp [shutdown', shutdown]⟩
  · have node (k : NodeNo) : e.placeReports.node k = (s.emptyInFlight n (.move g) .failed).node k :=
      Device.node_congr _ _ k (by simp [nodes', nodes])
    by_cases here : m = n
    · subst here
      exact Device.promote_node_congr m (by simp [time', ← time]) (node m)
    · rw [Device.promote_other _ n m here, Device.promote_other _ n m here, node]
  · simp [time', ← time]
  · have lines := same.trans same'
    simpa [Device.SameLines] using lines

/-- The end of a MOVE that fails, on a line that the latch holds or that is FREE, moves the ESD sequence alone (R93, R135). -/
theorem Device.endTransaction_esd (quiet : (s.line l).state = .free ∨ s.shutdown.latch = true) :
    s.endTransaction n .failed =
      if x.origin = .esd then (s.endTaken n l (.move g) .failed).esdEnd l n else s.endTaken n l (.move g) .failed := by
  obtain ⟨-, -, ⟨lines, -⟩, -⟩ := Device.failedTaken_same (l := l) (g := g) valve quiet
  have stands : (s.line l).state.trips = false := by
    obtain free | latch := quiet
    · rw [free]
      rfl
    · obtain ⟨stands, -⟩ := holds l
      rwa [if_pos latch] at stands
  refine Device.endTransaction_move line flying act .failed ?_
  rw [Device.line_congr _ _ l lines]
  refine ⟨fun h => ?_, fun h => ?_, fun h => ?_⟩ <;> simp [h, LineState.trips] at stands

end

end Sys2Proof.Machine

/-! SUPPORT. The travel expiry that falls due (R129; O42), and the ESD sequence at the end of a MOVE (R92, R93). -/

namespace Sys2Proof.Machine

open Sys2Proof

/-! ## The ESD sequence at the end of a MOVE (R92, R93) -/

/-- A device in which the end of a transaction is handed on, as a line that the latch holds sees it. -/
structure Device.EndSeen (s d : Device) (n : NodeNo) (a : Act) (o : TxOutcome) : Prop where
  node : ∀ m, d.node m = ((s.emptyInFlight n a o).promote n).node m
  time : d.time = s.time
  lines : s.SameLines d
  sequence : d.shutdown.sequence = s.shutdown.sequence
  told : Device.Tells 2 s d
  ring : d.reports.producer = s.reports.producer ∧ d.reports.consumer = s.reports.consumer

section
variable {s d : Device} {n : NodeNo} {l : Line} {a : Act} {o : TxOutcome} (seen : s.EndSeen d n a o)
include seen

theorem Device.EndSeen.settings : ((s.emptyInFlight n a o).promote n).sameSettings d := fun m => by
  rw [seen.node m]
  exact ⟨rfl, rfl, rfl⟩

theorem Device.EndSeen.line : d.line l = s.line l := Device.line_congr _ _ l seen.lines.1

theorem Device.EndSeen.kind_role : (d.node n).kind = (s.node n).kind ∧ (d.node n).role = (s.node n).role := by
  rw [seen.node n]
  obtain ⟨kind, -, role⟩ := (s.emptyInFlight n a o).promote_settings n n
  obtain ⟨kind', -, role'⟩ := s.emptyInFlight_settings n a o n
  exact ⟨kind.trans kind', role.trans role'⟩

theorem Device.EndSeen.esdDischarge :
    ((s.emptyInFlight n a o).promote n).esdDischargeTaken (d.esdDischarge l).finish l := by
  have time : ((s.emptyInFlight n a o).promote n).time = d.time := by simp [seen.time]
  have line : ((s.emptyInFlight n a o).promote n).line l = d.line l := by simp [seen.line]
  have rest := d.esdDischarge_entered l
  have settings (m : NodeNo) : d.sameSettings ((s.emptyInFlight n a o).promote n) := fun k => by
    rw [seen.node k]
    exact ⟨rfl, rfl, rfl⟩
  refine Device.esdDischargeTaken_map rest (d.atRest_congr _ l _ _ (settings n) (fun m _ => (seen.node m).symm))
    (fun r g c move => Device.moveClaimed_at d _ _ _ l r g c move time (settings n) (fun m _ => (seen.node m).symm)
      (fun m _ => ?_)) line time (by simp) (by simp)
  simp

theorem Device.EndSeen.esdFinish :
    ((s.emptyInFlight n a o).promote n).esdFinished (d.esdFinish l).finish l ∧
      (s.reportsFlow → s.summaryGiven (d.esdFinish l).finish l) := by
  have time : ((s.emptyInFlight n a o).promote n).time = d.time := by simp [seen.time]
  have line : ((s.emptyInFlight n a o).promote n).line l = d.line l := by simp [seen.line]
  refine ⟨Device.esdFinished_map (d.esdFinish_finished l) line time (by simp) (by simp), fun flow => ?_⟩
  obtain ⟨usable, empty, -⟩ := id flow
  have room : s.reports.queue.length + 2 ≤ 16 := by simp [empty]
  obtain ⟨-, length, -⟩ := seen.told.told room
  obtain ⟨tells, told⟩ := d.esdFinish_told l (by rw [seen.told.usable, usable]) (by simp [empty] at length; omega)
  have summary : d.summaryOf l = s.summaryOf l := Device.summaryOf_congr (by rw [seen.line]) (by rw [seen.line])
    (by rw [seen.line]) (by rw [Device.governor_congr _ _ l seen.lines.2.2.1]) seen.time
  rw [summary] at told
  refine (seen.told.trans tells).reportWaits flow (by omega) (by simp [seen.ring]) told

/-- The end of a MOVE of a valve whose line is TRIPPING or TRIPPED moves the ESD sequence, or nothing of the line (R93). -/
theorem Device.EndSeen.moveEnded {x : Transaction} (valve : (s.node n).kind = .valve) (act : x.act = a) (holds : s.latchHolds)
    (state : (s.line l).state = .tripping ∨ (s.line l).state = .tripped) :
    s.moveEnded (if x.origin = .esd then d.esdEnd l n else d).finish n l x o := by
  obtain ⟨kind, role⟩ := seen.kind_role
  have sequence := seen.sequence
  have line := seen.line (l := l)
  unfold Device.moveEnded
  dsimp only
  rw [act]
  obtain state | state := state
  · rw [state]
    dsimp only
    split
    · rename_i own
      obtain ⟨esd, manifold, at_manifold⟩ := own
      have handed : d.esdEnd l n = d.esdDischarge l := by
        unfold Device.esdEnd
        rw [sequence, manifold, kind, valve, role, at_manifold]
      rw [if_pos esd, handed]
      exact seen.esdDischarge
    · rename_i other
      split
      · rename_i own
        obtain ⟨esd, discharge, at_discharge⟩ := own
        have handed : d.esdEnd l n = d.esdFinish l := by
          unfold Device.esdEnd
          rw [sequence, discharge, kind, valve, role, at_discharge]
        rw [if_pos esd, handed]
        exact seen.esdFinish
      · rename_i neither
        have handed : (if x.origin = .esd then d.esdEnd l n else d) = d := by
          split
          · rename_i esd
            unfold Device.esdEnd
            rw [sequence, kind, valve, role]
            split
            · exact absurd ‹_› (by decide : NodeKind.valve ≠ .pump)
            · rename_i running _ at_role
              exact absurd ⟨esd, running, at_role⟩ other
            · rename_i running _ at_role
              exact absurd ⟨esd, running, at_role⟩ neither
            · rfl
          · rfl
        rw [handed]
        exact ⟨by simp [line], by simp [sequence]⟩
  · have stays : d.esdEnd l n = d := Device.esdEnd_stays (by rw [sequence]; exact holds.sequence (by simp [state]))
    rw [stays, ite_self, state]
    simp [line]

end

/-! ## A valve that fails (R129, R132, R135) -/

theorem Device.endTold_tells (s : Device) (n : NodeNo) (a : Act) (o : TxOutcome) : Device.Tells 1 s (s.endTold n a o) := by
  have emptied : Device.Tells 0 s (s.emptyInFlight n a o) := .of_same (by simp)
  have reported : Device.Tells 1 (s.emptyInFlight n a o) ((s.emptyInFlight n a o).reportEnd n a o) := Device.submit_tells ..
  exact ((emptied.trans reported).trans (Device.placeReports_tells _)).mono (by omega)

section
variable {s : Device} {n : NodeNo} {l : Line} {x : Transaction} {g : Target}
  (valve : (s.node n).kind = .valve) (line : (s.node n).line = some l) (flying : (s.node n).inFlight = some x)
  (act : x.act = .move g) (holds : s.latchHolds)
include valve

theorem Device.failedTaken_tells (quiet : (s.line l).state = .free ∨ s.shutdown.latch = true) :
    Device.Tells 2 s (s.endTaken n l (.move g) .failed) := by
  have told := s.endTold_tells n (.move g) .failed
  have alarmed : Device.Tells 1 s (s.failedTold n g) := told.of_reports _ (by simp [Device.failedTold, Device.alarmed])
  obtain ⟨-, -, ⟨lines, -⟩, -, -, shutdown⟩ := Device.failedTold_same (g := g) valve
  have context : (s.failedTold n g).line l = s.line l := Device.line_congr _ _ l lines
  have triggered : Device.Tells 2 s (if (s.failedTold n g).lineBusy l = true then
      (s.failedTold n g).esdTrigger .valveFailed (lineNumber l) (nodeAddress n) 0 else s.failedTold n g) := by
    refine .ite (fun busy => ?_) (fun _ => alarmed.mono (by omega))
    rw [Device.lineBusy, context, decide_eq_true_iff] at busy
    rw [Device.esdTrigger, shutdown, if_pos (quiet.resolve_left busy)]
    exact alarmed.trans (Device.submit_tells ..)
  rw [Device.endTaken_failed]
  exact (triggered.trans (Device.placeReports_tells _)).of_reports _ (by simp)

theorem Device.failedTaken_seen (quiet : (s.line l).state = .free ∨ s.shutdown.latch = true) :
    s.EndSeen (s.endTaken n l (.move g) .failed) n (.move g) .failed := by
  obtain ⟨node, time, lines, shutdown⟩ := Device.failedTaken_same (l := l) (g := g) valve quiet
  exact ⟨node, time, lines, by rw [shutdown], Device.failedTaken_tells valve quiet, by simp [Device.endTaken, Device.endTold]⟩

include line flying act holds

/-- The end of a MOVE that fails, at the end of its event (R93, R99, R132, R133, R135). -/
theorem Device.endTransaction_failed :
    (s.endTransaction n .failed).finish.valves = (s.emptyInFlight n (.move g) .failed).valves ∧
    (s.endTransaction n .failed).finish.shutdown.hornSounding = true ∧
    (s.endTransaction n .failed).finish.shutdown.alarmPending = true ∧
    (s.endTransaction n .failed).finish.shutdown.valveAlarm = true ∧
    (if (s.line l).state ≠ .free ∧ s.shutdown.latch = false then
      (s.emptyInFlight n (.move g) .failed).latchSet (s.endTransaction n .failed).finish .valveFailed (lineNumber l)
        (nodeAddress n)
     else (s.endTransaction n .failed).finish.shutdown.latch = s.shutdown.latch ∧
      (s.endTransaction n .failed).finish.shutdown.first = s.shutdown.first) ∧
    ((s.line l).state = .tripping ∨ (s.line l).state = .tripped →
      s.moveEnded (s.endTransaction n .failed).finish n l x .failed) := by
  by_cases sets : (s.line l).state ≠ .free ∧ s.shutdown.latch = false
  · obtain ⟨busy, clear⟩ := id sets
    obtain ⟨set, alarm, valves⟩ := Device.endTransaction_trips valve line flying act holds busy clear
    rw [if_pos sets]
    obtain ⟨stands, -⟩ := holds l
    rw [if_neg (by simp [clear])] at stands
    obtain ⟨-, -, -, -, -, horn, pending, -⟩ := id set
    exact ⟨by simpa using valves, horn, pending, by simpa using alarm, set, fun state => absurd state (not_or.mpr stands)⟩
  · have quiet : (s.line l).state = .free ∨ s.shutdown.latch = true := by
      by_cases free : (s.line l).state = .free
      · exact .inl free
      · exact .inr (eq_true_of_ne_false (fun clear => sets ⟨free, clear⟩))
    have seen := Device.failedTaken_seen (l := l) (g := g) valve quiet
    obtain ⟨node, -, -, shutdown⟩ := Device.failedTaken_same (l := l) (g := g) valve quiet
    have valves : (s.endTaken n l (.move g) .failed).valves = (s.emptyInFlight n (.move g) .failed).valves := by
      have promoted : ((s.emptyInFlight n (.move g) .failed).promote n).valves = (s.emptyInFlight n (.move g) .failed).valves := by simp
      rw [← promoted]
      funext m
      rw [Device.valves, node, Device.valves]
    rw [if_neg sets, Device.endTransaction_esd valve line flying act holds quiet]
    refine ⟨?_, ?_, ?_, ?_, ⟨?_, ?_⟩, seen.moveEnded valve act holds⟩
    all_goals
      split
      · simp [shutdown, valves]
      · simp [shutdown, valves]

end

/-- Settles O42: the device's own end is that of a transaction whose outcome is FAILED, a MOVE's or a SPEED's. -/
theorem aTravelExpiryFailsTheValve : Obligations.ATravelExpiryFailsTheValve := by
  have expired (d : Device) (n : NodeNo) (x : Transaction) (flying : (d.node n).inFlight = some x) (travel : x.phase = .travel)
      (due : d.due x.travelExpiry = true) : d.travelExpired n = d.endTransaction n .failed := by
    unfold Device.travelExpired
    rw [flying]
    exact if_pos ⟨travel, due⟩
  refine ⟨fun n l x g s holds valve line flying act travel due => ?_, fun n l x v s holds pump line flying act travel due => ?_⟩
  · obtain ⟨t, run, mem, device⟩ := s.event_taken (fun d => d.travelExpired n)
    obtain ⟨here, other⟩ := s.device.emptyInFlight_node n (.move g) .failed
    rw [expired s.device n x flying travel due] at device
    obtain ⟨valves, horn, pending, alarm, trips, ended⟩ := Device.endTransaction_failed valve line flying act holds
    rw [← device] at valves horn pending alarm trips ended
    have state (m : NodeNo) : (t.device.node m).valve = ((s.device.emptyInFlight n (.move g) .failed).node m).valve :=
      congrFun valves m
    rw [act]
    refine ⟨t, run, by rw [state, here]; rfl, horn, pending, alarm, trips, ended, fun m at_m => by rw [state, other m at_m],
      by simp [device], mem, by simp [device, Device.SameStation, Device.SameClock, Device.SameRing], by simp [device]⟩
  · obtain ⟨t, run, mem, device⟩ := s.event_taken (fun d => d.travelExpired n)
    rw [expired s.device n x flying travel due] at device
    obtain ⟨ended, latch, others, valves⟩ :=
      Device.endTransaction_speedEnded (o := .failed) pump line flying act holds (by simp)
    rw [← device] at ended latch others valves
    exact ⟨t, run, ended, latch, others, valves, by simp [device], mem,
      by simp [device, Device.SameStation, Device.SameClock, Device.SameRing], by simp [device]⟩

end Sys2Proof.Machine

/-! SUPPORT. What a tank report hands to the ship link (R57, R146, R147; O44). -/

namespace Sys2Proof.Machine

open Sys2Proof

/-! ## The send queue (R147) -/

theorem putAdvice_absent (k : TankNo) (v : Advice) (q : List SendEntry) (absent : ∀ w, SendEntry.advice k w ∉ q) :
    putAdvice k v q = q ++ [.advice k v] := by
  induction q with
  | nil => rfl
  | cons e q ih =>
    have rest := ih (fun w member => absent w (List.mem_cons_of_mem _ member))
    cases e with
    | advice u w =>
      have other : u ≠ k := by
        rintro rfl
        exact absent w List.mem_cons_self
      rw [putAdvice, if_neg other, rest, List.cons_append]
    | stopping l c => rw [putAdvice, rest, List.cons_append]

theorem putAdvice_present (k : TankNo) (v w : Advice) (front back : List SendEntry)
    (first : ∀ u, SendEntry.advice k u ∉ front) :
    putAdvice k v (front ++ .advice k w :: back) = front ++ .advice k v :: back := by
  induction front with
  | nil => rw [List.nil_append, putAdvice, if_pos rfl, List.nil_append]
  | cons e front ih =>
    have rest := ih (fun u member => first u (List.mem_cons_of_mem _ member))
    cases e with
    | advice j u =>
      have other : j ≠ k := by
        rintro rfl
        exact first u List.mem_cons_self
      rw [List.cons_append, putAdvice, if_neg other, rest, List.cons_append]
    | stopping l c => rw [List.cons_append, putAdvice, rest, List.cons_append]

theorem putStopping_absent (m : Line) (c : Cause) (q : List SendEntry) (absent : ∀ d, SendEntry.stopping m d ∉ q) :
    putStopping m c q = q ++ [.stopping m c] := by
  induction q with
  | nil => rfl
  | cons e q ih =>
    have rest := ih (fun d member => absent d (List.mem_cons_of_mem _ member))
    cases e with
    | advice u w => rw [putStopping, rest, List.cons_append]
    | stopping l d =>
      have other : l ≠ m := by
        rintro rfl
        exact absent d List.mem_cons_self
      rw [putStopping, if_neg other, rest, List.cons_append]

theorem putStopping_present (m : Line) (c d : Cause) (front back : List SendEntry)
    (first : ∀ u, SendEntry.stopping m u ∉ front) :
    putStopping m c (front ++ .stopping m d :: back) = front ++ .stopping m c :: back := by
  induction front with
  | nil => rw [List.nil_append, putStopping, if_pos rfl, List.nil_append]
  | cons e front ih =>
    have rest := ih (fun u member => first u (List.mem_cons_of_mem _ member))
    cases e with
    | advice j u => rw [List.cons_append, putStopping, rest, List.cons_append]
    | stopping l u =>
      have other : l ≠ m := by
        rintro rfl
        exact first u List.mem_cons_self
      rw [List.cons_append, putStopping, if_neg other, rest, List.cons_append]

/-! ## What is handed in an event (R146) -/

/-- The link after an event that hands it the entries of a queue, as `Device.handed` says of the device. -/
def Link.Handed (m : Mode) (k j : Link) (q : List SendEntry) : Prop :=
  (k.sending.isSome = true → j.queue = q ∧ j.sending = k.sending) ∧
  (k.sending = none → k.queue = [] → k.state = .active → m = .watch →
    match q with
    | [] => j.queue = []
    | e :: rest => j.sending = some e.frame ∧ j.queue = rest)

theorem Device.handed_iff (s t : Device) (q : List SendEntry) :
    s.handed t q ↔ Link.Handed s.charter.mode s.link t.link q := Iff.rfl

theorem Link.Handed.refl (m : Mode) (k : Link) : Link.Handed m k k k.queue := by
  exact ⟨fun _ => ⟨rfl, rfl⟩, fun _ empty _ _ => by simp [empty]⟩

/-- One more entry put: the first of an event leaves at once when the transmitter is free, every later one queues behind. -/
theorem Link.Handed.put {m : Mode} {k j : Link} {q : List SendEntry} (p : List SendEntry → List SendEntry) (x : SendEntry)
    (b : List Byte) (h : Link.Handed m k j q) (state : j.state = k.state) (queued : q ≠ [] ∨ j = k)
    (single : p [] = [x]) (leaves : x.mayLeave .active = true)
    (later : ∀ e rest, k.queue = [] → q = e :: rest → p (e :: rest) = e :: p rest) :
    Link.Handed m k (j.handing m b (p j.queue)) (p q) := by
  obtain ⟨busy, free⟩ := h
  refine ⟨fun sending => ?_, fun none empty active watch => ?_⟩
  · obtain ⟨queue, same⟩ := busy sending
    rw [Link.handing_busy j m b _ (by rw [same, sending]), queue]
    exact ⟨rfl, same⟩
  · have handed := free none empty active watch
    cases q with
    | nil =>
      obtain rfl : j = k := queued.resolve_left (fun h => h rfl)
      have chosen : takeLeaving j.state [x] = some (x, []) := by rw [active, takeLeaving, if_pos leaves]
      have sent : j.handing m b (p j.queue) = { j with queue := [], sending := some x.frame } := by
        unfold Link.handing
        rw [if_neg (by simp [watch, none]), empty, single, chosen]
      rw [sent, single]
      exact ⟨rfl, rfl⟩
    | cons e rest =>
      obtain ⟨sending, queue⟩ := handed
      rw [Link.handing_busy j m b _ (by rw [sending]; rfl), queue, later e rest empty rfl]
      exact ⟨sending, rfl⟩

theorem Link.handing_state (k : Link) (m : Mode) (b : List Byte) (q : List SendEntry) : (k.handing m b q).state = k.state := by
  have sends := k.handing_sends m b q
  rw [Link.Sends] at sends
  rw [sends]

theorem Link.stopping_state (k : Link) (m : Mode) (l : Line) (c : Cause) : (k.stopping m l c).state = k.state :=
  k.handing_state m [] _

theorem putStopping_nonempty (l : Line) (c : Cause) (q : List SendEntry) : putStopping l c q ≠ [] := by
  obtain ⟨e, rest, taken⟩ := putStopping_leaves .active l c q
  intro empty
  rw [empty] at taken
  cases taken

/-- A LINE_STOPPING is handed behind the entries of the event that are not its line's own. -/
theorem Link.Handed.stopping {m : Mode} {k j : Link} {q : List SendEntry} (h : Link.Handed m k j q) (l : Line) (c : Cause)
    (state : j.state = k.state) (queued : q ≠ [] ∨ j = k)
    (other : ∀ e rest d, k.queue = [] → q = e :: rest → e ≠ .stopping l d) :
    Link.Handed m k (j.stopping m l c) (putStopping l c q) := by
  refine h.put (putStopping l c) (.stopping l c) [] state queued rfl rfl (fun e rest empty at_q => ?_)
  cases e with
  | advice t v => rfl
  | stopping n d =>
    have differs : n ≠ l := by
      rintro rfl
      exact other _ rest d empty at_q rfl
    rw [putStopping, if_neg differs]

/-- The LINE_STOPPINGs of different lines join an empty queue in the order in which they are put. -/
theorem putStoppings_map (c : Cause) (ls : List Line) (distinct : ls.Nodup) :
    ls.reverse.foldl (fun q l => putStopping l c q) [] = ls.reverse.map (fun l => SendEntry.stopping l c) := by
  induction ls with
  | nil => rfl
  | cons l ls ih =>
    obtain ⟨apart, fresh⟩ := List.nodup_cons.mp distinct
    rw [List.reverse_cons, List.foldl_append, ih fresh, List.map_append, List.foldl_cons, List.foldl_nil,
      putStopping_absent l c _ (fun d member => ?_), List.map_cons, List.map_nil]
    obtain ⟨n, listed, same⟩ := List.mem_map.mp member
    obtain rfl : n = l := by
      injection same
    exact apart (List.mem_reverse.mp listed)

/-- The LINE_STOPPINGs of different lines, handed one after another, the last of the list first. -/
theorem Link.handed_reversed (m : Mode) (k : Link) (c : Cause) (ls : List Line) (distinct : ls.Nodup) :
    Link.Handed m k (ls.reverse.foldl (fun k l => k.stopping m l c) k)
        (ls.reverse.foldl (fun q l => putStopping l c q) k.queue) ∧
      (ls.reverse.foldl (fun k l => k.stopping m l c) k).state = k.state := by
  induction ls with
  | nil => exact ⟨.refl m k, rfl⟩
  | cons l ls ih =>
    obtain ⟨apart, fresh⟩ := List.nodup_cons.mp distinct
    obtain ⟨handed, state⟩ := ih fresh
    rw [List.reverse_cons, List.foldl_append, List.foldl_append, List.foldl_cons, List.foldl_nil, List.foldl_cons, List.foldl_nil]
    refine ⟨handed.stopping l c state ?_ (fun e rest d empty at_q same => ?_), (Link.stopping_state _ m l c).trans state⟩
    · cases ls with
      | nil => exact .inr rfl
      | cons n ls =>
        refine .inl ?_
        rw [List.reverse_cons, List.foldl_append, List.foldl_cons, List.foldl_nil]
        exact putStopping_nonempty n c _
    · rw [empty, putStoppings_map c ls fresh] at at_q
      have member : SendEntry.stopping l d ∈ ls.reverse.map (fun l => SendEntry.stopping l c) := by
        rw [at_q, same]
        exact List.mem_cons_self
      obtain ⟨n, listed, same⟩ := List.mem_map.mp member
      obtain rfl : n = l := by
        injection same
      exact apart (List.mem_reverse.mp listed)

/-- The LINE_STOPPINGs of different lines, handed one after another. -/
theorem Link.handed_stoppings (m : Mode) (k : Link) (c : Cause) (ls : List Line) (distinct : ls.Nodup) :
    Link.Handed m k (ls.foldl (fun k l => k.stopping m l c) k) (ls.foldl (fun q l => putStopping l c q) k.queue) ∧
      (ls.foldl (fun k l => k.stopping m l c) k).state = k.state := by
  have reversed := Link.handed_reversed m k c ls.reverse (List.pairwise_reverse.mpr (distinct.imp Ne.symm))
  rwa [List.reverse_reverse] at reversed

end Sys2Proof.Machine

/-! SUPPORT. A tank report stored, and its effects on the line of the tank (R50, R57, R58, R62, R64; O44). -/

namespace Sys2Proof.Machine

open Sys2Proof

/-! ## The report stored (R50 to R54) -/

/-- What of the entry a report sets, and what it leaves. -/
theorem Device.reportedTank_keeps (s : Device) (e : Tank) (r : TankReport) :
    (s.reportedTank e r).volume = some r.volume ∧ (s.reportedTank e r).valve = r.valve ∧
    (s.reportedTank e r).alarm = r.alarm ∧ (s.reportedTank e r).lastReport = some s.time ∧
    (s.reportedTank e r).freshness = .fresh ∧
    (s.reportedTank e r).silenceExpiry = some (s.secondsOn s.general.tankSilence) ∧
    (s.reportedTank e r).lostExpiry = some (s.secondsOn s.general.tankLost) ∧
    (s.reportedTank e r).assigned = e.assigned ∧ (s.reportedTank e r).advice = e.advice ∧
    (s.reportedTank e r).closeDeadline = e.closeDeadline ∧ (s.reportedTank e r).closeAllowance = e.closeAllowance := by
  unfold Device.reportedTank Device.measure Device.storeReport
  dsimp only
  split
  · exact ⟨rfl, rfl, rfl, rfl, rfl, rfl, rfl, rfl, rfl, rfl, rfl⟩
  · split <;> exact ⟨rfl, rfl, rfl, rfl, rfl, rfl, rfl, rfl, rfl, rfl, rfl⟩

section
variable (s : Device) (r : TankReport) (old : Tank)

@[simp] theorem Device.reportStored_keeps : (s.reportStored r old).time = s.time ∧ (s.reportStored r old).half = s.half ∧
    (s.reportStored r old).strap = s.strap ∧ (s.reportStored r old).charter = s.charter ∧
    (s.reportStored r old).lines = s.lines ∧ (s.reportStored r old).memory = s.memory ∧
    (s.reportStored r old).governors = s.governors ∧ (s.reportStored r old).hoses = s.hoses ∧
    (s.reportStored r old).topOffs = s.topOffs ∧ (s.reportStored r old).nodes = s.nodes ∧
    (s.reportStored r old).targets = s.targets ∧ (s.reportStored r old).link = s.link ∧
    (s.reportStored r old).shutdown.latch = s.shutdown.latch ∧ (s.reportStored r old).stills = s.stills ∧
    (s.reportStored r old).valves = s.valves := by
  unfold Device.reportStored
  dsimp only
  split <;> split <;> split <;> simp [Device.alarmEvent]

theorem Device.reportStored_tank (k : TankNo) :
    (s.reportStored r old).tank k = if k = r.tank then some (s.reportedTank old r) else s.tank k := by
  have stored (d : Device) (same : d.tanks = (s.setTank r.tank (s.reportedTank old r)).tanks) :
      d.retakeTankAlarm.placeReports.tank k = if k = r.tank then some (s.reportedTank old r) else s.tank k := by
    rw [Device.tank_congr _ (s.setTank r.tank (s.reportedTank old r)) k (by simp [same]), Device.setTank_tank]
  refine stored _ ?_
  split <;> split <;> split <;> simp

/-- The entry to HIGH or OVERFILL is an alarm event, whose horn sounds while a tank is so (R61, R99). -/
theorem Device.reportStored_alarms (changed : (s.reportedTank old r).state ≠ old.state)
    (alarms : (s.reportedTank old r).state.alarms = true) :
    (s.reportStored r old).shutdown.hornSounding = true ∧ (s.reportStored r old).shutdown.alarmPending = true := by
  have retaken (d : Device) (tank : d.tank r.tank = some (s.reportedTank old r)) (horn : d.shutdown.hornSounding = true)
      (pending : d.shutdown.alarmPending = true) :
      d.retakeTankAlarm.placeReports.shutdown.hornSounding = true ∧
        d.retakeTankAlarm.placeReports.shutdown.alarmPending = true := by
    have high : d.anyTankHigh = true := by
      refine List.any_eq_true.mpr ⟨r.tank, mem_allTanks r.tank, ?_⟩
      rw [tank]
      cases state : (s.reportedTank old r).state <;> simp_all [TankState.alarms]
    unfold Device.retakeTankAlarm
    dsimp only
    split
    · simp [horn, pending]
    · simp [high, horn, pending]
  unfold Device.reportStored
  dsimp only
  rw [if_pos (c := (s.reportedTank old r).state ≠ old.state ∧ (s.reportedTank old r).state.alarms = true) ⟨changed, alarms⟩]
  refine retaken _ ?_ (by simp [Device.alarmEvent]) (by simp [Device.alarmEvent])
  rw [Device.tank_congr _ (s.setTank r.tank (s.reportedTank old r)) r.tank, Device.setTank_tank, if_pos rfl]
  split <;> split <;> simp

end

/-! ## The open tanks of a line (R62 to R64) -/

/-- A tank of a line with its valve OPEN or MOVING. -/
def Device.opens (s : Device) (l : Line) (k : TankNo) : Bool :=
  s.tankHas k (fun e => decide (e.assigned = some l) && e.openValve)

theorem Device.openTanks_eq (s : Device) (l : Line) : s.openTanks l = allTanks.filter (s.opens l) := by
  unfold Device.openTanks Device.tanksOf
  rw [List.filter_filter]
  refine congrArg (fun p => allTanks.filter p) (funext fun k => ?_)
  unfold Device.opens Device.tankHas
  cases s.tank k with
  | none => rfl
  | some e => exact Bool.and_comm _ _

section
variable {s : Device} {l : Line} {k j : TankNo}

theorem Device.mem_openTanks : k ∈ s.openTanks l ↔ s.opens l k = true := by
  simp [Device.openTanks_eq, mem_allTanks]

theorem Device.openTanks_none (none : ∀ k, s.opens l k = false) : s.openTanks l = [] := by
  rw [Device.openTanks_eq, List.filter_eq_nil_iff]
  exact fun k _ => by simp [none k]

theorem Device.openTanks_only (opens : s.opens l k = true) (others : ∀ j, j ≠ k → s.opens l j = false) :
    s.openTanks l = [k] := by
  have here : s.opens l = fun j => decide (j = k) := by
    funext j
    by_cases same : j = k
    · rw [same, opens, decide_eq_true rfl]
    · rw [others j same, decide_eq_false same]
  have one : ∀ k : TankNo, allTanks.filter (fun j => decide (j = k)) = [k] := by decide
  rw [Device.openTanks_eq, here, one]

/-- The line's only open tank is not HIGH when an open tank is not, or when two are open (R62). -/
theorem Device.lastTankHigh_false (opens : s.opens l k = true)
    (apart : s.tankHas k (fun e => decide (e.state = .high)) = false ∨ ∃ j, j ≠ k ∧ s.opens l j = true) :
    s.lastTankHigh l = false := by
  unfold Device.lastTankHigh
  split
  · rename_i t only
    have own (j : TankNo) (opens : s.opens l j = true) : j = t := by
      have member := Device.mem_openTanks.mpr opens
      rw [only] at member
      exact List.mem_singleton.mp member
    obtain low | ⟨j, other, opens'⟩ := apart
    · rw [← own k opens]
      exact low
    · exact absurd ((own j opens').trans (own k opens).symm) other
  · rfl

end

/-! ## Advice and the close deadline (R57, R58) -/

theorem Device.setCloseDeadline_at (s : Device) (t : TankNo) (d : Option Time) {e : Tank} (present : s.tank t = some e)
    (k : TankNo) : (s.setCloseDeadline t d).tank k = if k = t then some { e with closeDeadline := d } else s.tank k := by
  rw [Device.setCloseDeadline, present, Device.setTank_tank]

theorem Device.advise_at (s : Device) (t : TankNo) (v : Advice) {e : Tank} (present : s.tank t = some e)
    (k : TankNo) : (s.advise t v).tank k = if k = t then some { e with advice := v } else s.tank k := by
  unfold Device.advise
  rw [present]
  simp

theorem Device.advise_link (s : Device) (t : TankNo) (v : Advice) {e : Tank} (present : s.tank t = some e) :
    (s.advise t v).link = s.link.handing s.charter.mode s.bargeStatus (putAdvice t v s.link.queue) := by
  rw [← Device.sendAdvice_link, Device.advise, present]
  simp

section
variable (s : Device) (t : TankNo) (old : TankState) {e : Tank} (present : s.tank t = some e)

/-- The close deadline of a tank that leaves HIGH is cleared (R58). -/
def Device.lowered (s : Device) (t : TankNo) (old : TankState) : Device :=
  if old = .high then s.setCloseDeadline t none else s

/-- The device once the advice of a tank's entry to NEAR or HIGH is given, if it is due (R57). -/
def Device.adviseIf (s : Device) (c : Bool) (t : TankNo) (v : Advice) : Device := if c then s.advise t v else s

include present

theorem Device.lowered_at (k : TankNo) : (s.lowered t old).tank k =
    if k = t then some { e with closeDeadline := if old = .high then none else e.closeDeadline } else s.tank k := by
  unfold Device.lowered
  split
  · exact s.setCloseDeadline_at t none present k
  · split
    · rename_i here
      rw [here, present]
    · rfl

theorem Device.adviseIf_at (c : Bool) (v : Advice) (k : TankNo) : (s.adviseIf c t v).tank k =
    if k = t then some { e with advice := if c then v else e.advice } else s.tank k := by
  unfold Device.adviseIf
  split
  · exact s.advise_at t v present k
  · split
    · rename_i here
      rw [here, present]
    · rfl

theorem Device.adviseIf_handed (c : Bool) (v : Advice) :
    Link.Handed s.charter.mode s.link (s.adviseIf c t v).link (if c then putAdvice t v s.link.queue else s.link.queue) ∧
      (s.adviseIf c t v).link.state = s.link.state ∧
      ((if c then putAdvice t v s.link.queue else s.link.queue) ≠ [] ∨ (s.adviseIf c t v).link = s.link) := by
  unfold Device.adviseIf
  split
  · rw [s.advise_link t v present]
    refine ⟨(Link.Handed.refl _ s.link).put (putAdvice t v) (.advice t v) s.bargeStatus rfl (.inr rfl) rfl rfl
      (fun x rest empty at_q => ?_), Link.handing_state .., .inl ?_⟩
    · rw [empty] at at_q
      cases at_q
    · cases s.link.queue with
      | nil => simp [putAdvice]
      | cons x rest =>
        cases x with
        | advice u w =>
          rw [putAdvice]
          split <;> simp
        | stopping l c => simp [putAdvice]
  · exact ⟨.refl _ _, rfl, .inr rfl⟩

/-- The advice effects, by the state that the tank holds (R57, R58). -/
theorem Device.adviseTank_near (state : e.state = .near) : s.adviseTank t old =
    (s.lowered t old).adviseIf (decide (old ≠ .near ∧ e.advice = .none)) t .approaching := by
  unfold Device.adviseTank Device.adviseIf Device.lowered
  rw [present]
  simp only [state, decide_eq_true_eq]

theorem Device.adviseTank_high (state : e.state = .high) : s.adviseTank t old =
    (s.adviseIf (decide (old ≠ .high ∧ e.advice ≠ .closeNow)) t .closeNow).setCloseDeadline t
      (s.highDeadline e (decide (old ≠ .high))) := by
  have deadline (d : Device) (time : d.time = s.time) :
      d.highDeadline e (decide (old ≠ .high)) = s.highDeadline e (decide (old ≠ .high)) := by
    rw [Device.highDeadline, Device.secondsOn, time, Device.highDeadline, Device.secondsOn]
  unfold Device.adviseTank
  rw [present]
  simp only [state, decide_eq_true_eq]
  rw [deadline]
  · simp only [Device.adviseIf, decide_eq_true_eq]
  · split <;> simp

theorem Device.adviseTank_lower (state : e.state = .filling ∨ e.state = .idle) : s.adviseTank t old = s.lowered t old := by
  unfold Device.adviseTank Device.lowered
  rw [present]
  obtain state | state := state <;> simp only [state]

theorem Device.adviseTank_none (state : e.state = .overfill ∨ e.state = .unknown) : s.adviseTank t old = s := by
  unfold Device.adviseTank
  rw [present]
  obtain state | state := state <;> simp only [state]

/-- The advice and the close deadline that the effects of a tank's state leave (R57, R58), and what they hand to the link. -/
theorem Device.adviseTank_at : ∃ v c, (∀ k, (s.adviseTank t old).tank k =
      if k = t then some { e with advice := v, closeDeadline := c } else s.tank k) ∧
    (e.state = .near → v = if old ≠ .near ∧ e.advice = .none then .approaching else e.advice) ∧
    (e.state = .high → v = (if old ≠ .high then .closeNow else e.advice) ∧ c = s.highDeadline e (decide (old ≠ .high))) ∧
    ((e.state = .near ∨ e.state = .filling ∨ e.state = .idle) → c = if old = .high then none else e.closeDeadline) := by
  have lowered := s.lowered_at t old present
  have here := lowered t
  rw [if_pos rfl] at here
  have states : e.state = .near ∨ e.state = .high ∨ (e.state = .filling ∨ e.state = .idle) ∨ (e.state = .overfill ∨ e.state = .unknown) := by
    cases e.state <;> simp
  obtain near | high | lower | none := states
  · refine ⟨if old ≠ .near ∧ e.advice = .none then .approaching else e.advice, if old = .high then none else e.closeDeadline,
      fun k => ?_, fun _ => rfl, fun h => (by simp [near] at h), fun _ => rfl⟩
    rw [s.adviseTank_near t old present near, Device.adviseIf_at _ t here, lowered]
    simp only [decide_eq_true_eq]
    split <;> rfl
  · have advised := s.adviseIf_at t present (decide (old ≠ .high ∧ e.advice ≠ .closeNow)) .closeNow
    refine ⟨if old ≠ .high ∧ e.advice ≠ .closeNow then .closeNow else e.advice, s.highDeadline e (decide (old ≠ .high)),
      fun k => ?_, fun h => (by simp [high] at h), fun _ => ⟨?_, rfl⟩, fun h => (by simp [high] at h)⟩
    · rw [s.adviseTank_high t old present high, Device.setCloseDeadline_at _ t _ (by rw [advised, if_pos rfl]), advised]
      simp only [decide_eq_true_eq]
      split <;> rfl
    · by_cases entered : old = .high <;> by_cases given : e.advice = .closeNow <;> simp [entered, given]
  · refine ⟨e.advice, if old = .high then none else e.closeDeadline, fun k => ?_, fun h => (by simp [h] at lower),
      fun h => (by simp [h] at lower), fun _ => rfl⟩
    rw [s.adviseTank_lower t old present lower, lowered]
  · refine ⟨e.advice, e.closeDeadline, fun k => ?_, fun h => (by simp [h] at none), fun h => (by simp [h] at none),
      fun h => (by obtain h | h | h := h <;> simp [h] at none)⟩
    rw [s.adviseTank_none t old present none]
    split
    · rename_i at_t
      rw [at_t, present]
    · rfl

/-- The advice that the effects of a tank's state hand to the link (R57, R146, R147). -/
theorem Device.adviseTank_handed : ∃ q, Link.Handed s.charter.mode s.link (s.adviseTank t old).link q ∧
    (s.adviseTank t old).link.state = s.link.state ∧ (q ≠ [] ∨ (s.adviseTank t old).link = s.link) ∧
    (e.state = .near → q = if old ≠ .near ∧ e.advice = .none then putAdvice t .approaching s.link.queue else s.link.queue) ∧
    (e.state = .high → q = if old ≠ .high ∧ e.advice ≠ .closeNow then putAdvice t .closeNow s.link.queue else s.link.queue) ∧
    (q = s.link.queue ∨ ∃ v, q = putAdvice t v s.link.queue) := by
  have same (d : Device) (taken : s.adviseTank t old = d) (link : d.link = s.link) :
      Link.Handed s.charter.mode s.link (s.adviseTank t old).link s.link.queue ∧
        (s.adviseTank t old).link.state = s.link.state ∧
        (s.link.queue ≠ [] ∨ (s.adviseTank t old).link = s.link) := by
    rw [taken, link]
    exact ⟨.refl _ _, rfl, .inr rfl⟩
  have link : (s.lowered t old).link = s.link ∧ (s.lowered t old).charter = s.charter := by
    unfold Device.lowered
    split <;> simp
  have chosen {p : Prop} [Decidable p] (v : Advice) : (if p then putAdvice t v s.link.queue else s.link.queue) = s.link.queue ∨
      ∃ w, (if p then putAdvice t v s.link.queue else s.link.queue) = putAdvice t w s.link.queue := by
    split
    · exact .inr ⟨v, rfl⟩
    · exact .inl rfl
  have states : e.state = .near ∨ e.state = .high ∨ (e.state = .filling ∨ e.state = .idle) ∨ (e.state = .overfill ∨ e.state = .unknown) := by
    cases e.state <;> simp
  obtain near | high | lower | none := states
  · have lowered := s.lowered_at t old present t
    rw [if_pos rfl] at lowered
    have handed := (s.lowered t old).adviseIf_handed t lowered (decide (old ≠ .near ∧ e.advice = .none)) .approaching
    rw [← s.adviseTank_near t old present near, link.1, link.2] at handed
    simp only [decide_eq_true_eq] at handed
    obtain ⟨handed, state, queued⟩ := handed
    exact ⟨_, handed, state, queued, fun _ => rfl, fun h => (by simp [near] at h), chosen _⟩
  · have handed := s.adviseIf_handed t present (decide (old ≠ .high ∧ e.advice ≠ .closeNow)) .closeNow
    have after : (s.adviseTank t old).link = (s.adviseIf (decide (old ≠ .high ∧ e.advice ≠ .closeNow)) t .closeNow).link := by
      rw [s.adviseTank_high t old present high]
      simp
    rw [← after] at handed
    simp only [decide_eq_true_eq] at handed
    obtain ⟨handed, state, queued⟩ := handed
    exact ⟨_, handed, state, queued, fun h => (by simp [high] at h), fun _ => rfl, chosen _⟩
  · obtain ⟨handed, state, queued⟩ := same _ (s.adviseTank_lower t old present lower) link.1
    exact ⟨_, handed, state, queued, fun h => (by simp [h] at lower), fun h => (by simp [h] at lower), .inl rfl⟩
  · obtain ⟨handed, state, queued⟩ := same _ (s.adviseTank_none t old present none) rfl
    exact ⟨_, handed, state, queued, fun h => (by simp [h] at none), fun h => (by simp [h] at none), .inl rfl⟩

end

end Sys2Proof.Machine

/-! SUPPORT. The effects of a tank report on its line, from the check of R62 on (R50, R62, R64; O44). -/

namespace Sys2Proof.Machine

open Sys2Proof

/-! ## The effects on the line -/

/-- The effects from the check of R62 on: the last tank, the path, the causes of topping, and the start test (R50). -/
def Device.pathTaken (s : Device) (l : Line) (count : Nat) : Device :=
  (((s.checkLastTank l).placeReports.pathEffect l count ((s.checkLastTank l).placeReports.openTanks l).length).placeReports.handTopping
    l).startTest l

theorem Device.lineEffects_eq (s : Device) (l : Line) (t : TankNo) (old : TankState) (e : Tank) (count : Nat) :
    s.lineEffects l t old e count =
      ((if e.state = .overfill ∧ old ≠ .overfill then s.overfillTrigger l t e else s).adviseTank t old).placeReports.pathTaken l
        count := rfl

section
variable (s : Device) (l : Line)

theorem Device.pathEffect_inactive (old new : Nat) (inactive : (s.line l).state.active = false) : s.pathEffect l old new = s := by
  unfold Device.pathEffect
  rw [if_neg (fun h => ?_), if_neg (fun h => ?_)]
  · obtain ⟨-, -, held⟩ := h
    rw [held] at inactive
    cases inactive
  · obtain ⟨-, -, running⟩ := h
    rw [LineState.active_of_running running] at inactive
    cases inactive

theorem Device.checkLastTank_inactive (inactive : (s.line l).state.active = false) : s.checkLastTank l = s := by
  have stays := s.stopTrigger_state l .lastTankHigh false
  rw [if_neg (by simp [inactive])] at stays
  rw [Device.checkLastTank, stays, ite_self]

theorem Device.pathEffect_link (old new : Nat) : (s.pathEffect l old new).link = s.link := by
  unfold Device.pathEffect
  split
  · exact s.holdTrigger_link l _
  · split
    · exact s.clearHold_link l _
    · rfl

theorem Device.pathTaken_link (count : Nat) : (s.pathTaken l count).link = (s.checkLastTank l).link := by
  rw [Device.pathTaken, Device.startTest_link, Device.handTopping_link]
  simp [Device.pathEffect_link]

theorem Device.checkLastTank_tank (k : TankNo) : (s.checkLastTank l).tank k = s.tank k ∨
    (s.checkLastTank l).tank k = (s.tank k).map (Tank.releasedFrom l) := by
  unfold Device.checkLastTank
  split
  · exact s.stopTrigger_tank l _ _ k
  · exact .inl rfl

theorem Device.pathTaken_tank (count : Nat) (k : TankNo) : (s.pathTaken l count).tank k = s.tank k ∨
    (s.pathTaken l count).tank k = (s.tank k).map (Tank.releasedFrom l) := by
  have checked := s.checkLastTank_tank l k
  rwa [← Device.tank_congr (s.pathTaken l count) (s.checkLastTank l) k (by simp [Device.pathTaken])] at checked

theorem Device.pathTaken_stills (count : Nat) : (s.pathTaken l count).tankStills = s.tankStills := by
  funext k
  unfold Device.tankStills
  obtain same | released := s.pathTaken_tank l count k
  · rw [same]
  · rw [released]
    cases s.tank k with
    | none => rfl
    | some e => simp [Tank.releasedFrom_still]

theorem Device.pathTaken_others (count : Nat) : s.SameOtherLines l (s.pathTaken l count) := fun m other => by
  simp [Device.pathTaken, other]

/-- A line that neither delivers nor is in LINEUP takes the causes of topping alone, and no start. -/
theorem Device.handTopping_settles (delivering : (s.line l).state ≠ .delivering) (topping : (s.line l).state ≠ .topping)
    (lineup : (s.line l).state ≠ .lineup) :
    (s.handTopping l).startTest l = s.recompute l ∧ ∃ y w, (s.retopped l y w).sameFor ((s.handTopping l).startTest l) l := by
  obtain ⟨y, w, same, -⟩ := s.recompute_retopped l
  have taken := s.handTopping_state l delivering (fun h => absurd h topping)
  have stays : (s.recompute l).startTest l = s.recompute l :=
    Device.startTest_none (by rw [(s.recompute_context l).1]; exact lineup)
  rw [taken, stays]
  exact ⟨rfl, y, w, same⟩

/-- What a line that neither delivers nor is in LINEUP sees once the path effect is taken. -/
theorem Device.pathTaken_settles (count : Nat) {d : Device}
    (taken : (s.checkLastTank l).placeReports.pathEffect l count ((s.checkLastTank l).placeReports.openTanks l).length = d)
    (delivering : (d.line l).state ≠ .delivering) (topping : (d.line l).state ≠ .topping) (lineup : (d.line l).state ≠ .lineup) :
    ∃ y w, (d.retopped l y w).sameFor (s.pathTaken l count) l := by
  obtain ⟨-, y, w, same⟩ := d.placeReports.handTopping_settles l (by simpa using delivering) (by simpa using topping)
    (by simpa using lineup)
  refine ⟨y, w, (Device.retopped_sameFor y w (d.placeReports_sameFor l)).trans ?_⟩
  rw [Device.pathTaken, taken]
  exact same

/-- The line's only open tank is HIGH: the line is stopped (R62). -/
theorem Device.pathTaken_stopped (count : Nat) (last : s.lastTankHigh l = true) (active : (s.line l).state.active = true) :
    ∃ y w, ((s.stopTrigger l .lastTankHigh false).retopped l y w).sameFor (s.pathTaken l count) l := by
  have checked : s.checkLastTank l = s.stopTrigger l .lastTankHigh false := by
    rw [Device.checkLastTank, if_pos last]
  have inactive := s.stopTrigger_state l .lastTankHigh false
  rw [if_pos active] at inactive
  have taken := (s.stopTrigger l .lastTankHigh false).placeReports.pathEffect_inactive l count
    ((s.stopTrigger l .lastTankHigh false).placeReports.openTanks l).length (by simpa using inactive)
  rw [← checked] at taken inactive ⊢
  obtain ⟨y, w, same⟩ := s.pathTaken_settles l count taken (fun h => by simp_all [LineState.active])
    (fun h => by simp_all [LineState.active]) (fun h => by simp_all [LineState.active])
  exact ⟨y, w, (Device.retopped_sameFor y w (Device.placeReports_sameFor _ l)).trans same⟩

/-- The last open tank of a running line closes: the line is held (R64). -/
theorem Device.pathTaken_held (count : Nat) (counted : 0 < count) (none : s.openTanks l = [])
    (running : (s.line l).state.running = true) :
    ∃ y w, ((s.placeReports.holdTrigger l .noPath).retopped l y w).sameFor (s.pathTaken l count) l := by
  have checked : s.checkLastTank l = s := by
    rw [Device.checkLastTank, if_neg]
    rw [Device.lastTankHigh, none]
    exact Bool.false_ne_true
  have opened : s.placeReports.openTanks l = [] := none
  have taken : (s.checkLastTank l).placeReports.pathEffect l count ((s.checkLastTank l).placeReports.openTanks l).length =
      s.placeReports.holdTrigger l .noPath := by
    rw [checked, opened, Device.pathEffect, if_pos ⟨counted, rfl, by simpa using running⟩]
  have held : ((s.placeReports.holdTrigger l .noPath).line l).state = .held := by
    have holds : (s.placeReports.line l).state.holdable = true ∨ (s.placeReports.line l).state = .held := by
      cases state : (s.line l).state <;> simp_all [LineState.running, LineState.holdable]
    obtain ⟨⟨state, -⟩, -⟩ := s.placeReports.holdTrigger_taken l .noPath holds
    exact state
  exact s.pathTaken_settles l count taken (by simp [held]) (by simp [held]) (by simp [held])

/-- The first tank of a HELD line to open clears NO_PATH (R64). -/
theorem Device.pathTaken_cleared (last : s.lastTankHigh l = false) (open_ : 0 < (s.openTanks l).length)
    (held : (s.line l).state = .held) (cause : (s.line l).hold.noPath = true) :
    ∃ y w, ((s.placeReports.clearHold l .noPath).retopped l y w).sameFor (s.pathTaken l 0) l := by
  have checked : s.checkLastTank l = s := by
    rw [Device.checkLastTank, last]
    rfl
  have opened : 0 < (s.placeReports.openTanks l).length := open_
  have held' : (s.placeReports.line l).state = .held := by simpa using held
  have taken : (s.checkLastTank l).placeReports.pathEffect l 0 ((s.checkLastTank l).placeReports.openTanks l).length =
      s.placeReports.clearHold l .noPath := by
    rw [checked, Device.pathEffect, if_neg (fun h => Nat.lt_irrefl 0 h.1), if_pos ⟨rfl, opened, held'⟩]
  have moved : ((s.placeReports.clearHold l .noPath).line l).state = .priming ∨
      ((s.placeReports.clearHold l .noPath).line l).state = .held := by
    obtain ⟨-, moves⟩ := s.placeReports.clearHold_cleared l .noPath held' (by simpa [HoldSet.has] using cause)
    split at moves
    · exact .inl moves.1
    · exact .inr moves
  refine s.pathTaken_settles l 0 taken ?_ ?_ ?_
  all_goals
    obtain state | state := moved <;> simp [state]

end

/-! ## The overfill of a tank (R60, R89) -/

/-- A FREE line's context stands through a recomputing. -/
theorem Device.recompute_free (s : Device) (l : Line) (free : (s.line l).state = .free) : (s.recompute l).line l = s.line l := by
  unfold Device.recompute
  simp [free]

/-- The causes of topping taken by a line that trips, or that is FREE, leave the setting of the latch. -/
theorem Device.latchSet_recompute {s d : Device} {c : Cause} {line subject : Nat} (l : Line)
    (set : s.latchSet d c line subject) (state : (s.line l).state.trips = true ∨ (s.line l).state = .free) :
    s.latchSet (d.recompute l) c line subject := by
  obtain ⟨latch, first, firstLine, firstSubject, barge, horn, alarm, lines⟩ := set
  have context (m : Line) : ((d.recompute l).line m).state = (d.line m).state ∧ ((d.recompute l).line m).step = (d.line m).step ∧
      ((d.recompute l).line m).stopCause = (d.line m).stopCause := by
    by_cases here : m = l
    · subst here
      simp
    · simp [here]
  unfold Device.latchSet
  simp only [Device.recompute_keeps]
  refine ⟨latch, first, firstLine, firstSubject, barge, horn, alarm, fun m => ?_⟩
  have taken := lines m
  split
  · rename_i trips
    rw [if_pos trips] at taken
    obtain ⟨state', step, cause⟩ := context m
    rw [state', step, cause]
    simpa [Device.speedClaimed, Device.moveClaimed, Device.claimTaken] using taken
  · rename_i stays
    rw [if_neg stays] at taken
    by_cases here : m = l
    · subst here
      have free := state.resolve_left stays
      rw [Device.recompute_free d m (by rw [taken, free]), taken]
    · simp [here, taken]

/-- The overfill of a tank sets the latch, and nothing moves its line after (R60, R89). -/
theorem Device.pathTaken_latchSet {s d : Device} {c : Cause} {line subject : Nat} (l : Line) (count : Nat)
    (set : s.latchSet d c line subject) (state : (s.line l).state.trips = true ∨ (s.line l).state = .free) :
    s.latchSet (d.pathTaken l count) c line subject ∧ (d.pathTaken l count).link = d.link := by
  have after : (d.line l).state = .tripping ∨ (d.line l).state = .free := by
    obtain ⟨-, -, -, -, -, -, -, lines⟩ := id set
    have taken := lines l
    split at taken
    · exact .inl taken.1
    · rename_i stays
      rw [taken]
      exact .inr (state.resolve_left stays)
  have inactive : (d.line l).state.active = false := by
    obtain after | after := after <;> rw [after] <;> rfl
  have checked := d.checkLastTank_inactive l inactive
  have quiet (d' : Device) (same : d'.line l = d.line l) : (d'.handTopping l).startTest l = d'.recompute l := by
    have apart : (d'.line l).state ≠ .delivering ∧ (d'.line l).state ≠ .topping ∧ (d'.line l).state ≠ .lineup := by
      rw [same]
      obtain after | after := after <;> simp [after]
    obtain ⟨delivering, topping, lineup⟩ := apart
    exact (d'.handTopping_settles l delivering topping lineup).1
  have taken : d.pathTaken l count = d.placeReports.placeReports.recompute l := by
    rw [Device.pathTaken, checked, d.placeReports.pathEffect_inactive l _ _ (by simpa using inactive), quiet _ (by simp)]
  have placed : s.latchSet d.placeReports.placeReports c line subject := by
    simpa [Device.latchSet, Device.speedClaimed, Device.moveClaimed, Device.claimTaken] using set
  rw [taken]
  exact ⟨Device.latchSet_recompute l placed state, by simp⟩

end Sys2Proof.Machine

/-! SUPPORT. A tank report taken (O44). -/

namespace Sys2Proof.Machine

open Sys2Proof

/-! ## A report that enters no overfill -/

/-- The device once the report is stored and the tank is advised. -/
def Device.tankAdvised (s : Device) (r : TankReport) (old : Tank) : Device :=
  ((s.reportStored r old).adviseTank r.tank old.state).placeReports

section
variable {s : Device} {r : TankReport} {old : Tank} {l : Line} (present : s.tank r.tank = some old)
  (assigned : old.assigned = some l)

theorem Device.evaluate_quiet (quiet : ¬((s.reportedTank old r).state = .overfill ∧ old.state ≠ .overfill))
    (present : s.tank r.tank = some old) (assigned : old.assigned = some l) :
    s.evaluate r = (s.tankAdvised r old).pathTaken l (s.topOff l).openCount := by
  obtain ⟨-, -, -, -, -, -, -, kept, -⟩ := s.reportedTank_keeps old r
  rw [Device.evaluate_assigned present (kept.trans assigned), Device.lineEffects_eq, if_neg quiet, Device.countOf, assigned]
  rfl

/-- The tanks once the tank is advised (R57, R58). -/
theorem Device.tankAdvised_tank : ∃ v c, (∀ k, (s.tankAdvised r old).tank k =
      if k = r.tank then some { s.reportedTank old r with advice := v, closeDeadline := c } else s.tank k) ∧
    ((s.reportedTank old r).state = .near → v = if old.state ≠ .near ∧ old.advice = .none then .approaching else old.advice) ∧
    ((s.reportedTank old r).state = .high → v = (if old.state ≠ .high then .closeNow else old.advice) ∧
      c = s.highDeadline (s.reportedTank old r) (decide (old.state ≠ .high))) ∧
    (((s.reportedTank old r).state = .near ∨ (s.reportedTank old r).state = .filling ∨ (s.reportedTank old r).state = .idle) →
      c = if old.state = .high then none else old.closeDeadline) := by
  obtain ⟨-, -, -, -, -, -, -, -, advice, deadline, -⟩ := s.reportedTank_keeps old r
  have stored := s.reportStored_tank r old
  have here := stored r.tank
  rw [if_pos rfl] at here
  obtain ⟨v, c, tanks, near, high, lower⟩ := (s.reportStored r old).adviseTank_at r.tank old.state here
  have same : (s.reportStored r old).highDeadline (s.reportedTank old r) (decide (old.state ≠ .high)) =
      s.highDeadline (s.reportedTank old r) (decide (old.state ≠ .high)) := by
    simp [Device.highDeadline, Device.secondsOn]
  rw [advice] at near high
  rw [deadline] at lower
  rw [same] at high
  have placed (d : Device) (k : TankNo) : d.placeReports.tank k = d.tank k := by simp
  refine ⟨v, c, fun k => ?_, near, high, lower⟩
  rw [Device.tankAdvised, placed, tanks, stored]
  split <;> rfl

include present in
theorem Device.tankAdvised_sameFor (m : Line) : s.sameFor (s.tankAdvised r old) m := by
  obtain ⟨-, -, -, -, -, -, -, kept, -⟩ := s.reportedTank_keeps old r
  obtain ⟨v, c, tanks, -⟩ := s.tankAdvised_tank (r := r) (old := old)
  have nodes : (s.tankAdvised r old).nodes = s.nodes := by simp [Device.tankAdvised]
  refine ⟨by simp [Device.tankAdvised], by simp [Device.tankAdvised], s.sameSettings_of_nodes _ nodes,
    fun n _ => Device.node_congr _ _ n nodes, Device.line_congr _ _ m (by simp [Device.tankAdvised]),
    Device.governor_congr _ _ m (by simp [Device.tankAdvised]), Device.hose_congr _ _ m (by simp [Device.tankAdvised]),
    Device.topOff_congr _ _ m (by simp [Device.tankAdvised]), fun k => ?_⟩
  unfold Device.tankHas
  by_cases here : k = r.tank
  · rw [tanks, if_pos here, here, present]
    dsimp only
    rw [kept]
  · rw [tanks, if_neg here]

include assigned in
/-- The line's open tanks once the tank is advised: the reported one by its report, the others as they were. -/
theorem Device.tankAdvised_opens (k : TankNo) : (s.tankAdvised r old).opens l k =
    if k = r.tank then (s.reportedTank old r).openValve else s.opens l k := by
  obtain ⟨-, -, -, -, -, -, -, kept, -⟩ := s.reportedTank_keeps old r
  obtain ⟨v, c, tanks, -⟩ := s.tankAdvised_tank (r := r) (old := old)
  unfold Device.opens Device.tankHas
  by_cases here : k = r.tank
  · rw [tanks, if_pos here, if_pos here]
    dsimp only
    rw [kept, assigned, decide_eq_true rfl]
    rfl
  · rw [tanks, if_neg here, if_neg here]

theorem Device.tankAdvised_high : (s.tankAdvised r old).tankHas r.tank (fun e => decide (e.state = .high)) =
    decide ((s.reportedTank old r).state = .high) := by
  obtain ⟨v, c, tanks, -⟩ := s.tankAdvised_tank (r := r) (old := old)
  unfold Device.tankHas
  rw [tanks, if_pos rfl]

/-- What the advice hands to the link, and what the last tank's stop hands after it (R57, R62, R146). -/
theorem Device.tankAdvised_handed : ∃ q, Link.Handed s.charter.mode s.link (s.tankAdvised r old).link q ∧
    ((s.reportedTank old r).state = .near →
      q = if old.state ≠ .near ∧ old.advice = .none then putAdvice r.tank .approaching s.link.queue else s.link.queue) ∧
    ((s.reportedTank old r).state = .high →
      q = if old.state ≠ .high ∧ old.advice ≠ .closeNow then putAdvice r.tank .closeNow s.link.queue else s.link.queue) ∧
    Link.Handed s.charter.mode s.link ((s.tankAdvised r old).link.stopping s.charter.mode l .lastTankHigh)
      (putStopping l .lastTankHigh q) := by
  obtain ⟨-, -, -, -, -, -, -, -, advice, -⟩ := s.reportedTank_keeps old r
  have here := s.reportStored_tank r old r.tank
  rw [if_pos rfl] at here
  obtain ⟨q, handed, state, queued, near, high, kind⟩ := (s.reportStored r old).adviseTank_handed r.tank old.state here
  have link : (s.tankAdvised r old).link = ((s.reportStored r old).adviseTank r.tank old.state).link := by
    simp [Device.tankAdvised]
  have before : (s.reportStored r old).link = s.link ∧ (s.reportStored r old).charter = s.charter := by simp
  rw [before.1] at handed state queued near high kind
  rw [before.2] at handed
  rw [advice] at near high
  rw [link]
  refine ⟨q, handed, near, high, handed.stopping l .lastTankHigh state queued (fun e rest d empty at_q same => ?_)⟩
  rw [empty] at kind
  obtain kind | ⟨v, kind⟩ := kind
  · rw [kind] at at_q
    cases at_q
  · rw [kind, same] at at_q
    cases at_q

end

section
variable {s t : Device} {l : Line} (y : ToppingSet) (w : TopOff)

theorem Device.retopped_lineupStopped {c : Cause} (h : s.lineupStopped t l c) : s.lineupStopped (t.retopped l y w) l c := by
  simpa [Device.lineupStopped, Device.closingTaken, Device.valvesClosingTaken, Device.freed, Device.moveClaimed,
    Device.claimTaken, Device.retopped, Device.tankHas] using h

end

theorem Device.sameFor.lineupStopped {s d t u : Device} {l : Line} (start : s.sameFor d l) (settings : s.sameSettings t)
    (finish : t.sameFor u l) {c : Cause} (h : s.lineupStopped t l c) : d.lineupStopped u l c := by
  obtain ⟨time, -, -, nodes, -⟩ := id start
  obtain ⟨-, -, -, nodes', line, -, hose, -, tanks⟩ := id finish
  refine s.lineupStopped_of d t u l c h time (s.sameFor_agree d l start) line hose (fun k none => by rw [tanks k, none])
    (fun n at_l => ?_)
  rw [nodes n at_l, nodes' n ((settings n).2.1.trans at_l)]
  exact ⟨rfl, rfl, rfl, rfl⟩

/-! ## A report that enters overfill -/

section
variable {s : Device} {r : TankReport} {old : Tank} {l : Line} (present : s.tank r.tank = some old)
  (assigned : old.assigned = some l) (holds : s.latchHolds) (clear : s.shutdown.latch = false)
  (overfill : (s.reportedTank old r).state = .overfill) (entered : old.state ≠ .overfill)

include present assigned holds clear overfill entered

theorem Device.evaluate_overfill : s.latchSet (s.evaluate r).finish .overfill (lineNumber l) (tankNumber r.tank) ∧
    Link.Handed s.charter.mode s.link (s.evaluate r).link
      ((allLines.filter (fun m => (s.line m).state.trips)).foldl (fun q m => putStopping m .overfill q) s.link.queue) := by
  obtain ⟨-, -, -, -, -, -, -, kept, -⟩ := s.reportedTank_keeps old r
  have stored := s.reportStored_tank r old r.tank
  rw [if_pos rfl] at stored
  have line (m : Line) : (s.reportStored r old).line m = s.line m := Device.line_congr _ _ m (by simp)
  generalize before : s.reportStored r old = d at *
  have keeps : d.time = s.time ∧ d.nodes = s.nodes ∧ d.lines = s.lines ∧ d.charter = s.charter ∧ d.link = s.link ∧
      d.shutdown.latch = false := by
    simp [← before, clear]
  obtain ⟨time, nodes, lines, charter, link, latch⟩ := keeps
  obtain ⟨v, triggered⟩ : ∃ v, d.overfillTrigger l r.tank (s.reportedTank old r) =
      d.setLatch .overfill (lineNumber l) (tankNumber r.tank) v := by
    rw [Device.overfillTrigger, Device.esdTrigger, latch]
    exact ⟨_, rfl⟩
  have set := d.setLatch_latchSet .overfill (lineNumber l) (tankNumber r.tank) v
  have handed := d.setLatch_link .overfill (lineNumber l) (tankNumber r.tank) v
  have tank : (d.setLatch .overfill (lineNumber l) (tankNumber r.tank) v).tank r.tank = some (s.reportedTank old r) := by
    rw [← stored]
    exact Device.tank_congr _ _ r.tank (by simp)
  have state : (d.line l).state.trips = true ∨ (d.line l).state = .free := by
    obtain ⟨stands, -⟩ := holds l
    rw [if_neg (by simp [clear])] at stands
    rw [line]
    cases state : (s.line l).state <;> simp_all [LineState.trips]
  have taken : s.evaluate r =
      (d.setLatch .overfill (lineNumber l) (tankNumber r.tank) v).placeReports.pathTaken l (s.countOf old) := by
    rw [Device.evaluate_assigned present (kept.trans assigned), Device.lineEffects_eq, before, if_pos ⟨overfill, entered⟩,
      triggered, Device.adviseTank_none _ r.tank old.state tank (.inl overfill)]
  generalize d.setLatch .overfill (lineNumber l) (tankNumber r.tank) v = e at *
  have placed : d.latchSet e.placeReports .overfill (lineNumber l) (tankNumber r.tank) := by
    simpa [Device.latchSet, Device.speedClaimed, Device.moveClaimed, Device.claimTaken] using set
  obtain ⟨set', after⟩ := Device.pathTaken_latchSet l (s.countOf old) placed state
  rw [taken]
  refine ⟨d.latchSet_of s _ _ _ _ _ set' lines.symm charter.symm (by simp) (by simp)
    (fun m => d.carries_nodes _ _ _ m time.symm nodes.symm (by simp))
    (fun m => d.atRest_congr s m _ _ (d.sameSettings_of_nodes s nodes.symm) (fun n _ => Device.node_congr s d n nodes.symm)), ?_⟩
  have all := (Link.handed_stoppings s.charter.mode s.link .overfill (allLines.filter (fun m => (s.line m).state.trips))
    (List.Pairwise.filter _ (by decide))).1
  have sent : e.placeReports.link = e.link := by simp
  rw [after, sent, handed]
  simpa [line, link, charter] using all

end

/-! ## What a report leaves of the tanks -/

theorem Device.pathTaken_mine {s : Device} {l : Line} {count : Nat} {k : TankNo} {e : Tank}
    (at_k : (s.pathTaken l count).tank k = some e) (mine : e.assigned = some l) : s.tank k = some e := by
  obtain same | released := s.pathTaken_tank l count k
  · rw [← same, at_k]
  · rw [at_k] at released
    obtain ⟨f, -, freed⟩ := Option.map_eq_some_iff.mp released.symm
    have other := (Tank.releasedFrom_assigned l l f).mp (by rw [freed, mine])
    exact absurd rfl other.2

/-- What of the tank no release sets is as the report stores it. -/
theorem Device.evaluate_stored {s : Device} {r : TankReport} {old : Tank} (present : s.tank r.tank = some old) :
    ∃ e', (s.evaluate r).tank r.tank = some e' ∧ e'.still = (s.reportedTank old r).still := by
  have stored := s.reportStored_tank r old r.tank
  rw [if_pos rfl] at stored
  have whole (d : Device) (l : Line) (c : Nat) {e : Tank} (at_d : d.tank r.tank = some e)
      (still : e.still = (s.reportedTank old r).still) :
      ∃ e', (d.pathTaken l c).tank r.tank = some e' ∧ e'.still = (s.reportedTank old r).still := by
    have same : ((d.pathTaken l c).tank r.tank).map Tank.still = (d.tank r.tank).map Tank.still :=
      congrFun (d.pathTaken_stills l c) r.tank
    rw [at_d] at same
    obtain ⟨e', at_r, still'⟩ := Option.map_eq_some_iff.mp same
    exact ⟨e', at_r, still'.trans still⟩
  cases mine : (s.reportedTank old r).assigned with
  | none =>
    rw [Device.evaluate_unassigned present mine]
    exact ⟨_, stored, rfl⟩
  | some l =>
    rw [Device.evaluate_assigned present mine, Device.lineEffects_eq]
    generalize s.reportStored r old = d at stored ⊢
    have triggered : (if (s.reportedTank old r).state = .overfill ∧ old.state ≠ .overfill then
        d.overfillTrigger l r.tank (s.reportedTank old r) else d).tank r.tank = some (s.reportedTank old r) := by
      split <;> simp [stored]
    obtain ⟨v, c, tanks, -⟩ := Device.adviseTank_at _ r.tank old.state triggered
    refine whole _ l _ (e := { s.reportedTank old r with advice := v, closeDeadline := c }) ?_ rfl
    have placed (d : Device) : d.placeReports.tank r.tank = d.tank r.tank := by simp
    rw [placed, tanks, if_pos rfl]

/-! ## The line of a tank whose report enters no overfill -/

section
variable {s : Device} {r : TankReport} {old : Tank} {l : Line} (present : s.tank r.tank = some old)
  (assigned : old.assigned = some l)
include present assigned

/-- What holds of the line after the effects, seen from before the report. -/
theorem Device.evaluate_seen {d : Device} (quiet : ¬((s.reportedTank old r).state = .overfill ∧ old.state ≠ .overfill))
    {y : ToppingSet} {w : TopOff} (last : (d.retopped l y w).sameFor ((s.tankAdvised r old).pathTaken l (s.topOff l).openCount) l) :
    (d.retopped l y w).sameFor (s.evaluate r).finish l := by
  rw [Device.evaluate_quiet quiet present assigned]
  exact last.trans (Device.sameFor_of_same l (by simp) (by simp) (by simp) (by simp) (by simp))

theorem Device.evaluate_stops (high : (s.reportedTank old r).state = .high) (opened : (s.reportedTank old r).openValve = true)
    (alone : ∀ k, k ≠ r.tank → s.opens l k = false) :
    ((s.line l).state.running = true → s.stopTaken (s.evaluate r).finish l .lastTankHigh false) ∧
    ((s.line l).state = .lineup → s.lineupStopped (s.evaluate r).finish l .lastTankHigh) := by
  have start := Device.tankAdvised_sameFor present l
  have opens := Device.tankAdvised_opens (s := s) (r := r) assigned
  have only : (s.tankAdvised r old).openTanks l = [r.tank] :=
    Device.openTanks_only (by rw [opens, if_pos rfl, opened]) (fun k other => by rw [opens, if_neg other, alone k other])
  have last : (s.tankAdvised r old).lastTankHigh l = true := by
    rw [Device.lastTankHigh, only]
    exact Device.tankAdvised_high.trans (decide_eq_true high)
  have seen {d : Device} {y : ToppingSet} {w : TopOff} := Device.evaluate_seen (d := d) (y := y) (w := w) present assigned
    (by simp [high])
  obtain ⟨-, -, -, -, line, -⟩ := id start
  have stopped := (s.tankAdvised r old).pathTaken_stopped l (s.topOff l).openCount last
  refine ⟨fun running => ?_, fun lineup => ?_⟩
  · rw [← line] at running
    obtain ⟨y, w, same⟩ := stopped (LineState.active_of_running running)
    exact start.symm.stopTaken (Device.sameSettings_of_stills _ _ (by simp [Device.retopped])) (seen same)
      (Device.retopped_stopTaken y w (Device.stopTrigger_taken _ l .lastTankHigh false running))
  · rw [← line] at lineup
    obtain ⟨y, w, same⟩ := stopped (by rw [lineup]; rfl)
    exact start.symm.lineupStopped (Device.sameSettings_of_stills _ _ (by simp [Device.retopped])) (seen same)
      (Device.retopped_lineupStopped y w (Device.stopTrigger_lineup _ l .lastTankHigh false lineup))

theorem Device.evaluate_holds (quiet : ¬((s.reportedTank old r).state = .overfill ∧ old.state ≠ .overfill))
    (counted : 0 < (s.topOff l).openCount) (closed : (s.reportedTank old r).openValve = false)
    (alone : ∀ k, k ≠ r.tank → s.opens l k = false) (running : (s.line l).state.running = true) :
    s.holdTaken (s.evaluate r).finish l .noPath := by
  have start := Device.tankAdvised_sameFor present l
  have opens := Device.tankAdvised_opens (s := s) (r := r) assigned
  have none : (s.tankAdvised r old).openTanks l = [] := Device.openTanks_none (fun k => by
    by_cases here : k = r.tank
    · rw [opens, if_pos here, closed]
    · rw [opens, if_neg here, alone k here])
  obtain ⟨-, -, -, -, line, -⟩ := id start
  obtain ⟨y, w, same⟩ := (s.tankAdvised r old).pathTaken_held l _ counted none (by rw [line, running])
  have last := Device.evaluate_seen present assigned quiet same
  have start' : s.sameFor (s.tankAdvised r old).placeReports l := start.trans (Device.placeReports_sameFor _ l)
  have holds : ((s.tankAdvised r old).placeReports.line l).state.holdable = true ∨
      ((s.tankAdvised r old).placeReports.line l).state = .held := by
    obtain ⟨-, -, -, -, line', -⟩ := id start'
    rw [line']
    cases state : (s.line l).state <;> simp_all [LineState.running, LineState.holdable]
  exact start'.symm.holdTaken (Device.sameSettings_of_stills _ _ (by simp [Device.retopped])) last
    (Device.retopped_holdTaken y w (Device.holdTrigger_taken _ l .noPath holds))

theorem Device.evaluate_clears (overfill : (s.reportedTank old r).state ≠ .overfill)
    (high : (s.reportedTank old r).state ≠ .high) (counted : (s.topOff l).openCount = 0)
    (opened : (s.reportedTank old r).openValve = true) (held : (s.line l).state = .held)
    (cause : (s.line l).hold.noPath = true) : s.holdCleared (s.evaluate r).finish l .noPath := by
  have start := Device.tankAdvised_sameFor present l
  have opens : (s.tankAdvised r old).opens l r.tank = true := by
    rw [Device.tankAdvised_opens assigned, if_pos rfl, opened]
  have low : (s.tankAdvised r old).lastTankHigh l = false :=
    Device.lastTankHigh_false opens (.inl (Device.tankAdvised_high.trans (decide_eq_false high)))
  have some_ : 0 < ((s.tankAdvised r old).openTanks l).length := List.length_pos_of_mem (Device.mem_openTanks.mpr opens)
  obtain ⟨-, -, -, -, line, -⟩ := id start
  obtain ⟨y, w, same⟩ := (s.tankAdvised r old).pathTaken_cleared l low some_ (by rw [line, held]) (by rw [line, cause])
  rw [← counted] at same
  have last := Device.evaluate_seen present assigned (fun h => overfill h.1) same
  have start' : s.sameFor (s.tankAdvised r old).placeReports l := start.trans (Device.placeReports_sameFor _ l)
  obtain ⟨-, -, -, -, line', -⟩ := id start'
  exact start'.symm.holdCleared (Device.sameSettings_of_stills _ _ (by simp [Device.retopped])) last
    (Device.retopped_holdCleared y w (Device.clearHold_cleared _ l .noPath (by rw [line', held])
      (by rw [line']; exact cause)))

/-- What the report hands to the link when its tank enters, or stands in, NEAR or HIGH (R57, R62, R146). -/
theorem Device.evaluate_handed :
    ((s.reportedTank old r).state = .near → (s.reportedTank old r).openValve = true ∨ (s.line l).state.active = false →
      Link.Handed s.charter.mode s.link (s.evaluate r).link
        (if old.state ≠ .near ∧ old.advice = .none then putAdvice r.tank .approaching s.link.queue else s.link.queue)) ∧
    ∀ q, (s.reportedTank old r).state = .high →
      q = (if old.state ≠ .high ∧ old.advice ≠ .closeNow then putAdvice r.tank .closeNow s.link.queue else s.link.queue) →
      ((s.line l).state.active = false → Link.Handed s.charter.mode s.link (s.evaluate r).link q) ∧
      ((s.line l).state.active = true → (s.reportedTank old r).openValve = true →
        (∀ k, k ≠ r.tank → s.opens l k = false) →
        Link.Handed s.charter.mode s.link (s.evaluate r).link (putStopping l .lastTankHigh q)) ∧
      ((s.reportedTank old r).openValve = true → (∃ k, k ≠ r.tank ∧ s.opens l k = true) →
        Link.Handed s.charter.mode s.link (s.evaluate r).link q) := by
  have start := Device.tankAdvised_sameFor present l
  obtain ⟨-, charter, -, -, line, -⟩ := id start
  have opens := Device.tankAdvised_opens (s := s) (r := r) assigned
  have isHigh := Device.tankAdvised_high (s := s) (r := r) (old := old)
  obtain ⟨q', handed, near, high, stopping⟩ := Device.tankAdvised_handed (s := s) (r := r) (old := old) (l := l)
  have link (quiet : ¬((s.reportedTank old r).state = .overfill ∧ old.state ≠ .overfill)) :
      (s.evaluate r).link = ((s.tankAdvised r old).checkLastTank l).link := by
    rw [Device.evaluate_quiet quiet present assigned, Device.pathTaken_link]
  have stays (low : (s.tankAdvised r old).lastTankHigh l = false) :
      (s.tankAdvised r old).checkLastTank l = s.tankAdvised r old := by
    rw [Device.checkLastTank, low]
    rfl
  have inactive (h : (s.line l).state.active = false) : (s.tankAdvised r old).checkLastTank l = s.tankAdvised r old :=
    Device.checkLastTank_inactive _ l (by rw [line, h])
  refine ⟨fun at_near quiet => ?_, fun q at_high at_q => ?_⟩
  · rw [link (by simp [at_near]), ← near at_near]
    obtain opened | off := quiet
    · rw [stays (Device.lastTankHigh_false (k := r.tank) (by rw [opens, if_pos rfl, opened]) (.inl (by simp [isHigh, at_near])))]
      exact handed
    · rw [inactive off]
      exact handed
  · rw [link (by simp [at_high])]
    obtain rfl : q = q' := at_q.trans (high at_high).symm
    refine ⟨fun off => ?_, fun active opened alone => ?_, fun opened more => ?_⟩
    · rw [inactive off]
      exact handed
    · have only : (s.tankAdvised r old).openTanks l = [r.tank] :=
        Device.openTanks_only (by rw [opens, if_pos rfl, opened]) (fun k other => by rw [opens, if_neg other, alone k other])
      have last : (s.tankAdvised r old).lastTankHigh l = true := by
        rw [Device.lastTankHigh, only]
        exact isHigh.trans (decide_eq_true at_high)
      rw [Device.checkLastTank, if_pos last, Device.stopTrigger_link, line, if_pos active, charter]
      exact stopping
    · obtain ⟨k, other, opens'⟩ := more
      rw [stays (Device.lastTankHigh_false (k := r.tank) (by rw [opens, if_pos rfl, opened])
        (.inr ⟨k, other, by rw [opens, if_neg other, opens']⟩))]
      exact handed

/-- The advice and the close deadline of a tank that its line still holds (R57, R58). -/
theorem Device.evaluate_advises {e' : Tank} (at_t : (s.evaluate r).tank r.tank = some e') (mine : e'.assigned = some l) :
    ((s.reportedTank old r).state = .near → old.state ≠ .near → old.advice = .none → e'.advice = .approaching) ∧
    ((s.reportedTank old r).state = .high → old.state ≠ .high → e'.advice = .closeNow ∧
      e'.closeDeadline = if r.valve = .closed then none else some (s.secondsOn old.closeAllowance)) ∧
    ((s.reportedTank old r).state = .high → old.state = .high → e'.closeDeadline =
      if r.valve = .closed then none
      else if old.closeDeadline = none then some (s.secondsOn old.closeAllowance) else old.closeDeadline) ∧
    (((s.reportedTank old r).state = .near ∨ (s.reportedTank old r).state = .filling ∨ (s.reportedTank old r).state = .idle) →
      old.state = .high → e'.closeDeadline = none) := by
  obtain ⟨-, valve, -, -, -, -, -, -, -, deadline, allowance⟩ := s.reportedTank_keeps old r
  obtain ⟨v, c, tanks, near, high, lower⟩ := s.tankAdvised_tank (r := r) (old := old)
  have kept (quiet : ¬((s.reportedTank old r).state = .overfill ∧ old.state ≠ .overfill)) :
      e'.advice = v ∧ e'.closeDeadline = c := by
    rw [Device.evaluate_quiet quiet present assigned] at at_t
    have same := Device.pathTaken_mine at_t mine
    rw [tanks, if_pos rfl] at same
    obtain rfl := Option.some.inj same
    exact ⟨rfl, rfl⟩
  have highDeadline (entered : Bool) : s.highDeadline (s.reportedTank old r) entered =
      if r.valve = .closed then none
      else if entered = true ∨ old.closeDeadline = none then some (s.secondsOn old.closeAllowance) else old.closeDeadline := by
    rw [Device.highDeadline, valve, deadline, allowance]
  refine ⟨fun at_near left unadvised => ?_, fun at_high left => ?_, fun at_high stood => ?_, fun lowered left => ?_⟩
  · obtain ⟨advice, -⟩ := kept (by simp [at_near])
    rw [advice, near at_near, if_pos ⟨left, unadvised⟩]
  · obtain ⟨advice, deadline'⟩ := kept (by simp [at_high])
    obtain ⟨v', c'⟩ := high at_high
    rw [advice, deadline', v', c', highDeadline]
    simp [left]
  · obtain ⟨-, deadline'⟩ := kept (by simp [at_high])
    obtain ⟨-, c'⟩ := high at_high
    rw [deadline', c', highDeadline]
    simp [stood]
  · obtain ⟨-, deadline'⟩ := kept (by obtain h | h | h := lowered <;> simp [h])
    rw [deadline', lower lowered, if_pos left]

end

/-- Settles O44. -/
theorem tankReportIsStored : Obligations.TankReportIsStored := by
  have taken (bytes : List Byte) (r : TankReport) (s : State) (formed : (Instr.tankReport bytes).wellFormed = true)
      (decoded : decodeShipFrame bytes = some (.tank r)) (taking : s.device.link.taking = true)
      (none : s.device.link.partialFrame = none) :
      ∃ t, exec (.tankReport bytes) s = .next t ∧ t.mem = s.mem ∧ t.device = (s.device.evaluate r).finish := by
    obtain ⟨t, run, mem, device⟩ := s.event_taken (fun d => d.takeBytes bytes)
    obtain ⟨complete, -⟩ := Bool.and_eq_true_iff.mp formed
    refine ⟨t, run, mem, ?_⟩
    rw [device, s.device.takeBytes_complete none complete, if_pos taking, Device.takeFrame, decoded]
  refine ⟨fun k v m c q => ⟨putAdvice_absent k v q, fun front back w at_q first => ?_, putStopping_absent m c q,
    fun front back d at_q first => ?_⟩, fun bytes r s formed decoded taking none => ?_,
    fun bytes r e new l s formed decoded taking none holds present assigned reported => ?_⟩
  · rw [at_q, putAdvice_present k v w front back first]
  · rw [at_q, putStopping_present m c d front back first]
  · obtain ⟨t, run, mem, device⟩ := taken bytes r s formed decoded taking none
    refine ⟨t, run, mem, ?_, by simp [device], by simp [device],
      by simp [device, Device.SameStation, Device.SameClock, Device.SameRing], by simp [device]⟩
    rw [device]
    split
    · rename_i absent
      rw [Device.evaluate_absent absent]
      simp [Device.SamePlant, Device.SameLines]
    · rename_i e present
      obtain ⟨volume, valve, alarm, last, fresh, silence, lost, kept, -⟩ := s.device.reportedTank_keeps e r
      obtain ⟨e', stored, still⟩ := Device.evaluate_stored present
      refine ⟨⟨e', by simpa using stored, (congrArg Tank.volume still).trans volume, (congrArg Tank.valve still).trans valve,
        (congrArg Tank.alarm still).trans alarm, (congrArg Tank.lastReport still).trans last,
        (congrArg Tank.freshness still).trans fresh, (congrArg Tank.silenceExpiry still).trans silence,
        (congrArg Tank.lostExpiry still).trans lost⟩, fun unassigned => ?_⟩
      rw [Device.evaluate_unassigned present (kept.trans unassigned)]
      have tanks := s.device.reportStored_tank r e
      refine ⟨by simp [tanks], fun k other => by simp [tanks, other], by simp [Device.SameLines], by simp, by simp,
        fun changed alarms => ?_⟩
      simpa using s.device.reportStored_alarms r e changed alarms
  · subst reported
    obtain ⟨t, run, mem, device⟩ := taken bytes r s formed decoded taking none
    refine ⟨t, run, ?_⟩
    rw [device]
    have closed (h : ∀ k e2, k ≠ r.tank → s.device.tank k = some e2 → e2.assigned = some l → e2.openValve = false) (k : TankNo)
        (other : k ≠ r.tank) : s.device.opens l k = false := by
      unfold Device.opens Device.tankHas
      split
      · rfl
      · rename_i e2 at_k
        rw [Bool.and_eq_false_imp, decide_eq_true_iff]
        exact h k e2 other at_k
    have opened (h : ∃ k e2, k ≠ r.tank ∧ s.device.tank k = some e2 ∧ e2.assigned = some l ∧ e2.openValve = true) :
        ∃ k, k ≠ r.tank ∧ s.device.opens l k = true := by
      obtain ⟨k, e2, other, at_k, mine, opened⟩ := h
      exact ⟨k, other, by simp [Device.opens, Device.tankHas, at_k, mine, opened]⟩
    have quietly (h : (s.device.reportedTank e r).state ≠ .overfill ∨ e.state = .overfill) :
        ¬((s.device.reportedTank e r).state = .overfill ∧ e.state ≠ .overfill) :=
      fun both => h.elim (fun low => low both.1) both.2
    have link : (s.device.evaluate r).finish.link = (s.device.evaluate r).link := by simp
    obtain ⟨near, high⟩ := Device.evaluate_handed present assigned
    simp only [Device.handed_iff, link]
    refine ⟨fun overfill entered clear => (Device.evaluate_overfill present assigned holds clear overfill entered).1,
      fun e' at_t mine => Device.evaluate_advises present assigned (by simpa using at_t) mine,
      fun at_high open_ alone => Device.evaluate_stops present assigned at_high open_ (closed alone),
      fun quiet counted shut alone running => Device.evaluate_holds present assigned (quietly quiet) counted shut (closed alone) running,
      fun overfill at_high counted open_ held cause =>
        Device.evaluate_clears present assigned overfill at_high counted open_ held cause,
      fun quiet m other => ?_,
      fun overfill entered clear => (Device.evaluate_overfill present assigned holds clear overfill entered).2, near,
      fun q at_high at_q => ?_, by simp, by simp, by simp [Device.SameStation, Device.SameClock, Device.SameRing], by simp⟩
    · have others := (s.device.tankAdvised r e).pathTaken_others l (s.device.topOff l).openCount m other
      obtain ⟨-, -, -, -, line, governor, hose, topOff, -⟩ := Device.tankAdvised_sameFor present m
      rw [Device.evaluate_quiet (quietly quiet) present assigned]
      simpa [line, governor, hose, topOff] using others
    · obtain ⟨off, stopped, more⟩ := high q at_high at_q
      exact ⟨off, fun active open_ alone => stopped active open_ (closed alone), fun open_ h => more open_ (opened h)⟩

end Sys2Proof.Machine

/-! SUPPORT. A REFUSED valve of a line at START_WAIT whose answer makes the valve FRESH (O41). -/

namespace Sys2Proof.Machine

open Sys2Proof

/-! ## The state that refutes O41

Line 1 waits at START_WAIT with its start condition met; DISCHARGE is STALE and has a MOVE in flight. Its REFUSED answer makes
it FRESH first (R109, R113 item 2), which tests the start condition: the line is PRIMING when the end is handed to it, so the
end holds it with LOCAL_VALVE, and no refused lineup claim is noted. -/

/-- A FRESH node of line 1. -/
def waitingNode (k : NodeKind) (r : Role) (v : ValveState) : Node :=
  { Node.blank with kind := k, line := some .l1, role := r, valve := v, travelLimit := 60 }

/-- The MOVE in flight at DISCHARGE. -/
def waitingMove : Transaction := ⟨.move .opened, .sequence, .send, 0, 0, none, none⟩

/-- DISCHARGE, STALE. -/
def staleDischarge : Node := { waitingNode .valve .discharge .opened with stale := true, inFlight := some waitingMove }

/-- The nodes of line 1: PUMP, PRESSURE, FLOW and its four valves. -/
def waitingNodes : Vector Node 31 :=
  (Vector.replicate 31 Node.blank).set 0 (waitingNode .pump .discharge .closed)
    |>.set 1 (waitingNode .pressure .discharge .closed) |>.set 2 (waitingNode .flow .discharge .closed)
    |>.set 3 staleDischarge |>.set 4 (waitingNode .valve .manifold .opened)
    |>.set 5 (waitingNode .valve .returnValve .closed) |>.set 6 (waitingNode .valve .strip .closed)

/-- The device in WATCH, line 1 at START_WAIT, its permit GO and one tank open. -/
def waitingDevice : Device :=
  { Device.reset 0 with
    charter := { CharterUnit.reset with mode := .watch }
    lines := { l1 := { LineContext.reset with state := .lineup, step := .startWait }, l2 := .reset, l3 := .reset }
    nodes := waitingNodes
    topOffs := { (Device.reset 0).topOffs with l1 := ⟨1, [], none⟩ }
    link := { Link.reset with status := some (.all ⟨.go, .unlimited, none⟩) }
    bus := { Bus.reset with slot := some ⟨3, .move .opened, false⟩ } }

def waitingState : State := ⟨waitingDevice, [], []⟩

/-- The bytes of REFUSED from node 4, its flags CLEAR. -/
def refusedSeen : SlotSeen := ⟨false, some [4, 20, 0, 0, 0, 0, 0, 0, 0, 232]⟩

def refusedAnswer : Answer := ⟨.refused, 0, 0, false, false, false⟩

theorem refusedSeen_outcome : slotOutcome 3 .valve (.move .opened) refusedSeen = .answer refusedAnswer := by decide +kernel

theorem waitingDevice_latchHolds : waitingDevice.latchHolds := by
  intro l
  cases l <;> exact ⟨⟨nofun, nofun⟩, fun h => absurd rfl h⟩

/-- The line is PRIMING when the end reaches it, and is held with LOCAL_VALVE. -/
theorem waitingState_result : (match exec (.slotResult refusedSeen) waitingState with
    | .next t => decide ((t.device.line .l1).state = .held) && !(t.device.sequenceMemory .l1).refused.get .discharge
    | _ => false) = true := by decide +kernel

/-- Refutes O41: an answer that makes a STALE valve FRESH moves its line from START_WAIT to PRIMING before the REFUSED end is
handed to it, and PRIMING notes no refused claim. -/
theorem not_aValveThatTakesItsMoveTravels : ¬ Obligations.AValveThatTakesItsMoveTravels := by
  unfold Obligations.AValveThatTakesItsMoveTravels
  rintro ⟨-, ends, -⟩
  obtain ⟨-, refused, -⟩ := ends refusedSeen 3 .l1 .opened waitingMove _ waitingState rfl waitingDevice_latchHolds rfl rfl rfl rfl
    rfl rfl
  obtain ⟨t, run, -, -, -, -, -, noted, -⟩ := refused refusedAnswer refusedSeen_outcome rfl rfl
  have result := waitingState_result
  rw [run] at result
  have unnoted : (t.device.sequenceMemory .l1).refused.get .discharge = false := by simpa using (Bool.and_eq_true_iff.mp result).2
  exact absurd ((noted rfl (.inl rfl)).symm.trans unnoted) (by decide)

end Sys2Proof.Machine

/-! SUPPORT. A pump that becomes FRESH while its node record shows a valve in LOCAL (O40). -/

namespace Sys2Proof.Machine

open Sys2Proof

/-! ## The state that refutes O40

O40 says of every device what a STALE pump's becoming FRESH takes from its line's hold, and nothing of the valve state that a
pump's record holds beside it, which no SPEED sets. Line 1 is HELD with STALE_READING and LOCAL_VALVE, all four valves REMOTE;
the record of its STALE pump holds the valve state LOCAL. Its TAKEN answer makes it FRESH, which clears STALE_READING; the
answer then takes the pump for a valve that leaves LOCAL (R134, the model's `Device.leaveLocal`), and clears LOCAL_VALVE too. -/

/-- The SPEED in flight at the pump. -/
def heldSpeed : Transaction := ⟨.speed 50, .sequence, .send, 0, 0, none, none⟩

/-- The STALE pump, with a valve state LOCAL. -/
def localPump : Node := { waitingNode .pump .discharge .localControl with stale := true, inFlight := some heldSpeed }

/-- The nodes of line 1: PUMP, PRESSURE, FLOW and its four valves. -/
def heldNodes : Vector Node 31 :=
  (Vector.replicate 31 Node.blank).set 0 localPump
    |>.set 1 (waitingNode .pressure .discharge .closed) |>.set 2 (waitingNode .flow .discharge .closed)
    |>.set 3 (waitingNode .valve .discharge .opened) |>.set 4 (waitingNode .valve .manifold .opened)
    |>.set 5 (waitingNode .valve .returnValve .closed) |>.set 6 (waitingNode .valve .strip .closed)

/-- The causes that hold line 1. -/
def heldCauses : HoldSet := { HoldSet.empty with staleReading := true, localValve := true }

/-- The device in WATCH, line 1 HELD. -/
def heldDevice : Device :=
  { Device.reset 0 with
    charter := { CharterUnit.reset with mode := .watch }
    lines := { l1 := { LineContext.reset with state := .held, step := .hold, hold := heldCauses }, l2 := .reset, l3 := .reset }
    nodes := heldNodes
    bus := { Bus.reset with slot := some ⟨0, .speed 50, false⟩ } }

def heldState : State := ⟨heldDevice, [], []⟩

/-- The bytes of TAKEN from node 1, its flags CLEAR. -/
def takenSeen : SlotSeen := ⟨false, some [1, 17, 0, 0, 0, 0, 0, 0, 0, 238]⟩

def takenByPump : Answer := ⟨.taken, 0, 0, false, false, false⟩

theorem takenSeen_outcome : (slotOutcome 0 .pump (.speed 50) takenSeen).refreshing = some takenByPump := by decide +kernel

theorem heldDevice_latchHolds : heldDevice.latchHolds := by
  intro l
  cases l <;> exact ⟨⟨nofun, nofun⟩, fun h => absurd rfl h⟩

/-- The line's node of kind PUMP is node 1, and its becoming FRESH clears STALE_READING. -/
theorem heldDevice_moves : heldDevice.deviceOf .l1 .pump = some 0 ∧ heldDevice.freshMoves 0 .l1 = true := by decide +kernel

/-- LOCAL_VALVE no longer holds the line after the slot. -/
theorem heldState_result : (match exec (.slotResult takenSeen) heldState with
    | .next t => !(t.device.line .l1).hold.localValve
    | _ => false) = true := by decide +kernel

/-- Refutes O40: the pump that becomes FRESH takes LOCAL_VALVE from the hold beside STALE_READING. -/
theorem not_slotResultsAreTaken : ¬ Obligations.SlotResultsAreTaken := by
  unfold Obligations.SlotResultsAreTaken
  rintro ⟨-, -, -, fresh, -⟩
  obtain ⟨pump, moves⟩ := heldDevice_moves
  have flying : (heldDevice.node 0).inFlight = some heldSpeed := rfl
  have speeds (x : Transaction) (h : (heldDevice.node 0).inFlight = some x) :
      NodeKind.pump = .pump ∧ x.act = .speed (actNumber x.act) := by
    obtain rfl := Option.some.inj (flying.symm.trans h)
    exact ⟨rfl, rfl⟩
  obtain ⟨t, run, -, -, -, taken, -⟩ := fresh takenSeen 0 .l1 .pump takenByPump heldState rfl heldDevice_latchHolds rfl (.inl rfl) pump
    speeds rfl takenSeen_outcome nofun nofun nofun
  obtain ⟨held, -⟩ := taken moves
  obtain ⟨hold, -⟩ := held rfl
  have result := heldState_result
  rw [run] at result
  dsimp only at result
  rw [hold] at result
  exact absurd result (by decide)

end Sys2Proof.Machine
